-- ==== Sys2Proof/Word.lean ====
section
/-! DEFINITION. The words the manual counts in: bytes of payloads and images, 16-bit and 32-bit counts. -/

namespace Sys2Proof

/-- A byte of a payload, of the sensor line or of the configuration image. -/
abbrev Byte := BitVec 8

/-- A 16-bit count or mask. -/
abbrev Half := BitVec 16

/-- A 32-bit count (station seconds, R195; the counts of R130 and R136). -/
abbrev Word := BitVec 32

end Sys2Proof
end

