-- ==== Sys2Proof/Syntax.lean ====
section
/-! DEFINITION. The commands: one constructor for each row of spec/opcode_table.json, with its operands. -/

namespace Sys2Proof

/-- The eighteen send slots of Table 9-2. -/
inductive SlotId where
  | table
  | absent
  | reclaim
  | yield
  | release
  | withdraw
  | claim
  | alert
  | join
  | status
  | dormant
  | reply0
  | reply1
  | reply2
  | reply3
  | noticeStart
  | noticeClosed
  | noticeCondition
deriving DecidableEq, Repr

/-- What the tide input shows (R68, R198). -/
inductive Tide where
  | opened
  | shut
deriving DecidableEq, Repr

/-- What a frame command carries beside its class and sub-kind (R170). -/
structure FrameBody where
  sender : BitVec 6
  addressee : BitVec 6
  payload : List Byte
deriving DecidableEq, Repr

/-- A frame whose end field was not clean, as this station received it (R170, R172). -/
structure Reception where
  /-- This station saw the frame's start bit. -/
  followed : Bool
  cls : BitVec 3
  sub : BitVec 3
  sender : BitVec 6
  addressee : BitVec 6
  length : BitVec 7
  /-- The bits between the end of the length field and the delimiter, in order. -/
  tail : List Bool
  /-- A bit time within the frame passed with no opening dominant edge. -/
  bitFault : Bool
deriving DecidableEq, Repr

/-- What this station itself found in an own frame that is aborted (R171, R172). -/
structure SenderFindings where
  /-- It stopped sending without losing arbitration, and received the rest of the frame. -/
  stopped : Bool
  /-- The frame on the line as it read it, which it has followed from the start bit it sent itself. -/
  frame : Reception
deriving DecidableEq, Repr

/-- What one read attempt of the configuration memory gave (R188). -/
inductive ReadAttempt where
  | noAcknowledge
  | clockHeld
  | dataLow
  | bytes (image : List Byte)
deriving DecidableEq, Repr

/-- A reply on the sensor line (R197): its bytes, and whether one had a parity or stop-bit fault. -/
structure SensorReply where
  bytes : List Byte
  byteFault : Bool
deriving DecidableEq, Repr

/-- The commands of spec/opcode_table.json, in the table's order. -/
inductive Instr where
  | powerOn
  | resetLinePulse
  | resetLineRelease
  | configReadAttempt (read : ReadAttempt)
  | configRetryWaitExpiry
  | stationSecondsTick
  | minuteBoundary
  | rainPulse (time : Nat)
  | tideInputChange (level : Tide)
  | tideStateChange
  | sampleTimerExpiry
  | sensorReply (reply : SensorReply)
  | replyWindowClose
  | mergeTimerExpiry
  | lineIdle
  | lostArbitration
  | frameBreakOff
  | frameAbortedOrBusy (rx : Reception)
  | ownFrameAborted (found : SenderFindings)
  | ownFrameBusy
  | busyBackoffExpiry (slot : SlotId)
  | claimSpacingExpiry
  | table (segment : BitVec 2) (f : FrameBody)
  | absent (f : FrameBody)
  | reclaim (f : FrameBody)
  | curtail (f : FrameBody)
  | yield (f : FrameBody)
  | release (f : FrameBody)
  | withdraw (f : FrameBody)
  | claim (sub : BitVec 3) (f : FrameBody)
  | alert (sub : BitVec 3) (f : FrameBody)
  | join (f : FrameBody)
  | status (f : FrameBody)
  | dormant (f : FrameBody)
  | query (f : FrameBody)
  | recack (f : FrameBody)
  | period (f : FrameBody)
  | clear (f : FrameBody)
  | restart (f : FrameBody)
  | record (f : FrameBody)
  | norec (f : FrameBody)
  | counts (f : FrameBody)
  | conditions (f : FrameBody)
  | notice (f : FrameBody)
  | listenTimerExpiry
  | restartHoldExpiry
  | burstHoldExpiry
  | joinWaitExpiry
  | loadTimerExpiry
  | lockTimerExpiry
  | lastHeardExpiry (station : Nat)
  | strandingTimerExpiry (station : Nat)
  | silenceTimerExpiry
  | quietTimerExpiry
  | presenceTimerExpiry
  | refreshTimerExpiry
  | alertAgeExpiry (zone : Nat)
  | stepWindowExpiry
  | calmTimerExpiry
  | parkTimerExpiry
  | dormancyDelayExpiry
  | wakeRecoveryExpiry
  | supplyBelowThreshold
  | unlistedSubKindFrame (cls : BitVec 3) (sub : BitVec 3) (f : FrameBody)
deriving DecidableEq, Repr

end Sys2Proof
end

