-- ==== Sys2Proof/Decode.lean ====
section
/-! DEFINITION. Commands as words: spec/opcode_table.json gives no row any bits (log entry 1). -/

namespace Sys2Proof

/-- No row of the table has bits, so no word spells a command. -/
def decodeTableWord (_nbits _w : Nat) : Option Instr := none

end Sys2Proof
end

