-- ==== Sys2Proof/Config.lean ====
section
/-! DEFINITION. What a load of the configuration memory fixes (Table 10-1), and the free values. -/

namespace Sys2Proof

/-- Line bit rate (R169, R190). -/
inductive BitRate where
  | kbit20
  | kbit50
  | kbit100
deriving DecidableEq, Repr

/-- What a full spill log does with a further record (R138). -/
inductive LogMode where
  | keep
  | overwrite
deriving DecidableEq, Repr

/-- The latched configuration image: the fields of Table 10-1, each in its unit of that table. -/
structure Image where
  station : Nat
  zone : Nat
  /-- The further heeded zones (R99). -/
  heeded : List Nat
  bitRate : BitRate
  /-- The pool P. -/
  pool : Nat
  /-- Max hold H. -/
  maxHold : Nat
  tankEmpty : Nat
  drawdown : Nat
  claimLevel : Nat
  tankFull : Nat
  capture : Nat
  hysteresis : Nat
  crest : Nat
  sampleInterval : Nat
  dormantSample : Nat
  onsetCount : Nat
  settleCount : Nat
  /-- Minutes. -/
  mergeWindow : Nat
  pulseDepth : Nat
  d5Watch : Nat
  d5Warn : Nat
  d5Severe : Nat
  d15Watch : Nat
  d15Warn : Nat
  d15Severe : Nat
  alertRefresh : Nat
  alertLifetime : Nat
  /-- Minutes. -/
  stepWindow : Nat
  /-- Minutes. -/
  calmTime : Nat
  presence : Nat
  absence : Nat
  silence : Nat
  stranding : Nat
  travel : Nat
  park : Nat
  /-- Minutes; 0 is never. -/
  dormancyDelay : Nat
  dormantPresence : Nat
  wakeRecovery : Nat
  logMode : LogMode
  watermark : Nat
  /-- 0 for none. -/
  noticeTarget : Nat
  noticeMask : Half
deriving DecidableEq, Repr

/-- The dormant absence limit, derived at the good load (R190). -/
def Image.dormantAbsence (c : Image) : Nat := 3 * c.dormantPresence

namespace Config

/-- Free value: whether, on a frame that calls for both, the yield rule is taken before the parking
release. Section 12.1 allows either order ("The two may be taken at station 9 in either order"). Log entry 10. -/
opaque yieldBeforeRelease : Nat → Bool

/-- Free value: whether the line is still idle at the moment at which a slot becomes eligible on a line that has been
idle. If it is not, another station's frame has begun, and no command tells of its start bit (R171). Log entry 31. -/
opaque lineStillIdle : Nat → Bool

end Config

end Sys2Proof
end

