-- ==== Sys2Proof/Machine/State.lean ====
section
/-! DEFINITION. Every piece of state the manual gives the chip, block by block, and the chip after reset. -/

namespace Sys2Proof.Machine

open Sys2Proof

/-- A timer: stopped, or running with the full length in ms it was last started with (00_scope.md
section 7). Its expiry is a command (log entry 3). -/
abbrev Timer := Option Nat

/-- A set of the ten condition flags, as the 16-bit flag mask of Table 11-2. -/
abbrev FlagSet := Half

/-! ## Names of states -/

/-- Membership states (Table 2-1). -/
inductive Membership where
  | down
  | listening
  | joining
  | loading
  | linked
  | fallback
  | isolated
deriving DecidableEq, Repr

/-- Roster entry states (R36). -/
inductive EntryState where
  | none
  | joining
  | linked
  | absent
deriving DecidableEq, Repr

/-- Channel qualities of record (Table 3-1, R65). -/
inductive Quality where
  | noSample
  | good
  | suspect
  | failed
deriving DecidableEq, Repr

/-- Inlet machine states (R73). -/
inductive Inlet where
  | shut
  | opened
deriving DecidableEq, Repr

/-- Drain machine states (Table 3-5). -/
inductive Drain where
  | idle
  | wanting
  | draining
  | parked
deriving DecidableEq, Repr

/-- Rain grades, lowest first (chapter 4). -/
inductive Grade where
  | none
  | watch
  | warn
  | severe
deriving DecidableEq, Repr

/-- Readiness states (R103). -/
inductive Readiness where
  | quiet
  | watch
  | armed
  | storm
deriving DecidableEq, Repr

/-- Episode states (Table 6-2). -/
inductive Episode where
  | clear
  | onset
  | spilling
  | settling
  | mergeWait
deriving DecidableEq, Repr

/-- Activity states (Table 8-1). -/
inductive Activity where
  | active
  | dormant
  | waking
deriving DecidableEq, Repr

/-- Load status (R187). -/
inductive LoadStatus where
  | idle
  | reading
  | good
  | bad
deriving DecidableEq, Repr

/-! ## Shared tables -/

/-- One share (Table 1-1): exactly HELD and STRANDED carry a holder. -/
inductive Share where
  | free
  | held (holder : Nat)
  | stranded (holder : Nat)
  | withheld
deriving DecidableEq, Repr

/-- One claim-list entry (R5). -/
structure Claim where
  claimant : Nat
  remaining : Nat
  rank : Nat
deriving DecidableEq, Repr

/-- One roster entry (R36). -/
structure RosterEntry where
  state : EntryState
  dormant : Bool
  urgency : Nat
  lastHeard : Timer
  stranding : Timer
deriving DecidableEq, Repr

/-- One entry of the zone alert table (R95). The age is the ms elapsed since the entry was last set,
while it runs (log entry 6). -/
structure ZoneEntry where
  grade : Grade
  origin : Option Nat
  age : Option Nat
deriving DecidableEq, Repr

/-- The lock that stands while a joiner is loaded (R45): it stands for as long as its 2 s timer runs. -/
structure Lock where
  joiner : Nat
  responder : Nat
  /-- The P of the joiner's JOIN equals this station's (R46). -/
  poolMatches : Bool
deriving DecidableEq, Repr

/-- A zone and a grade: the triggering alert (R103) and the storm part (R128). -/
structure Trigger where
  zone : Nat
  grade : Grade
deriving DecidableEq, Repr

/-! ## Records and requests -/

/-- A spill record as the SC builds it (Table 6-4). TIDE_CUT is set exactly when the tide part is
present, STORM exactly when the storm part is (R135). -/
structure SpillRecord where
  episode : Word
  start : Word
  stop : Word
  seconds : Word
  spells : Nat
  peak : Nat
  depthTime : Word
  period : Half
  sensor : Bool
  resetCut : Bool
  tidePart : Option Word
  stormPart : Option Trigger
deriving DecidableEq, Repr

/-- A record in the spill log (Table 7-1). -/
structure LogRecord where
  sequence : Half
  record : SpillRecord
  announced : Bool
deriving DecidableEq, Repr

/-- What a QUERY asks (R142). -/
inductive QueryKind where
  | records (sequence : Half)
  | counts
  | conditions
  | unknown
deriving DecidableEq, Repr

/-- An entry of the request queue (R142). -/
structure Request where
  requester : Nat
  kind : QueryKind
deriving DecidableEq, Repr

/-- The values of a COUNTS reply (R146). -/
structure CountsValues where
  total : Word
  period : Half
  periodCount : Half
  periodSeconds : Word
  written : Word
  discarded : Word
  overwritten : Word
  episode : Episode
  seconds : Word
deriving DecidableEq, Repr

/-- A reply, as built at the start of service (R144 to R147). -/
inductive Reply where
  | record (position : Nat) (size : Nat) (r : LogRecord)
  | norec (named : Half) (range : Option (Half × Half))
  | counts (v : CountsValues)
  | conditions (latched : FlagSet) (standing : FlagSet)
deriving DecidableEq, Repr

/-! ## The line -/

/-- The values a STATUS carries (R53). -/
structure StatusValues where
  urgency : Nat
  drain : Drain
  inlet : Inlet
  readiness : Readiness
  latched : FlagSet
deriving DecidableEq, Repr

/-- The content of a send slot: everything its frame carries except the sender number (R175). A TABLE
content's payload is built at each offer (R46) and is empty before. -/
inductive Content where
  | table (segment : Nat) (joiner : Nat) (payload : List Byte)
  | absent (stations : List Nat)
  | reclaim (stations : List Nat)
  | yield (share : Nat)
  | release (shares : List Nat)
  | withdraw
  | claim (urgency : Nat) (count : Nat)
  | alert (zone : Nat) (grade : Grade)
  | join (pool : Nat)
  | status (v : StatusValues)
  | dormant
  | reply (requester : Nat) (r : Reply)
  | noticeStart (target : Nat) (episode start : Word) (period : Half) (storm sensor : Bool)
  | noticeClosed (target : Nat) (sequence : Option Half) (r : SpillRecord)
  | noticeCondition (target : Nat) (news latched : FlagSet)
deriving DecidableEq, Repr

/-- EMPTY, PENDING or IN FLIGHT (R175, R176, R179). -/
inductive SlotState where
  | empty
  | pending (c : Content)
  | inFlight (c : Content) (next : Option Content) (cancelled : Bool)
deriving DecidableEq, Repr

/-- A send slot with its busy backoff timer and busy count (R175). -/
structure Slot where
  state : SlotState
  backoff : Timer
  busy : Nat
deriving DecidableEq, Repr

/-- An EMPTY slot (R186). -/
def Slot.blank : Slot := { state := .empty, backoff := none, busy := 0 }

/-- The eighteen slots of Table 9-2. -/
structure Slots where
  table : Slot
  absent : Slot
  reclaim : Slot
  yield : Slot
  release : Slot
  withdraw : Slot
  claim : Slot
  alert : Slot
  join : Slot
  status : Slot
  dormant : Slot
  reply0 : Slot
  reply1 : Slot
  reply2 : Slot
  reply3 : Slot
  noticeStart : Slot
  noticeClosed : Slot
  noticeCondition : Slot
deriving DecidableEq, Repr

/-- Every slot EMPTY (R186). -/
def Slots.blank : Slots :=
  { table := .blank, absent := .blank, reclaim := .blank, yield := .blank, release := .blank,
    withdraw := .blank, claim := .blank, alert := .blank, join := .blank, status := .blank,
    dormant := .blank, reply0 := .blank, reply1 := .blank, reply2 := .blank, reply3 := .blank,
    noticeStart := .blank, noticeClosed := .blank, noticeCondition := .blank }

/-- A frame on the line (R170), less its length and check, which follow from it. -/
structure Frame where
  cls : Nat
  sub : Nat
  sender : Nat
  addressee : Nat
  payload : List Byte
deriving DecidableEq, Repr

/-- The marks a station drives in an end field (R172). -/
structure Marks where
  abort : Bool
  busy : Bool
deriving DecidableEq, Repr

/-! ## The blocks -/

/-- Configuration Loader (chapter 10). -/
structure ClState where
  load : LoadStatus
  image : Option Image
  /-- Failed read attempts of this load. -/
  attempts : Nat
  retry : Timer
  /-- The load follows a reset-line pulse (R192). -/
  afterPulse : Bool
deriving DecidableEq, Repr

/-- Line Controller (chapter 9). -/
structure LcState where
  slots : Slots
  /-- The own frame still on the line whose slot has been emptied (R185). -/
  orphan : Option Frame
  spacing : Timer
  tally : Nat
  /-- Ten bit times without an edge have been seen since the good load (R169). -/
  following : Bool
  /-- The line has been idle (R169) since the last LINE_IDLE, as far as this station's events tell (log entry 9). -/
  idle : Bool
  /-- The marks this station drove in the last end field it took part in. -/
  marks : Marks
  /-- The enabled flags newly latched since a slot was last offered: for an own NOTICE-CONDITION on the line, those newly
  latched after its content was written (R158, log entry 45). -/
  newsSince : FlagSet
deriving DecidableEq, Repr

/-- Membership Unit (chapter 2). -/
structure MuState where
  membership : Membership
  roster : Option (List RosterEntry)
  lock : Option Lock
  failures : Nat
  joinRecord : List Nat
  populated : Bool
  newlyPopulated : Bool
  /-- The segment a LOADING station expects next (R50). -/
  nextSegment : Nat
  listen : Timer
  restartHold : Timer
  burstHold : Timer
  joinWait : Timer
  load : Timer
  presence : Timer
  silence : Timer
  quiet : Timer
deriving DecidableEq, Repr

/-- Share Allocator (chapter 1). A void table is none. -/
structure SaState where
  shares : Option (List Share)
  curtail : Option Nat
  claims : List Claim
  outgoing : List Nat
  withdrawMark : Bool
  releaseMark : Bool
deriving DecidableEq, Repr

/-- Tank Supervisor (chapter 3). -/
structure TsState where
  sampleTimer : Timer
  window : Timer
  chamberLevel : Option Nat
  chamberQuality : Quality
  tankLevel : Option Nat
  tankQuality : Quality
  tide : Tide
  tideStable : Timer
  tideLock : Bool
  urgency : Nat
  inlet : Inlet
  drain : Drain
  parkTimer : Timer
  /-- In PARKED, the wait for no own claim-list entry is over (R81). -/
  parkJudged : Bool
  valve : Nat
deriving DecidableEq, Repr

/-- Rain Unit (chapter 4). A void alert table is none. -/
structure RuState where
  current : Nat
  /-- Completed buckets, newest first. -/
  ring : List Nat
  localGrade : Grade
  lastSent : Grade
  chatter : Option Nat
  refresh : Timer
  alerts : Option (List ZoneEntry)
deriving DecidableEq, Repr

/-- Storm Readiness Monitor (chapter 5). -/
structure SrmState where
  readiness : Readiness
  stepWindow : Timer
  /-- The model's own: no time has passed since the step window started, so an expiry now is of the timer before
  the restart (R108, log entry 41). -/
  stepFresh : Bool
  calm : Timer
  trigger : Option Trigger
deriving DecidableEq, Repr

/-- Onset accumulators (R116). -/
structure Onset where
  start : Word
  seconds : Word
  depthTime : Word
  peak : Nat
  sensor : Bool
deriving DecidableEq, Repr

/-- Spill Counter (chapter 6). -/
structure ScState where
  episode : Episode
  onsetCounter : Nat
  settleCounter : Nat
  onset : Onset
  record : Option SpillRecord
  merge : Timer
  total : Word
  period : Half
  periodCount : Half
  periodSeconds : Word
deriving DecidableEq, Repr

/-- Record Service (chapter 7). -/
structure RsState where
  /-- Oldest first. -/
  log : List LogRecord
  written : Word
  discarded : Word
  overwritten : Word
  /-- Oldest first. -/
  queue : List Request
  /-- The oldest request is in service. -/
  serving : Bool
  latched : FlagSet
  news : FlagSet
deriving DecidableEq, Repr

/-- Activity Controller (chapter 8). -/
structure AcState where
  activity : Activity
  delay : Timer
  recovery : Timer
  wakeMark : Bool
deriving DecidableEq, Repr

/-- The whole chip, its supply, reset and tide inputs, and the queue of waiting commands. -/
structure State where
  supplyGood : Bool
  resetHeld : Bool
  tidePin : Tide
  seconds : Word
  cl : ClState
  lc : LcState
  mu : MuState
  sa : SaState
  ts : TsState
  ru : RuState
  srm : SrmState
  sc : ScState
  rs : RsState
  ac : AcState
  /-- The model's own: how many free values have been drawn (log entries 10 and 31). -/
  freeUsed : Nat
  pending : List Instr
deriving DecidableEq, Repr

/-- No command of this chip stops it: the manual turns every error into state (INVENTORY.md, Faults),
so no reason to fault exists and nothing raises one. Safe. -/
inductive Fault where
deriving DecidableEq, Repr

/-- Reasons to refuse a command. -/
inductive Refusal where
  /-- Raised by exec alone, for a command that has no meaning yet. Safe: the run stops. -/
  | notModelled (mnemonic : String)
deriving DecidableEq, Repr

/-! ## Values after reset -/

/-- R187. -/
def ClState.reset : ClState :=
  { load := .idle, image := none, attempts := 0, retry := none, afterPulse := false }

/-- R186. -/
def LcState.reset : LcState :=
  { slots := .blank, orphan := none, spacing := none, tally := 0, following := false, idle := false,
    marks := { abort := false, busy := false }, newsSince := 0 }

/-- R34. -/
def MuState.reset : MuState :=
  { membership := .down, roster := none, lock := none, failures := 0, joinRecord := [],
    populated := false, newlyPopulated := false, nextSegment := 0, listen := none,
    restartHold := none, burstHold := none, joinWait := none, load := none, presence := none,
    silence := none, quiet := none }

/-- R2, R5, R27, R30, R31. -/
def SaState.reset : SaState :=
  { shares := none, curtail := none, claims := [], outgoing := [], withdrawMark := false,
    releaseMark := false }

/-- Table 3-6. The tide state of record before the good load is a DESIGN CHOICE (log entry 5). -/
def TsState.reset : TsState :=
  { sampleTimer := none, window := none, chamberLevel := none, chamberQuality := .noSample,
    tankLevel := none, tankQuality := .noSample, tide := .opened, tideStable := none,
    tideLock := false, urgency := 0, inlet := .opened, drain := .idle, parkTimer := none,
    parkJudged := false, valve := 0 }

/-- An alert table entry of NONE (R95). -/
def ZoneEntry.blank : ZoneEntry := { grade := .none, origin := none, age := none }

/-- R102. -/
def RuState.reset : RuState :=
  { current := 0, ring := [], localGrade := .none, lastSent := .none, chatter := none,
    refresh := none, alerts := some (List.replicate 15 .blank) }

/-- R103. -/
def SrmState.reset : SrmState :=
  { readiness := .quiet, stepWindow := none, stepFresh := false, calm := none, trigger := none }

/-- Cleared accumulators (R116). -/
def Onset.blank : Onset := { start := 0, seconds := 0, depthTime := 0, peak := 0, sensor := false }

/-- R116, R130. -/
def ScState.reset : ScState :=
  { episode := .clear, onsetCounter := 0, settleCounter := 0, onset := .blank, record := none,
    merge := none, total := 0, period := 0, periodCount := 0, periodSeconds := 0 }

/-- R136, R142, R154, R158. -/
def RsState.reset : RsState :=
  { log := [], written := 0, discarded := 0, overwritten := 0, queue := [], serving := false,
    latched := 0, news := 0 }

/-- R160. -/
def AcState.reset : AcState :=
  { activity := .active, delay := none, recovery := none, wakeMark := false }

/-- The chip in the power-on state, its supply not yet up (R187; log entry 4). -/
def State.reset : State :=
  { supplyGood := false, resetHeld := false, tidePin := .opened, seconds := 0, cl := .reset,
    lc := .reset, mu := .reset, sa := .reset, ts := .reset, ru := .reset, srm := .reset,
    sc := .reset, rs := .reset, ac := .reset, freeUsed := 0, pending := [] }

end Sys2Proof.Machine
end

