-- ==== Sys2Proof/Machine/Ops.lean ====
section
/-! DEFINITION. The operations every block uses: fixed times, saturating counts, block updates, the send
slots, the roster and the share table as tables. -/

namespace Sys2Proof.Machine

open Sys2Proof

/-! ## Times (ms) -/

def secondsMs (n : Nat) : Nat := 1000 * n
def minutesMs (n : Nat) : Nat := 60000 * n
/-- The wait after a failed read attempt (R188). -/
def retryMs : Nat := 10
/-- The lock timeout, which is also the load timer and the burst hold (R41, R42, R45). -/
def lockMs : Nat := 2000
/-- The join wait (R42). -/
def joinWaitMs : Nat := 3000
/-- The busy backoff (R183). -/
def backoffMs : Nat := 100
/-- The claim spacing (R184). -/
def spacingMs : Nat := 250
/-- How long the tide input must show a level (R68). -/
def tideMs : Nat := 2000
/-- Pulses closer to the last counted one than this are chatter (R88). -/
def chatterMs : Nat := 1000
/-- Most tank stations (R36). -/
def stationCount : Nat := 48
/-- Most records in the log (R136). -/
def logSize : Nat := 32
/-- Most requests in the queue (R141). -/
def queueSize : Nat := 4
/-- Most shares a station may hold or wait for (R10). -/
def holdLimit : Nat := 8
/-- The abort tally that is a line fault (R182). -/
def faultTally : Nat := 8
/-- The busy count at which a reply is abandoned (R183). -/
def abandonCount : Nat := 4

/-! ## Counts and sets -/

/-- A 32-bit count that stops at its largest value (R120). -/
def satAddWord (a : Word) (n : Nat) : Word := BitVec.ofNat 32 (min (a.toNat + n) (2 ^ 32 - 1))

/-- A 16-bit count that stops at its largest value (R130). -/
def satAddHalf (a : Half) (n : Nat) : Half := BitVec.ofNat 16 (min (a.toNat + n) (2 ^ 16 - 1))

/-- The union of two sets of numbers below n, rising. -/
def unionBelow (n : Nat) (a b : List Nat) : List Nat :=
  (List.range n).filter fun i => a.contains i || b.contains i

/-- The members of a that are not in b. -/
def without (a b : List Nat) : List Nat := a.filter fun i => !b.contains i

/-- Change the entry at an index, if there is one. -/
def updateAt {α : Type} (f : α → α) : Nat → List α → List α
  | _, [] => []
  | 0, x :: l => f x :: l
  | i + 1, x :: l => x :: updateAt f i l

/-! ## Block updates -/

def State.mapCl (s : State) (f : ClState → ClState) : State := { s with cl := f s.cl }
def State.mapLc (s : State) (f : LcState → LcState) : State := { s with lc := f s.lc }
def State.mapMu (s : State) (f : MuState → MuState) : State := { s with mu := f s.mu }
def State.mapSa (s : State) (f : SaState → SaState) : State := { s with sa := f s.sa }
def State.mapTs (s : State) (f : TsState → TsState) : State := { s with ts := f s.ts }
def State.mapRu (s : State) (f : RuState → RuState) : State := { s with ru := f s.ru }
def State.mapSrm (s : State) (f : SrmState → SrmState) : State := { s with srm := f s.srm }
def State.mapSc (s : State) (f : ScState → ScState) : State := { s with sc := f s.sc }
def State.mapRs (s : State) (f : RsState → RsState) : State := { s with rs := f s.rs }
def State.mapAc (s : State) (f : AcState → AcState) : State := { s with ac := f s.ac }

/-- The latched image of a station that is not DOWN: what every block works from (R192). Nothing
in DOWN takes a frame, a sample, a pulse or a timer (R34, R193). -/
def State.running (s : State) : Option Image :=
  if s.mu.membership = .down then none else s.cl.image

/-! ## Send slots -/

def Slots.get (t : Slots) : SlotId → Slot
  | .table => t.table
  | .absent => t.absent
  | .reclaim => t.reclaim
  | .yield => t.yield
  | .release => t.release
  | .withdraw => t.withdraw
  | .claim => t.claim
  | .alert => t.alert
  | .join => t.join
  | .status => t.status
  | .dormant => t.dormant
  | .reply0 => t.reply0
  | .reply1 => t.reply1
  | .reply2 => t.reply2
  | .reply3 => t.reply3
  | .noticeStart => t.noticeStart
  | .noticeClosed => t.noticeClosed
  | .noticeCondition => t.noticeCondition

def Slots.set (t : Slots) (x : Slot) : SlotId → Slots
  | .table => { t with table := x }
  | .absent => { t with absent := x }
  | .reclaim => { t with reclaim := x }
  | .yield => { t with yield := x }
  | .release => { t with release := x }
  | .withdraw => { t with withdraw := x }
  | .claim => { t with claim := x }
  | .alert => { t with alert := x }
  | .join => { t with join := x }
  | .status => { t with status := x }
  | .dormant => { t with dormant := x }
  | .reply0 => { t with reply0 := x }
  | .reply1 => { t with reply1 := x }
  | .reply2 => { t with reply2 := x }
  | .reply3 => { t with reply3 := x }
  | .noticeStart => { t with noticeStart := x }
  | .noticeClosed => { t with noticeClosed := x }
  | .noticeCondition => { t with noticeCondition := x }

/-- All slots, in slot-number order (Table 9-2). -/
def allSlots : List SlotId :=
  [.table, .absent, .reclaim, .yield, .release, .withdraw, .claim, .alert, .join, .status, .dormant,
   .reply0, .reply1, .reply2, .reply3, .noticeStart, .noticeClosed, .noticeCondition]

/-- The four reply slots. -/
def replySlots : List SlotId := [.reply0, .reply1, .reply2, .reply3]

/-- Slots 12 to 15. -/
def isReplySlot : SlotId → Bool
  | .reply0 => true
  | .reply1 => true
  | .reply2 => true
  | .reply3 => true
  | _ => false

/-- The class of a slot's frames (Table 9-2). -/
def slotClass : SlotId → Nat
  | .table => 0
  | .absent => 1
  | .reclaim => 1
  | .yield => 2
  | .release => 2
  | .withdraw => 2
  | .claim => 3
  | .alert => 4
  | .join => 5
  | .status => 5
  | .dormant => 5
  | _ => 7

def State.slot (s : State) (id : SlotId) : Slot := s.lc.slots.get id

def State.setSlot (s : State) (id : SlotId) (x : Slot) : State :=
  s.mapLc fun l => { l with slots := l.slots.set x id }

def SlotState.isEmpty : SlotState → Bool
  | .empty => true
  | _ => false

def SlotState.isPending : SlotState → Bool
  | .pending _ => true
  | _ => false

def SlotState.isInFlight : SlotState → Bool
  | .inFlight _ _ _ => true
  | _ => false

def State.slotEmpty (s : State) (id : SlotId) : Bool := (s.slot id).state.isEmpty
def State.slotPending (s : State) (id : SlotId) : Bool := (s.slot id).state.isPending
def State.slotInFlight (s : State) (id : SlotId) : Bool := (s.slot id).state.isInFlight

/-- Every slot number is EMPTY among the given ones. -/
def State.slotsEmpty (s : State) (ids : List SlotId) : Bool := ids.all s.slotEmpty

/-- The newest content written and not yet accepted: the next content, or else the content. -/
def SlotState.newest : SlotState → Option Content
  | .empty => none
  | .pending c => some c
  | .inFlight c next _ => some (next.getD c)

/-- How a write meets the content that waits: a union in the three merging slots, else the new
content (R175, R176). -/
def mergeContent : Content → Content → Content
  | .absent a, .absent b => .absent (unionBelow 49 a b)
  | .reclaim a, .reclaim b => .reclaim (unionBelow 49 a b)
  | .release a, .release b => .release (unionBelow 64 a b)
  | _, new => new

/-- A write into a slot (R175, R176): the busy count goes to 0, and the backoff timer stops only if
the slot was EMPTY. -/
def Slot.write (x : Slot) (c : Content) : Slot :=
  match x.state with
  | .empty => { state := .pending c, backoff := none, busy := 0 }
  | .pending old => { x with state := .pending (mergeContent old c), busy := 0 }
  | .inFlight f next cancelled =>
    let n := match next with
      | none => c
      | some m => mergeContent m c
    { x with state := .inFlight f (some n) cancelled, busy := 0 }

/-- A cancel (R179). -/
def Slot.cancel (x : Slot) : Slot :=
  match x.state with
  | .empty => x
  | .pending _ => Slot.blank
  | .inFlight f _ _ => { x with state := .inFlight f none true }

/-- The end of a flight that was accepted (R176, R180). -/
def Slot.accepted (x : Slot) : Slot :=
  match x.state with
  | .inFlight _ (some n) _ => { state := .pending n, backoff := none, busy := 0 }
  | .inFlight _ none _ => Slot.blank
  | _ => x

/-- The end of a flight that was aborted, busy or lost arbitration (R176, R179). -/
def Slot.failed (x : Slot) : Slot :=
  match x.state with
  | .inFlight _ (some n) true => { x with state := .pending n }
  | .inFlight _ none true => Slot.blank
  | .inFlight c (some n) false => { x with state := .pending (mergeContent c n) }
  | .inFlight c none false => { x with state := .pending c }
  | _ => x

def State.writeSlot (s : State) (id : SlotId) (c : Content) : State :=
  s.setSlot id ((s.slot id).write c)

def State.cancelSlot (s : State) (id : SlotId) : State :=
  s.setSlot id (s.slot id).cancel

/-- The slot whose frame is on the line, if one is. -/
def State.flight (s : State) : Option SlotId := allSlots.find? s.slotInFlight

/-- The flight of a slot has been marked cancelled (R179). -/
def State.flightCancelled (s : State) (id : SlotId) : Bool :=
  match (s.slot id).state with
  | .inFlight _ _ cancelled => cancelled
  | _ => false

/-- The MU's pruning of a PENDING set of stations; an emptied set empties the slot (R179). -/
def Slot.prune (x : Slot) (stations : List Nat) : Slot :=
  match x.state with
  | .pending (.absent a) =>
    match without a stations with
    | [] => Slot.blank
    | rest => { x with state := .pending (.absent rest) }
  | .pending (.reclaim a) =>
    match without a stations with
    | [] => Slot.blank
    | rest => { x with state := .pending (.reclaim rest) }
  | _ => x

def State.pruneSlot (s : State) (id : SlotId) (stations : List Nat) : State :=
  s.setSlot id ((s.slot id).prune stations)

/-! ## The roster -/

/-- An entry of NONE. -/
def RosterEntry.blank : RosterEntry :=
  { state := .none, dormant := false, urgency := 0, lastHeard := none, stranding := none }

/-- Tank station numbers are 1 to 48. -/
def isTank (n : Nat) : Bool := decide (1 ≤ n ∧ n ≤ 48)

/-- Listening station numbers are 49 to 62. -/
def isListener (n : Nat) : Bool := decide (49 ≤ n ∧ n ≤ 62)

/-- The tank station numbers. -/
def tankNumbers : List Nat := (List.range 49).drop 1

/-- Station n's roster entry; a void roster has none. -/
def State.entry (s : State) (n : Nat) : RosterEntry :=
  match s.mu.roster with
  | none => .blank
  | some r => if n = 0 then .blank else r.getD (n - 1) .blank

def State.entryState (s : State) (n : Nat) : EntryState := (s.entry n).state

def State.isLinked (s : State) (n : Nat) : Bool := decide ((s.entry n).state = .linked)

def State.rosterUrgency (s : State) (n : Nat) : Nat := (s.entry n).urgency

/-- Change station n's roster entry, if the roster is valid. -/
def State.mapEntry (s : State) (n : Nat) (f : RosterEntry → RosterEntry) : State :=
  s.mapMu fun m => { m with roster := m.roster.map fun r => if n = 0 then r else updateAt f (n - 1) r }

/-- Station n's entry becomes NONE, its timers stopped. -/
def State.clearEntry (s : State) (n : Nat) : State := s.mapEntry n fun _ => .blank

/-! ## The share table and the claim list -/

/-- The indices of the shares HELD by station n, rising. -/
def heldBy (shares : List Share) (n : Nat) : List Nat :=
  (List.range shares.length).filter fun i => decide (shares.getD i .free = .held n)

/-- Station n's holdings; a void table gives none (R1, R2). -/
def State.holdings (s : State) (n : Nat) : List Nat :=
  match s.sa.shares with
  | none => []
  | some sh => heldBy sh n

/-- Station n's claim-list entry. -/
def State.claimOf (s : State) (n : Nat) : Option Claim := s.sa.claims.find? fun e => decide (e.claimant = n)

def State.hasClaim (s : State) (n : Nat) : Bool := (s.claimOf n).isSome

/-- The state a share takes when it is returned (R8). -/
def returnedShare (q i : Nat) : Share := if i < q then .free else .withheld

/-- Return every share that p names (R8). -/
def returnShares (q : Nat) (p : Nat → Share → Bool) (shares : List Share) : List Share :=
  shares.mapIdx fun i x => if p i x then returnedShare q i else x

/-- At least one share that p names becomes FREE on its return. -/
def freesShare (q : Nat) (p : Nat → Share → Bool) (shares : List Share) : Bool :=
  (List.range shares.length).any fun i => p i (shares.getD i .free) && decide (i < q)

/-- After an entry of rank r has gone, the higher ranks fall by 1 (R6). -/
def closeRank (r : Nat) (l : List Claim) : List Claim :=
  l.map fun e => if r < e.rank then { e with rank := e.rank - 1 } else e

/-- Remove station n's entry, if it has one (R6). -/
def removeClaim (n : Nat) (l : List Claim) : List Claim :=
  match l.find? fun e => decide (e.claimant = n) with
  | none => l
  | some e => closeRank e.rank (l.filter fun x => !decide (x.claimant = n))

/-- The allocation rule (R9): the FREE shares, rising, each to the head of the list. -/
def allocate : List Share → List Claim → List Share × List Claim
  | [], cl => ([], cl)
  | .free :: sh, h :: t =>
    let rest := if h.remaining ≤ 1 then closeRank h.rank t
      else { h with remaining := h.remaining - 1 } :: t
    let r := allocate sh rest
    (.held h.claimant :: r.1, r.2)
  | x :: sh, cl =>
    let r := allocate sh cl
    (x :: r.1, r.2)

/-- Take up to k FREE shares, rising, for station n; the second part is how many were wanting (R11). -/
def takeFree (n : Nat) : Nat → List Share → List Share × Nat
  | k, [] => ([], k)
  | 0, sh => (sh, 0)
  | k + 1, .free :: sh =>
    let r := takeFree n k sh
    (.held n :: r.1, r.2)
  | k + 1, x :: sh =>
    let r := takeFree n (k + 1) sh
    (x :: r.1, r.2)

/-- The list's order: falling roster urgency, then rising rank (R5). -/
def claimBefore (urgency : Nat → Nat) (a b : Claim) : Bool :=
  decide (urgency b.claimant < urgency a.claimant) ||
    (decide (urgency a.claimant = urgency b.claimant) && decide (a.rank < b.rank))

/-- Put an entry at its place in an ordered list. -/
def insertClaim (urgency : Nat → Nat) (e : Claim) : List Claim → List Claim
  | [] => [e]
  | x :: l => if claimBefore urgency e x then e :: x :: l else x :: insertClaim urgency e l

/-- The entries in the list's order (R5, R7). -/
def orderClaims (urgency : Nat → Nat) : List Claim → List Claim
  | [] => []
  | e :: l => insertClaim urgency e (orderClaims urgency l)

/-- Bring the claim list to its order after a change of roster urgency (R7). -/
def State.reorderClaims (s : State) : State :=
  s.mapSa fun a => { a with claims := orderClaims s.rosterUrgency a.claims }

end Sys2Proof.Machine
end

