-- ==== Sys2Proof/Machine/Operands.lean ====
section
/-! DEFINITION. The layouts of chapter 11: sets, code values, payloads, frame bits, TABLE segments, the
sensor reply and the configuration image, in both directions where the chip uses both. -/

namespace Sys2Proof.Machine

open Sys2Proof

/-! ## Bits and bytes -/

/-- The byte whose bit i is f i. -/
def byteOfBits (f : Nat → Bool) : Byte :=
  BitVec.ofNat 8 (((List.range 8).filter f).foldl (fun a i => a + 2 ^ i) 0)

/-- Byte i of a payload or image, 0 past its end. -/
def byteAt (l : List Byte) (i : Nat) : Byte := l.getD i 0

/-- The number in byte i. -/
def numAt (l : List Byte) (i : Nat) : Nat := (byteAt l i).toNat

/-- The 16-bit number at byte i, high byte first. -/
def num16At (l : List Byte) (i : Nat) : Nat := 256 * numAt l i + numAt l (i + 1)

/-- The 16-bit word at byte i, high byte first. -/
def halfAt (l : List Byte) (i : Nat) : Half := BitVec.ofNat 16 (num16At l i)

def bytes8 (n : Nat) : List Byte := [BitVec.ofNat 8 n]
def bytes16 (n : Nat) : List Byte := [BitVec.ofNat 8 (n / 256), BitVec.ofNat 8 n]
def bytes32 (w : Word) : List Byte := bytes16 (w.toNat / 65536) ++ bytes16 (w.toNat % 65536)

/-- The low w bits of n, most significant first. -/
def bitsOf : Nat → Nat → List Bool
  | 0, _ => []
  | w + 1, n => n.testBit w :: bitsOf w n

/-- The bits of a byte string, each byte most significant bit first. -/
def bitsOfBytes (l : List Byte) : List Bool := l.flatMap fun b => bitsOf 8 b.toNat

/-- One step of the check register, generator x^16 + x^12 + x^5 + 1 (R170, R189). -/
def crcStep (r : Half) (b : Bool) : Half :=
  let shifted := r <<< 1
  if r.msb != b then shifted ^^^ 0x1021#16 else shifted

/-- The check over a run of bits, preset to all ones (R170, R189). -/
def crc (bits : List Bool) : Half := bits.foldl crcStep 0xFFFF#16

/-! ## Sets (Table 11-2) -/

/-- Station s is bit 7 − ((s − 1) mod 8) of byte (s − 1) div 8. -/
def stationSetBytes (set : List Nat) : List Byte :=
  (List.range 6).map fun k => byteOfBits fun b => set.contains (8 * k + (7 - b) + 1)

def stationsOf (l : List Byte) : List Nat :=
  tankNumbers.filter fun s => (byteAt l ((s - 1) / 8)).getLsbD (7 - (s - 1) % 8)

/-- Share i is bit 7 − (i mod 8) of byte i div 8. -/
def shareSetBytes (set : List Nat) : List Byte :=
  (List.range 8).map fun k => byteOfBits fun b => set.contains (8 * k + (7 - b))

def sharesOf (l : List Byte) : List Nat :=
  (List.range 64).filter fun i => (byteAt l (i / 8)).getLsbD (7 - i % 8)

/-! ## Code values (Table 11-2) -/

def Grade.code : Grade → Nat
  | .none => 0
  | .watch => 1
  | .warn => 2
  | .severe => 3

def gradeOf (n : Nat) : Grade :=
  match n with
  | 0 => .none
  | 1 => .watch
  | 2 => .warn
  | _ => .severe

/-- The higher of two grades. -/
def Grade.max (a b : Grade) : Grade := if a.code ≤ b.code then b else a

def Drain.code : Drain → Nat
  | .idle => 0
  | .wanting => 1
  | .draining => 2
  | .parked => 3

def Inlet.code : Inlet → Nat
  | .shut => 0
  | .opened => 1

def Readiness.code : Readiness → Nat
  | .quiet => 0
  | .watch => 1
  | .armed => 2
  | .storm => 3

def Episode.code : Episode → Nat
  | .clear => 0
  | .onset => 1
  | .spilling => 2
  | .settling => 3
  | .mergeWait => 4

def EntryState.code : EntryState → Nat
  | .none => 0
  | .joining => 1
  | .linked => 2
  | .absent => 3

def entryStateOf (n : Nat) : EntryState :=
  match n with
  | 0 => .none
  | 1 => .joining
  | 2 => .linked
  | _ => .absent

/-- Bit 0 or 1 as a number. -/
def flagBit (b : Bool) (v : Nat) : Nat := if b then v else 0

/-! ## Payloads the station sends (Tables 11-3, 11-5, 11-6, 11-7) -/

/-- The record's flag byte, ANNOUNCED left out. -/
def SpillRecord.flagBits (r : SpillRecord) : Nat :=
  flagBit r.stormPart.isSome 1 + flagBit r.tidePart.isSome 2 + flagBit r.sensor 4 + flagBit r.resetCut 8

/-- The record layout of Table 11-5. -/
def LogRecord.bytes (r : LogRecord) : List Byte :=
  bytes16 r.sequence.toNat ++ bytes32 r.record.episode ++ bytes32 r.record.start ++
    bytes32 r.record.stop ++ bytes32 r.record.seconds ++ bytes8 r.record.spells ++
    bytes16 r.record.peak ++ bytes32 r.record.depthTime ++ bytes16 r.record.period.toNat ++
    bytes8 (r.record.flagBits + flagBit r.announced 16) ++
    (match r.record.tidePart with
      | none => []
      | some t => bytes32 t) ++
    (match r.record.stormPart with
      | none => []
      | some t => bytes8 (16 * t.zone + t.grade.code))

/-- Table 11-6. -/
def CountsValues.bytes (v : CountsValues) : List Byte :=
  bytes32 v.total ++ bytes16 v.period.toNat ++ bytes16 v.periodCount.toNat ++
    bytes32 v.periodSeconds ++ bytes32 v.written ++ bytes32 v.discarded ++ bytes32 v.overwritten ++
    bytes8 v.episode.code ++ bytes32 v.seconds

def Reply.bytes : Reply → List Byte
  | .record position size r => bytes8 position ++ bytes8 size ++ r.bytes
  | .norec named none => bytes16 named.toNat ++ bytes8 1 ++ bytes16 0 ++ bytes16 0
  | .norec named (some (oldest, newest)) =>
    bytes16 named.toNat ++ bytes8 0 ++ bytes16 oldest.toNat ++ bytes16 newest.toNat
  | .counts v => v.bytes
  | .conditions latched standing => bytes16 latched.toNat ++ bytes16 standing.toNat

/-- The class-7 sub-kind of a reply (Table 0-3). -/
def Reply.sub : Reply → Nat
  | .record _ _ _ => 0
  | .norec _ _ => 1
  | .counts _ => 2
  | .conditions _ _ => 3

def StatusValues.bytes (v : StatusValues) : List Byte :=
  bytes8 (64 * v.readiness.code + 16 * v.drain.code + 8 * v.inlet.code + v.urgency) ++
    bytes16 v.latched.toNat

/-- The payload of a slot's frame. -/
def Content.payload : Content → List Byte
  | .table _ _ payload => payload
  | .absent set => stationSetBytes set
  | .reclaim set => stationSetBytes set
  | .yield share => bytes8 share
  | .release set => shareSetBytes set
  | .withdraw => []
  | .claim _ count => bytes8 count
  | .alert zone _ => bytes8 zone
  | .join pool => bytes8 pool
  | .status v => v.bytes
  | .dormant => []
  | .reply _ r => r.bytes
  | .noticeStart _ episode start period storm sensor =>
    bytes8 0 ++ bytes32 episode ++ bytes32 start ++ bytes16 period.toNat ++
      bytes8 (flagBit storm 1 + flagBit sensor 4)
  | .noticeClosed _ sequence r =>
    bytes8 1 ++ bytes8 (flagBit sequence.isSome 1) ++ bytes16 (sequence.getD 0).toNat ++
      bytes32 r.episode ++ bytes32 r.start ++ bytes32 r.stop ++ bytes32 r.seconds ++
      bytes8 r.spells ++ bytes8 r.flagBits
  | .noticeCondition _ news latched => bytes8 2 ++ bytes16 news.toNat ++ bytes16 latched.toNat

/-- The sub-kind of a slot's frame (Table 0-3). -/
def Content.sub : Content → Nat
  | .table segment _ _ => segment
  | .absent _ => 0
  | .reclaim _ => 1
  | .yield _ => 0
  | .release _ => 1
  | .withdraw => 2
  | .claim urgency _ => 7 - urgency
  | .alert _ grade => 3 - grade.code
  | .join _ => 0
  | .status _ => 1
  | .dormant => 2
  | .reply _ r => r.sub
  | .noticeStart _ _ _ _ _ _ => 4
  | .noticeClosed _ _ _ => 4
  | .noticeCondition _ _ _ => 4

/-- The addressee of a slot's frame: the joiner, the requester, the notice target, or all. -/
def Content.addressee : Content → Nat
  | .table _ joiner _ => joiner
  | .reply requester _ => requester
  | .noticeStart target _ _ _ _ _ => target
  | .noticeClosed target _ _ => target
  | .noticeCondition target _ _ => target
  | _ => 0

/-- The frame a slot's content makes; the LC supplies the sender (R175). -/
def frameOf (station : Nat) (id : SlotId) (c : Content) : Frame :=
  { cls := slotClass id, sub := c.sub, sender := station, addressee := c.addressee, payload := c.payload }

/-! ## The frame on the line (Table 11-1, R170, R172) -/

/-- The arbitration key: class, sub-kind, sender. -/
def Frame.key (f : Frame) : Nat := 512 * f.cls + 64 * f.sub + f.sender

/-- The bits the check covers: key, addressee, length and payload. -/
def Frame.checkedBits (f : Frame) : List Bool :=
  bitsOf 3 f.cls ++ bitsOf 3 f.sub ++ bitsOf 6 f.sender ++ bitsOf 6 f.addressee ++
    bitsOf 7 f.payload.length ++ bitsOfBytes f.payload

/-- The bits a sender sends, from its start bit to the end of its check. -/
def Frame.bits (f : Frame) : List Bool :=
  false :: (f.checkedBits ++ bitsOf 16 (crc f.checkedBits).toNat)

/-- The bits of a received frame that enter the check, and its check field. -/
def receivedBits (r : Reception) : List Bool :=
  bitsOf 3 r.cls.toNat ++ bitsOf 3 r.sub.toNat ++ bitsOf 6 r.sender.toNat ++
    bitsOf 6 r.addressee.toNat ++ bitsOf 7 r.length.toNat ++ r.tail.take (8 * r.length.toNat)

/-- A station that followed the frame drives ABORT for these findings (R172). -/
def receptionUnsound (r : Reception) : Bool :=
  r.bitFault || decide (64 < r.length.toNat) ||
    !decide (r.tail.length = 8 * r.length.toNat + 16) ||
    !decide (bitsOf 16 (crc (receivedBits r)).toNat = r.tail.drop (8 * r.length.toNat))

/-- A frame as an intact reception of it. -/
def Frame.received (f : Frame) : Reception :=
  { followed := true, cls := BitVec.ofNat 3 f.cls, sub := BitVec.ofNat 3 f.sub,
    sender := BitVec.ofNat 6 f.sender, addressee := BitVec.ofNat 6 f.addressee,
    length := BitVec.ofNat 7 f.payload.length,
    tail := bitsOfBytes f.payload ++ bitsOf 16 (crc f.checkedBits).toNat, bitFault := false }

/-! ## TABLE segments (Table 11-4, R46, R200) -/

/-- A roster byte; an entry of NONE is sent as 0. -/
def RosterEntry.byte (e : RosterEntry) : Byte :=
  match e.state with
  | .none => 0
  | st => BitVec.ofNat 8 (64 * st.code + flagBit e.dormant 32 + e.urgency)

def Share.byte : Share → Byte
  | .free => 0
  | .held n => BitVec.ofNat 8 (64 + n)
  | .stranded n => BitVec.ofNat 8 (128 + n)
  | .withheld => 192

def Claim.byte (e : Claim) : Byte := BitVec.ofNat 8 (4 * e.claimant + (e.remaining - 1) % 4)

/-- An alert triple, its age in whole seconds; an entry of NONE is sent as grade 0, origin 0, age 0 (R98). -/
def ZoneEntry.bytes (e : ZoneEntry) : List Byte :=
  match e.grade with
  | .none => [0, 0, 0]
  | g => BitVec.ofNat 8 (64 * g.code + e.origin.getD 0) :: bytes16 (e.age.getD 0 / 1000)

/-- The count mask ahead of a segment's claim bytes: bit 7 − ((k − 1) mod 8) of byte (k − 1) div 8
is the third bit of the k-th entry's remaining count less 1. -/
def countMask (size : Nat) (claims : List Claim) : List Byte :=
  (List.range size).map fun j => byteOfBits fun b =>
    match claims[8 * j + (7 - b)]? with
    | none => false
    | some e => decide (4 < e.remaining)

/-- The entries whose ranks lie from low to high, in rising rank. -/
def claimsByRank (low high : Nat) (claims : List Claim) : List Claim :=
  (List.range (high + 1 - low)).filterMap fun i => claims.find? fun e => decide (e.rank = low + i)

/-- A segment's payload, built from the station's state as it stands (R46). -/
def State.segmentBytes (s : State) (c : Image) (segment : Nat) : List Byte :=
  match segment with
  | 0 => bytes8 c.pool ++ bytes8 (s.sa.curtail.getD 0) ++ (s.mu.roster.getD []).map RosterEntry.byte
  | 1 => (s.sa.shares.getD []).map Share.byte
  | 2 =>
    let l := claimsByRank 1 32 s.sa.claims
    countMask 4 l ++ l.map Claim.byte
  | _ =>
    let l := claimsByRank 33 48 s.sa.claims
    bytes8 1 ++ countMask 2 l ++
      (s.ru.alerts.getD (List.replicate 15 .blank)).flatMap ZoneEntry.bytes ++ l.map Claim.byte

/-- A loaded roster entry. The dormant mark is clear in every state but LINKED (R36). -/
def entryOfByte (b : Byte) : RosterEntry :=
  let st := entryStateOf (b.toNat / 64)
  match st with
  | .none => .blank
  | _ =>
    { state := st, dormant := decide (st = .linked) && b.getLsbD 5, urgency := b.toNat % 8,
      lastHeard := none, stranding := none }

def rosterOfBytes (l : List Byte) : List RosterEntry := (l.drop 2).map entryOfByte

def shareOfByte (b : Byte) : Share :=
  let holder := b.toNat % 64
  match b.toNat / 64 with
  | 0 => .free
  | 1 => .held holder
  | 2 => .stranded holder
  | _ => .withheld

/-- The claim bytes of a segment: the k-th one (from 0) has rank first + k, and its count's third bit
is in the mask that begins at byte maskFrom of the payload. -/
def claimsOfBytes (payload : List Byte) (maskFrom dataFrom first : Nat) : List Claim :=
  (payload.drop dataFrom).mapIdx fun k b =>
    { claimant := b.toNat / 4
      remaining := b.toNat % 4 + 1 + flagBit ((byteAt payload (maskFrom + k / 8)).getLsbD (7 - k % 8)) 4
      rank := first + k }

/-- An alert triple at byte i, restarted with its carried age against this station's own lifetime (R98). -/
def zoneOfBytes (lifetime : Nat) (payload : List Byte) (i : Nat) : ZoneEntry :=
  let b := numAt payload i
  let age := num16At payload (i + 1)
  let g := gradeOf (b / 64)
  if g = .none then .blank
  else if lifetime ≤ age then .blank
  else { grade := g, origin := some (b % 64), age := some (secondsMs age) }

def alertsOfBytes (lifetime : Nat) (payload : List Byte) : List ZoneEntry :=
  (List.range 15).map fun z => zoneOfBytes lifetime payload (3 + 3 * z)

/-- A HELD or STRANDED share byte with a holder of 0 or above 48 (R200). -/
def badShareByte (b : Byte) : Bool :=
  (decide (b.toNat / 64 = 1) || decide (b.toNat / 64 = 2)) && !isTank (b.toNat % 64)

/-- A claim byte with a claimant of 0 or above 48 (R200). -/
def badClaimByte (b : Byte) : Bool := !isTank (b.toNat / 4)

/-- An alert triple's first byte with an origin above 48 and a grade above NONE (R200). -/
def badAlertByte (b : Byte) : Bool := decide (48 < b.toNat % 64) && decide (1 ≤ b.toNat / 64)

/-- A segment a joiner with pool P judges unfit (R200). Segment 0 is judged on its length alone. -/
def unfitSegment (pool segment : Nat) (l : List Byte) : Bool :=
  match segment with
  | 0 => !decide (l.length = 50)
  | 1 => !decide (l.length = pool) || l.any badShareByte
  | 2 => decide (l.length < 4) || decide (36 < l.length) || (l.drop 4).any badClaimByte
  | _ =>
    decide (l.length < 48) || decide (64 < l.length) || !decide (numAt l 0 = 1) ||
      (l.drop 48).any badClaimByte ||
      (List.range 15).any fun z => badAlertByte (byteAt l (3 + 3 * z))

/-! ## The sensor line (Table 11-8, R197) -/

def qualityOf (n : Nat) : Option Quality :=
  match n with
  | 0 => some .good
  | 1 => some .suspect
  | 2 => some .failed
  | _ => none

/-- One channel of a sample: its level if it is valid, and its quality. -/
structure Channel where
  level : Option Nat
  quality : Quality
deriving DecidableEq, Repr

/-- A channel with no value (Table 3-1). -/
def Channel.failed : Channel := { level := none, quality := .failed }

/-- A level above 20,000 mm is taken as FAILED whatever quality it bears (R63). -/
def channelOf (level : Nat) (q : Quality) : Channel :=
  if 20000 < level then .failed
  else match q with
    | .good => { level := some level, quality := .good }
    | .suspect => { level := some level, quality := .suspect }
    | _ => .failed

/-- The chamber and tank channels of a reply; none if the reply is damaged (R197). -/
def readReply (r : SensorReply) : Option (Channel × Channel) :=
  if r.byteFault || decide (r.bytes.length < 7) then none
  else if numAt r.bytes 6 ≠ ((r.bytes.take 6).foldl (fun a b => a + b.toNat) 0) % 256 then none
  else match qualityOf (numAt r.bytes 2), qualityOf (numAt r.bytes 5) with
    | some qc, some qt =>
      some (channelOf (num16At r.bytes 0) qc, channelOf (num16At r.bytes 3) qt)
    | _, _ => none

/-! ## The configuration image (Table 11-9, R189, R190, R191, R201) -/

/-- 128 bytes whose last two are the check word of the first 126 (R189). -/
def imageCheck (l : List Byte) : Bool :=
  decide (l.length = 128) && decide (crc (bitsOfBytes (l.take 126)) = halfAt l 126)

def bitRateOf (n : Nat) : BitRate :=
  match n with
  | 0 => .kbit20
  | 1 => .kbit50
  | _ => .kbit100

def logModeOf (n : Nat) : LogMode := if n = 0 then .keep else .overwrite

/-- Every field at the offset and width of Table 11-9. Heeded zone bytes beyond the count are not read (R201). -/
def readImage (l : List Byte) : Image :=
  { station := numAt l 0
    zone := numAt l 1
    heeded := (List.range (min (numAt l 2) 4)).map fun k => numAt l (3 + k)
    bitRate := bitRateOf (numAt l 7)
    pool := numAt l 8
    maxHold := numAt l 9
    tankEmpty := num16At l 10
    drawdown := num16At l 12
    claimLevel := num16At l 14
    tankFull := num16At l 16
    capture := num16At l 18
    hysteresis := num16At l 20
    crest := num16At l 22
    sampleInterval := numAt l 24
    dormantSample := num16At l 25
    onsetCount := numAt l 27
    settleCount := numAt l 28
    mergeWindow := num16At l 29
    pulseDepth := numAt l 31
    d5Watch := num16At l 32
    d5Warn := num16At l 34
    d5Severe := num16At l 36
    d15Watch := num16At l 38
    d15Warn := num16At l 40
    d15Severe := num16At l 42
    alertRefresh := num16At l 44
    alertLifetime := num16At l 46
    stepWindow := numAt l 48
    calmTime := numAt l 49
    presence := numAt l 50
    absence := numAt l 51
    silence := numAt l 52
    stranding := num16At l 53
    travel := numAt l 55
    park := num16At l 56
    dormancyDelay := num16At l 58
    dormantPresence := num16At l 60
    wakeRecovery := numAt l 62
    logMode := logModeOf (numAt l 63)
    watermark := numAt l 64
    noticeTarget := numAt l 65
    noticeMask := halfAt l 66 &&& 0x03FF#16 }

def within (low high n : Nat) : Bool := decide (low ≤ n) && decide (n ≤ high)

/-- No number stands twice in a list. -/
def distinct : List Nat → Bool
  | [] => true
  | x :: l => !l.contains x && distinct l

/-- The coded choices and the heeded zone count, which lose their range in the latched form (R190, R201). -/
def codesInRange (l : List Byte) : Bool :=
  decide (numAt l 2 ≤ 4) && decide (numAt l 7 ≤ 2) && decide (numAt l 63 ≤ 1)

/-- The ranges of Table 10-1 (R190). -/
def imageInRange (c : Image) : Bool :=
  within 1 48 c.station && within 1 15 c.zone && decide (c.heeded.length ≤ 4) &&
    c.heeded.all (within 1 15) && distinct c.heeded && within 4 64 c.pool && within 1 8 c.maxHold &&
    decide (c.tankEmpty ≤ 20000) && decide (c.drawdown ≤ 20000) && decide (c.claimLevel ≤ 20000) &&
    decide (c.tankFull ≤ 20000) && decide (c.capture ≤ 20000) && decide (c.hysteresis ≤ 20000) &&
    decide (c.crest ≤ 20000) && within 1 10 c.sampleInterval && within 10 600 c.dormantSample &&
    within 1 16 c.onsetCount && within 1 64 c.settleCount && decide (c.mergeWindow ≤ 1440) &&
    within 1 10 c.pulseDepth && within 1 65535 c.d5Watch && within 1 65535 c.d5Warn &&
    within 1 65535 c.d5Severe && within 1 65535 c.d15Watch && within 1 65535 c.d15Warn &&
    within 1 65535 c.d15Severe && within 30 300 c.alertRefresh && within 60 900 c.alertLifetime &&
    within 1 60 c.stepWindow && within 10 240 c.calmTime && within 1 10 c.presence &&
    within 3 60 c.absence && within 2 30 c.silence && within 5 300 c.stranding &&
    within 1 60 c.travel && decide (c.park ≤ 900) && decide (c.dormancyDelay ≤ 1440) &&
    within 10 600 c.dormantPresence && within 1 60 c.wakeRecovery && within 1 32 c.watermark &&
    (decide (c.noticeTarget = 0) || isListener c.noticeTarget)

/-- The cross-checks of Table 10-2 (R191). -/
def imageCrossChecked (c : Image) : Bool :=
  decide (c.tankEmpty < c.drawdown) && decide (c.drawdown < c.claimLevel) &&
    decide (c.claimLevel < c.tankFull) && decide (c.hysteresis < c.capture) &&
    decide (c.capture < c.crest) && decide (3 * c.presence ≤ c.absence) &&
    decide (2 * c.presence ≤ c.silence) && decide (c.silence + c.travel + 1 ≤ c.stranding) &&
    decide (2 * c.alertRefresh ≤ c.alertLifetime) && decide (c.d5Watch < c.d5Warn) &&
    decide (c.d5Warn < c.d5Severe) && decide (c.d15Watch < c.d15Warn) &&
    decide (c.d15Warn < c.d15Severe)

/-- The image as latched, or none if a field is out of range or a cross-check fails (R190, R191). -/
def judgeImage (l : List Byte) : Option Image :=
  let c := readImage l
  if codesInRange l && imageInRange c && imageCrossChecked c then some c else none

end Sys2Proof.Machine
end

