-- ==== Sys2Proof/Machine/Flags.lean ====
section
/-! DEFINITION. The condition flags (section 7.6), the standing causes, the news set and the notices, and
the STATUS values. -/

namespace Sys2Proof.Machine

open Sys2Proof

/-- The ten condition flags, in the order of Table 7-2. -/
inductive Flag where
  | sensorFault
  | tideLocked
  | logHigh
  | recordLost
  | badAck
  | sendFailed
  | joinFailed
  | lineLost
  | configMismatch
  | duplicate
deriving DecidableEq, Repr

/-- The flag's bit in a flag mask (Table 11-2). -/
def Flag.bit : Flag → Nat
  | .sensorFault => 0
  | .tideLocked => 1
  | .logHigh => 2
  | .recordLost => 3
  | .badAck => 4
  | .sendFailed => 5
  | .joinFailed => 6
  | .lineLost => 7
  | .configMismatch => 8
  | .duplicate => 9

def Flag.mask (f : Flag) : FlagSet := 1#16 <<< f.bit

/-- The flag is in the set. -/
def inSet (set : FlagSet) (f : Flag) : Bool := set.getLsbD f.bit

/-! ## Notices -/

/-- The content that is the pending notice of a kind: the newest content of its slot (R155, log entry 20). A notice
rewritten into its emptied slot stays pending when its old frame is accepted: the model's choice, log entry 38. -/
def State.pendingNotice (s : State) (id : SlotId) : Option Content := (s.slot id).state.newest

/-- The three notice slots, in slot order. -/
def noticeSlots : List SlotId := [.noticeStart, .noticeClosed, .noticeCondition]

/-- Write a notice slot, unless there is no notice target (R155). -/
def State.writeNotice (s : State) (c : Image) (id : SlotId) (content : Content) : State :=
  if c.noticeTarget = 0 then s else s.writeSlot id content

/-- The content a NOTICE-CONDITION takes at a write (R158). -/
def State.conditionNotice (s : State) (c : Image) : Content :=
  .noticeCondition c.noticeTarget s.rs.news s.rs.latched

/-! ## Latching -/

/-- An enabled flag newly latched joins the news set, and is news since the last offer (R158). -/
def State.joinNews (s : State) (f : Flag) : State :=
  (s.mapRs fun r => { r with news := r.news ||| f.mask }).mapLc fun l => { l with newsSince := l.newsSince ||| f.mask }

/-- Latch a flag: if it is newly latched, it joins the latched set, and if the mask enables it for
a notice target it joins the news set and NOTICE-CONDITION is written (R150, R158). -/
def State.latch (s : State) (c : Image) (f : Flag) : State :=
  if inSet s.rs.latched f then s
  else
    let s1 := s.mapRs fun r => { r with latched := r.latched ||| f.mask }
    if c.noticeTarget ≠ 0 ∧ inSet c.noticeMask f = true then
      let s2 := s1.joinNews f
      s2.writeSlot .noticeCondition (s2.conditionNotice c)
    else s1

/-- The SENSOR_FAULT cause (R66): either channel's quality of record is SUSPECT or FAILED. -/
def Quality.isFault : Quality → Bool
  | .suspect => true
  | .failed => true
  | _ => false

def State.sensorCause (s : State) : Bool := s.ts.chamberQuality.isFault || s.ts.tankQuality.isFault

/-- The LOG_HIGH cause (R139): the fill is at or above the watermark. -/
def State.logHighCause (s : State) (c : Image) : Bool := decide (c.watermark ≤ s.rs.log.length)

/-- The standing cause of a flag; the seven event flags have none (R147). -/
def State.standing (s : State) (c : Image) (f : Flag) : Bool :=
  match f with
  | .sensorFault => s.sensorCause
  | .tideLocked => s.ts.tideLock
  | .logHigh => s.logHighCause c
  | _ => false

/-- Latch a flag whose cause stands (R151). -/
def State.latchIfStanding (s : State) (c : Image) (f : Flag) : State :=
  if s.standing c f then s.latch c f else s

/-- Latch each standing-cause flag whose cause stands (R151), after the command's event flags and in the order of
Table 7-2: the model's choice, log entry 37. -/
def State.latchStanding (s : State) (c : Image) : State :=
  ((s.latchIfStanding c .sensorFault).latchIfStanding c .tideLocked).latchIfStanding c .logHigh

/-- The flag mask of the standing causes (R147). -/
def State.standingMask (s : State) (c : Image) : FlagSet :=
  (if s.standing c .sensorFault then Flag.sensorFault.mask else 0) |||
    (if s.standing c .tideLocked then Flag.tideLocked.mask else 0) |||
    (if s.standing c .logHigh then Flag.logHigh.mask else 0)

/-! ## STATUS -/

/-- The values a STATUS carries (R53). -/
def State.statusValues (s : State) : StatusValues :=
  { urgency := s.ts.urgency, drain := s.ts.drain, inlet := s.ts.inlet,
    readiness := s.srm.readiness, latched := s.rs.latched }

/-- Write STATUS with the current values (R53). -/
def State.writeStatus (s : State) : State := s.writeSlot .status (.status s.statusValues)

/-- A carried value has changed: STATUS is queued while LINKED and not DORMANT (R53, R150). -/
def State.statusForChange (s : State) : State :=
  if s.mu.membership = .linked ∧ s.ac.activity ≠ .dormant then s.writeStatus else s

end Sys2Proof.Machine
end

