-- ==== Sys2Proof/Machine/Records.lean ====
section
/-! DEFINITION. The Record Service: the spill log (section 7.2), acknowledgement (7.3), the request queue
and its service (7.4, 7.5). -/

namespace Sys2Proof.Machine

open Sys2Proof

/-! ## The log -/

/-- The record with a sequence, if the log holds it. -/
def findRecord (log : List LogRecord) (sequence : Half) : Option LogRecord :=
  log.find? fun r => decide (r.sequence = sequence)

/-- Append a closed record and queue its NOTICE-CLOSED (R137). -/
def State.writeRecord (s : State) (c : Image) (r : SpillRecord) : State :=
  let sequence : Half := BitVec.ofNat 16 s.rs.written.toNat
  let s1 := s.mapRs fun x =>
    { x with
      log := x.log ++ [{ sequence := sequence, record := r, announced := false }]
      written := x.written + 1 }
  s1.writeNotice c .noticeClosed (.noticeClosed c.noticeTarget (some sequence) r)

/-- Take a closed record from the SC: append it, or meet the full log by the log mode (R137, R138). -/
def State.takeRecord (s : State) (c : Image) (r : SpillRecord) : State :=
  if s.rs.log.length < logSize then s.writeRecord c r
  else
    let s1 := s.latch c .recordLost
    match c.logMode with
    | .keep =>
      (s1.mapRs fun x => { x with discarded := x.discarded + 1 }).writeNotice c .noticeClosed
        (.noticeClosed c.noticeTarget none r)
    | .overwrite =>
      (s1.mapRs fun x => { x with log := x.log.drop 1, overwritten := x.overwritten + 1 }).writeRecord c r

/-- Drop every record up to and with the one that bears the sequence (R140). -/
def dropThrough (sequence : Half) : List LogRecord → List LogRecord
  | [] => []
  | r :: l => if r.sequence = sequence then l else dropThrough sequence l

/-- A taken RECACK (R140). -/
def State.acknowledge (s : State) (c : Image) (sequence : Half) : State :=
  match findRecord s.rs.log sequence with
  | none => s.latch c .badAck
  | some _ => s.mapRs fun x => { x with log := dropThrough sequence x.log }

/-- Set ANNOUNCED on the record with that sequence and that episode number (R157). -/
def announce (sequence : Half) (episode : Word) (log : List LogRecord) : List LogRecord :=
  log.map fun r =>
    if r.sequence = sequence ∧ r.record.episode = episode then { r with announced := true } else r

/-! ## Replies -/

/-- The sequences of a group in burst order: from s up to g + 3, then from g (R144). -/
def groupOrder (sequence : Half) : List Half :=
  let low := sequence.toNat % 4
  let group := sequence.toNat - low
  (((List.range 4).drop low) ++ (List.range low)).map fun k => BitVec.ofNat 16 (group + k)

/-- The RECORD replies of a RECORDS request whose named record is in the log (R144). -/
def recordReplies (log : List LogRecord) (sequence : Half) : List Reply :=
  let l := (groupOrder sequence).filterMap (findRecord log)
  l.mapIdx fun position r => .record position l.length r

/-- The NOREC reply (R145). -/
def norecReply (log : List LogRecord) (sequence : Half) : Reply :=
  match log.head?, log.getLast? with
  | some oldest, some newest => .norec sequence (some (oldest.sequence, newest.sequence))
  | _, _ => .norec sequence none

def State.countsValues (s : State) : CountsValues :=
  { total := s.sc.total, period := s.sc.period, periodCount := s.sc.periodCount,
    periodSeconds := s.sc.periodSeconds, written := s.rs.written, discarded := s.rs.discarded,
    overwritten := s.rs.overwritten, episode := s.sc.episode, seconds := s.seconds }

/-- The reply frames of a request, built from the state as it stands (R144 to R147, R149). -/
def State.buildReplies (s : State) (c : Image) (kind : QueryKind) : List Reply :=
  match kind with
  | .records sequence =>
    match findRecord s.rs.log sequence with
    | some _ => recordReplies s.rs.log sequence
    | none => [norecReply s.rs.log sequence]
  | .counts => [.counts s.countsValues]
  | .conditions => [.conditions s.rs.latched (s.standingMask c)]
  | .unknown => []

/-- Write replies into the reply slots, the first into REPLY 0 (R143). -/
def State.writeReplies (s : State) (requester : Nat) : List SlotId → List Reply → State
  | id :: ids, r :: rs => (s.writeSlot id (.reply requester r)).writeReplies requester ids rs
  | _, _ => s

/-! ## Service -/

/-- One move of the service (R143): end it when every reply slot is EMPTY, or start the next one. -/
def State.serviceMove (s : State) (c : Image) : State :=
  if s.rs.serving then
    if s.slotsEmpty replySlots then
      s.mapRs fun r => { r with queue := r.queue.drop 1, serving := false }
    else s
  else
    match s.rs.queue with
    | [] => s
    | q :: _ =>
      (s.writeReplies q.requester replySlots (s.buildReplies c q.kind)).mapRs fun r =>
        { r with serving := true }

def State.serviceMoves (s : State) (c : Image) : Nat → State
  | 0 => s
  | n + 1 => (s.serviceMove c).serviceMoves c n

/-- Run the service as far as it goes at this moment: each entry of the queue needs at most a start
and an end (R143, R149). -/
def State.runService (s : State) (c : Image) : State :=
  s.serviceMoves c (2 * s.rs.queue.length + 1)

/-- The query a payload asks; a payload too short for its kind is of unknown kind (R142, R199). -/
def queryKindOf (l : List Byte) : QueryKind :=
  if l.length = 0 then .unknown
  else match numAt l 0 with
    | 0 => if l.length < 3 then .unknown else .records (halfAt l 1)
    | 1 => .counts
    | 2 => .conditions
    | _ => .unknown

/-- Membership states that take queries (R141). -/
def Membership.takesQueries : Membership → Bool
  | .linked => true
  | .loading => true
  | .joining => true
  | .listening => true
  | .isolated => true
  | _ => false

/-- The station drives BUSY in a QUERY's end field (R141). -/
def State.drivesBusy (s : State) (c : Image) (sender addressee : Nat) : Bool :=
  decide (addressee = c.station) && isListener sender && s.mu.membership.takesQueries &&
    decide (queueSize ≤ s.rs.queue.length)

end Sys2Proof.Machine
end

