-- ==== Sys2Proof/Machine/Spill.lean ====
section
/-! DEFINITION. The Spill Counter (chapter 6): the kinds of sample, the episode machine, the open record
and the counts. -/

namespace Sys2Proof.Machine

open Sys2Proof

/-- The three kinds of sample (Table 6-1). -/
inductive SampleKind where
  | spilling (level : Nat)
  | nonSpilling (level : Nat) (tideLocked : Bool)
  | unknown
deriving DecidableEq, Repr

/-- R114. -/
def judgeSample (crest : Nat) (chamber : Channel) (tide : Tide) : SampleKind :=
  match chamber.level with
  | none => .unknown
  | some level =>
    if level < crest then .nonSpilling level false
    else match tide with
      | .opened => .spilling level
      | .shut => .nonSpilling level true

/-- The chamber channel of a sample is SUSPECT. -/
def Channel.isSuspect (ch : Channel) : Bool := decide (ch.quality = .suspect)

/-- Add a spilling sample to the onset accumulators (R118). -/
def Onset.add (o : Onset) (c : Image) (level : Nat) (suspect : Bool) : Onset :=
  { o with
    seconds := satAddWord o.seconds c.sampleInterval
    depthTime := satAddWord o.depthTime ((level - c.crest) * c.sampleInterval)
    peak := max o.peak level
    sensor := o.sensor || suspect }

/-- Accrue a spilling sample to the open record (R120). -/
def SpillRecord.accrue (r : SpillRecord) (c : Image) (now : Word) (level : Nat) (suspect : Bool) :
    SpillRecord :=
  { r with
    seconds := satAddWord r.seconds c.sampleInterval
    depthTime := satAddWord r.depthTime ((level - c.crest) * c.sampleInterval)
    peak := max r.peak level
    stop := now
    sensor := r.sensor || suspect }

/-- What a non-spilling sample does to the open record (R121, R126, R127). -/
def SpillRecord.rest (r : SpillRecord) (c : Image) (level : Nat) (suspect tideLocked : Bool) :
    SpillRecord :=
  { r with
    peak := max r.peak level
    sensor := r.sensor || suspect
    tidePart :=
      if tideLocked then some (satAddWord (r.tidePart.getD 0) c.sampleInterval) else r.tidePart }

def State.mapRecord (s : State) (f : SpillRecord → SpillRecord) : State :=
  s.mapSc fun x => { x with record := x.record.map f }

/-- The storm part a record takes while the readiness state is STORM (R128). -/
def State.stormPartNow (s : State) : Option Trigger :=
  if s.srm.readiness = .storm then s.srm.trigger else none

/-- The record an opening begins (R119). -/
def State.openedRecord (s : State) : SpillRecord :=
  { episode := s.sc.total + 1
    start := s.sc.onset.start
    stop := s.seconds
    seconds := s.sc.onset.seconds
    spells := 1
    peak := s.sc.onset.peak
    depthTime := s.sc.onset.depthTime
    period := s.sc.period
    sensor := s.sc.onset.sensor
    resetCut := false
    tidePart := none
    stormPart := s.stormPartNow }

/-- An episode opens (R119). -/
def State.openEpisode (s : State) (c : Image) : State :=
  let r := s.openedRecord
  let s1 := s.mapSc fun x =>
    { x with
      total := x.total + 1
      periodCount := satAddHalf x.periodCount 1
      record := some r
      periodSeconds := satAddWord x.periodSeconds x.onset.seconds.toNat
      episode := .spilling
      onsetCounter := 0 }
  s1.writeNotice c .noticeStart
    (.noticeStart c.noticeTarget r.episode r.start r.period r.stormPart.isSome r.sensor)

/-- An episode closes: the record goes to the RS as it stands (R124). -/
def State.closeEpisode (s : State) (c : Image) : State :=
  let s1 := s.mapSc fun x => { x with record := none, episode := .clear, merge := none }
  match s.sc.record with
  | none => s1
  | some r => s1.takeRecord c r

/-- A spilling sample joins the onset; the sample that brings the count opens the episode (R117, R118). -/
def State.onsetSample (s : State) (c : Image) (level : Nat) (suspect : Bool) : State :=
  let s1 := s.mapSc fun x =>
    { x with
      episode := .onset
      onsetCounter := x.onsetCounter + 1
      onset := x.onset.add c level suspect }
  if c.onsetCount ≤ s1.sc.onsetCounter then s1.openEpisode c else s1

/-- A spilling sample accrues, in SPILLING (R120). -/
def State.accrueSample (s : State) (c : Image) (level : Nat) (suspect : Bool) : State :=
  (s.mapRecord fun r => r.accrue c s.seconds level suspect).mapSc fun x =>
    { x with episode := .spilling, periodSeconds := satAddWord x.periodSeconds c.sampleInterval }

/-- The settle count is reached: MERGE_WAIT, and with a merge window of 0 the closing at once (R122, R124). -/
def State.enterMergeWait (s : State) (c : Image) : State :=
  let s1 := s.mapSc fun x =>
    { x with episode := .mergeWait, settleCounter := 0, merge := some (minutesMs c.mergeWindow) }
  if c.mergeWindow = 0 then s1.closeEpisode c else s1

/-- A non-spilling sample counts toward the settle count (R121, R122). -/
def State.settleSample (s : State) (c : Image) : State :=
  let s1 := s.mapSc fun x => { x with episode := .settling, settleCounter := x.settleCounter + 1 }
  if c.settleCount ≤ s1.sc.settleCounter then s1.enterMergeWait c else s1

/-- A spilling sample, by the state it finds (R117, R118, R120, R122, R123). -/
def State.spillingSample (s : State) (c : Image) (level : Nat) (suspect : Bool) : State :=
  match s.sc.episode with
  | .clear =>
    (s.mapSc fun x =>
      { x with onsetCounter := 0, onset := { Onset.blank with start := s.seconds } }).onsetSample
        c level suspect
  | .onset => s.onsetSample c level suspect
  | .spilling => s.accrueSample c level suspect
  | .settling => (s.mapSc fun x => { x with settleCounter := 0 }).accrueSample c level suspect
  | .mergeWait =>
    ((s.mapRecord fun r => { r with spells := min (r.spells + 1) 255 }).mapSc fun x =>
      { x with merge := none }).accrueSample c level suspect

/-- A non-spilling sample, by the state it finds (R117, R118, R121, R122, R123). -/
def State.nonSpillingSample (s : State) (c : Image) (level : Nat) (suspect tideLocked : Bool) : State :=
  let rested := s.mapRecord fun r => r.rest c level suspect tideLocked
  match s.sc.episode with
  | .clear => s
  | .onset => s.mapSc fun x => { x with episode := .clear, onsetCounter := 0, onset := .blank }
  | .spilling => (rested.mapSc fun x => { x with settleCounter := 0 }).settleSample c
  | .settling => rested.settleSample c
  | .mergeWait => rested

/-- An unknown sample marks the onset or the record and changes nothing else (R118, R120, R122, R123). -/
def State.unknownSample (s : State) : State :=
  match s.sc.episode with
  | .clear => s
  | .onset => s.mapSc fun x => { x with onset := { x.onset with sensor := true } }
  | _ => s.mapRecord fun r => { r with sensor := true }

/-- The SC takes a kept sample with the tide state of record (R115). -/
def State.spillSample (s : State) (c : Image) (chamber : Channel) : State :=
  match judgeSample c.crest chamber s.ts.tide with
  | .spilling level => s.spillingSample c level chamber.isSuspect
  | .nonSpilling level tideLocked => s.nonSpillingSample c level chamber.isSuspect tideLocked
  | .unknown => s.unknownSample

/-- An entry to STORM while an episode is open (R128). -/
def State.stormFlag (s : State) : State :=
  s.mapRecord fun r =>
    match r.stormPart with
    | some _ => r
    | none => { r with stormPart := s.stormPartNow }

/-- What a reset-line pulse leaves of the SC: its four counts (R133). -/
def ScState.keepCounts (x : ScState) : ScState :=
  { ScState.reset with
    total := x.total, period := x.period, periodCount := x.periodCount,
    periodSeconds := x.periodSeconds }

/-- An open episode is closed with RESET_CUT (R133). -/
def State.cutEpisode (s : State) (c : Image) : State :=
  match s.sc.record with
  | none => s
  | some _ => (s.mapRecord fun r => { r with resetCut := true }).closeEpisode c

/-- A taken PERIOD (R131). -/
def State.newPeriod (s : State) : State :=
  s.mapSc fun x => { x with period := x.period + 1, periodCount := 0, periodSeconds := 0 }

end Sys2Proof.Machine
end

