-- ==== Sys2Proof/Machine/Shares.lean ====
section
/-! DEFINITION. The Share Allocator (chapter 1): what each allocation frame does to the share table and the
claim list, the yield rule, and the station's own requests. -/

namespace Sys2Proof.Machine

open Sys2Proof

/-! ## The station's own shares -/

/-- The station's own holdings that are not in its outgoing set: the valve's limit (R28, R85). -/
def State.keptHoldings (s : State) (c : Image) : List Nat :=
  without (s.holdings c.station) s.sa.outgoing

/-- Write shares into the RELEASE slot; they join the outgoing set at that moment (R27, R31). -/
def State.releaseShares (s : State) (set : List Nat) : State :=
  (s.mapSa fun a => { a with outgoing := unionBelow 64 a.outgoing set }).writeSlot .release (.release set)

/-- A release-all request (R31). -/
def State.releaseAll (s : State) (c : Image) : State :=
  (s.mapSa fun a => { a with releaseMark := true }).releaseShares (s.holdings c.station)

/-- A want-to-claim request at an urgency (R29). -/
def State.wantToClaim (s : State) (c : Image) (urgency : Nat) : State :=
  (s.mapSa fun a => { a with releaseMark := false }).writeSlot .claim (.claim urgency c.maxHold)

/-- A withdraw request (R30). -/
def State.requestWithdraw (s : State) (c : Image) : State :=
  let s1 := if s.slotPending .claim then s.cancelSlot .claim else s
  let s2 := if s.hasClaim c.station then s1.writeSlot .withdraw .withdraw else s1
  if s.slotInFlight .claim then
    (s2.cancelSlot .claim).mapSa fun a => { a with withdrawMark := true }
  else s2

/-- The station has a claim-list entry, or its CLAIM slot is PENDING or IN FLIGHT (R80, R83). -/
def State.hasClaimOut (s : State) (c : Image) : Bool :=
  s.hasClaim c.station || !s.slotEmpty .claim

/-- The shares a content of the YIELD or RELEASE slot names. -/
def Content.shares : Content → List Nat
  | .yield i => [i]
  | .release set => set
  | _ => []

/-- The shares a slot names, in its content and in its next content (R27). -/
def SlotState.shares : SlotState → List Nat
  | .empty => []
  | .pending content => content.shares
  | .inFlight content none _ => content.shares
  | .inFlight content (some next) _ => content.shares ++ next.shares

/-- The shares named in the YIELD or RELEASE slot while it is PENDING or IN FLIGHT (R27). -/
def State.namedShares (s : State) : List Nat :=
  (s.slot .yield).state.shares ++ (s.slot .release).state.shares

/-- A share that has come back to the station while an older YIELD or RELEASE still names it is outgoing again, so the
valve never counts a share that a frame in hand will give away (R27's definition, R86; log entry 32). -/
def State.rejoinOutgoing (s : State) (c : Image) : State :=
  match (s.keptHoldings c).filter s.namedShares.contains with
  | [] => s
  | set => s.mapSa fun a => { a with outgoing := set.foldr (List.orderedInsert (· ≤ ·)) a.outgoing }

/-- Shares leave the outgoing set when the first frame that names them is accepted (R27). -/
def State.dropOutgoing (s : State) (set : List Nat) : State :=
  s.mapSa fun a => { a with outgoing := without a.outgoing set }

/-- Void the SA's state and cancel its four slots (R23). -/
def State.voidShares (s : State) : State :=
  let s1 := s.mapSa fun _ => SaState.reset
  (((s1.cancelSlot .claim).cancelSlot .yield).cancelSlot .release).cancelSlot .withdraw

/-- Build the founder's table (R21). -/
def State.foundShares (s : State) (c : Image) : State :=
  s.mapSa fun a =>
    { a with shares := some (List.replicate c.pool .free), curtail := some c.pool, claims := [] }

/-! ## Frames on the table -/

/-- Return the shares p names, and run the allocation rule once if one became FREE (R8). -/
def State.returnWhere (s : State) (p : Nat → Share → Bool) : State :=
  match s.sa.shares, s.sa.curtail with
  | some sh, some q =>
    let back := returnShares q p sh
    if freesShare q p sh then
      let r := allocate back s.sa.claims
      s.mapSa fun a => { a with shares := some r.1, claims := r.2 }
    else s.mapSa fun a => { a with shares := some back }
  | _, _ => s

/-- Remove station n's claim-list entry (R6, R14). -/
def State.dropClaim (s : State) (n : Nat) : State :=
  s.mapSa fun a => { a with claims := removeClaim n a.claims }

/-- Set station n's roster urgency and move its entry (R7). -/
def State.setUrgency (s : State) (n urgency : Nat) : State :=
  (s.mapEntry n fun e => { e with urgency := urgency }).reorderClaims

/-- The clipped count of a CLAIM (R10). -/
def State.clippedCount (s : State) (n field : Nat) : Nat :=
  min (min field holdLimit) (holdLimit - (s.holdings n).length)

/-- Give station n's entry a remaining count. -/
def setRemaining (n count : Nat) (l : List Claim) : List Claim :=
  l.map fun e => if e.claimant = n then { e with remaining := count } else e

/-- A clipped count of 1 or more (R11). -/
def State.claimShares (s : State) (n count : Nat) : State :=
  if s.hasClaim n then
    s.mapSa fun a => { a with claims := setRemaining n count a.claims }
  else
    match s.sa.shares with
    | none => s
    | some sh =>
      let r := takeFree n count sh
      let s1 := s.mapSa fun a => { a with shares := some r.1 }
      if r.2 = 0 then s1
      else
        let e : Claim := { claimant := n, remaining := r.2, rank := s.sa.claims.length + 1 }
        s1.mapSa fun a => { a with claims := insertClaim s1.rosterUrgency e a.claims }

/-- An accepted CLAIM from station n (R10, R11). -/
def State.takeClaim (s : State) (n urgency field : Nat) : State :=
  let s1 := s.setUrgency n urgency
  let count := s1.clippedCount n field
  if count = 0 then s1 else s1.claimShares n count

/-- An accepted RELEASE from station n (R12). -/
def State.takeRelease (s : State) (n : Nat) (set : List Nat) : State :=
  s.returnWhere fun i x => set.contains i && decide (x = .held n)

/-- An accepted YIELD from station n (R13). -/
def State.takeYield (s : State) (n share : Nat) : State :=
  s.returnWhere fun i x => decide (i = share) && decide (x = .held n)

/-- The FREE and WITHHELD shares follow a new curtail level (R15). -/
def curtailShare (q i : Nat) : Share → Share
  | .free => if i < q then .free else .withheld
  | .withheld => if i < q then .free else .withheld
  | x => x

/-- A WITHHELD share becomes FREE under the new level. -/
def freesWithheld (q : Nat) (shares : List Share) : Bool :=
  (List.range shares.length).any fun i =>
    decide (shares.getD i .free = .withheld) && decide (i < q)

/-- An accepted CURTAIL with level q (R15). -/
def State.takeCurtail (s : State) (c : Image) (q : Nat) : State :=
  if c.pool < q then s
  else
    match s.sa.shares with
    | none => s
    | some sh =>
      let moved := sh.mapIdx (curtailShare q)
      if freesWithheld q sh then
        let r := allocate moved s.sa.claims
        s.mapSa fun a => { a with shares := some r.1, curtail := some q, claims := r.2 }
      else s.mapSa fun a => { a with shares := some moved, curtail := some q }

/-- The share part of ABSENT for one station (R17). -/
def State.strand (s : State) (n : Nat) : State :=
  (s.mapSa fun a =>
    { a with shares := a.shares.map fun sh => sh.map fun x => if x = .held n then .stranded n else x }).dropClaim n

/-- The share part of RECLAIM for the stations it returns (R18). -/
def State.reclaimShares (s : State) (stations : List Nat) : State :=
  s.returnWhere fun _ x =>
    match x with
    | .stranded n => stations.contains n
    | _ => false

/-- The share part of JOIN from station n whose entry is LINKED or ABSENT (R19). -/
def State.rejoinShares (s : State) (n : Nat) : State :=
  (s.dropClaim n).returnWhere fun _ x => decide (x = .held n) || decide (x = .stranded n)

/-! ## The yield rule -/

/-- Station n is a candidate against a head of urgency u (R24). -/
def State.isCandidate (s : State) (head u n : Nat) : Bool :=
  !decide (n = head) && s.isLinked n && !(s.holdings n).isEmpty && decide (s.rosterUrgency n + 2 ≤ u)

/-- The yielder (R24): the candidate of lowest urgency, among equals the highest number. -/
def State.yielder (s : State) : Option Nat :=
  match s.sa.claims with
  | [] => none
  | h :: _ =>
    tankNumbers.foldl
      (fun best n =>
        if s.isCandidate h.claimant (s.rosterUrgency h.claimant) n then
          match best with
          | none => some n
          | some b => if s.rosterUrgency n ≤ s.rosterUrgency b then some n else some b
        else best) none

/-- Write YIELD for one share, the highest not yet outgoing, if the rule names this station and its
slot is EMPTY (R25). -/
def State.yieldIfNamed (s : State) (c : Image) : State :=
  if s.yielder = some c.station ∧ s.slotEmpty .yield = true then
    match (s.keptHoldings c).getLast? with
    | none => s
    | some i =>
      (s.mapSa fun a => { a with outgoing := unionBelow 64 a.outgoing [i] }).writeSlot .yield (.yield i)
  else s

/-- The table, the list or a roster urgency changed (R24). The urgency an entry keeps as JOINING or ABSENT counts as a
roster urgency: the model's choice, log entry 33. -/
def tablesChanged (before after : State) : Bool :=
  !decide (before.sa.shares = after.sa.shares) || !decide (before.sa.claims = after.sa.claims) ||
    !decide ((before.mu.roster.getD []).map RosterEntry.urgency =
      (after.mu.roster.getD []).map RosterEntry.urgency)

/-! ## After an accepted frame -/

/-- The release of own shares at or above a curtail level just accepted (R32). -/
def State.curtailRelease (s : State) (c : Image) (q : Nat) : State :=
  match (s.keptHoldings c).filter fun i => decide (q ≤ i) with
  | [] => s
  | set => s.releaseShares set

/-- While the release mark stands, shares that became HELD by the station join the RELEASE slot (R31). -/
def State.releaseArrivals (s : State) (c : Image) : State :=
  if s.sa.releaseMark then
    match s.keptHoldings c with
    | [] => s
    | set => s.releaseShares set
  else s

/-- The frame made the list non-empty at a PARKED station with own holdings (R33). -/
def parkingReleaseDue (c : Image) (before after : State) : Bool :=
  before.sa.claims.isEmpty && !after.sa.claims.isEmpty && decide (after.ts.drain = .parked) &&
    !(after.holdings c.station).isEmpty

/-- The parking release (R33, R81). -/
def State.parkingRelease (s : State) (c : Image) : State :=
  (s.releaseAll c).mapTs fun t => { t with parkTimer := none }

/-- A free value is drawn: the next one drawn is another (log entry 10). -/
def State.drawFree (s : State) : State := { s with freeUsed := s.freeUsed + 1 }

/-- The yield rule and the parking release; where both are due, 12.1 leaves their order open, and a
free value decides (log entry 10). -/
def State.yieldAndPark (s before : State) (c : Image) : State :=
  match tablesChanged before s, parkingReleaseDue c before s with
  | false, false => s
  | true, false => s.yieldIfNamed c
  | false, true => s.parkingRelease c
  | true, true =>
    if Config.yieldBeforeRelease s.freeUsed then (s.drawFree.yieldIfNamed c).parkingRelease c
    else (s.drawFree.parkingRelease c).yieldIfNamed c

/-- The standing release is complete (R31). -/
def State.releaseComplete (s : State) (c : Image) : Bool :=
  s.sa.releaseMark && (s.holdings c.station).isEmpty && !s.hasClaim c.station &&
    s.slotEmpty .claim && s.slotEmpty .release

/-- Clear a completed release and take a PARKED machine to IDLE (R31, R82). -/
def State.completeRelease (s : State) (c : Image) : State :=
  if s.releaseComplete c then
    (s.mapSa fun a => { a with releaseMark := false }).mapTs fun t =>
      if t.drain = .parked then { t with drain := .idle, parkTimer := none } else t
  else s

/-- What the SA does after any accepted frame, once the frame has been applied (R24, R27, R31, R33). -/
def State.afterFrame (s before : State) (c : Image) : State :=
  if s.mu.membership = .linked then
    (((s.releaseArrivals c).rejoinOutgoing c).yieldAndPark before c).completeRelease c
  else s

end Sys2Proof.Machine
end

