-- ==== Sys2Proof/Machine/Tank.lean ====
section
/-! DEFINITION. The Tank Supervisor (chapter 3): levels, the tide lock, urgency, the inlet, the drain
machine and the valve. -/

namespace Sys2Proof.Machine

open Sys2Proof

/-- A channel that is GOOD or SUSPECT is valid (section 3.1). -/
def Quality.isValid : Quality → Bool
  | .good => true
  | .suspect => true
  | _ => false

/-- The tank level of record while its quality of record is valid: what every level test reads (R67). -/
def State.tankNow (s : State) : Option Nat := if s.ts.tankQuality.isValid then s.ts.tankLevel else none

/-- The tank level is at or above a level. -/
def State.tankAtLeast (s : State) (level : Nat) : Bool :=
  match s.tankNow with
  | none => false
  | some l => decide (level ≤ l)

/-- The tank level is above a level. -/
def State.tankAbove (s : State) (level : Nat) : Bool :=
  match s.tankNow with
  | none => false
  | some l => decide (level < l)

/-- The tank level is at or below a level. -/
def State.tankAtMost (s : State) (level : Nat) : Bool :=
  match s.tankNow with
  | none => false
  | some l => decide (l ≤ level)

/-! ## Held values and the tide lock -/

/-- A kept sample updates a channel's level of record (R64). -/
def keepLevel (old : Option Nat) (ch : Channel) : Option Nat :=
  match ch.level with
  | none => old
  | some l => some l

/-- A kept sample updates the held values, channel by channel (R64). -/
def State.holdSample (s : State) (chamber tank : Channel) : State :=
  s.mapTs fun t =>
    { t with
      chamberLevel := keepLevel t.chamberLevel chamber
      chamberQuality := chamber.quality
      tankLevel := keepLevel t.tankLevel tank
      tankQuality := tank.quality }

/-- The tide lock, from the tide state of record and the chamber level of record (R69, log entry 11). -/
def State.lockNow (s : State) (c : Image) : Bool :=
  match s.ts.chamberLevel with
  | none => false
  | some l => decide (s.ts.tide = .shut) && decide (c.crest ≤ l)

/-- Re-evaluate the tide lock (R69). -/
def State.evaluateTideLock (s : State) (c : Image) : State :=
  s.mapTs fun t => { t with tideLock := s.lockNow c }

/-! ## Urgency -/

/-- The fill band (R71). -/
def fillBand (c : Image) (level : Nat) : Nat :=
  min 6 (1 + 6 * (level - c.tankEmpty) / (c.tankFull - c.tankEmpty))

/-- Lines 3 to 5 of Table 3-3 for a valid tank level. -/
def State.tableUrgency (s : State) (c : Image) (level : Nat) : Nat :=
  if s.sc.episode = .spilling ∨ s.ts.tideLock = true then 7
  else if level ≤ c.tankEmpty then 0
  else fillBand c level

/-- The urgency, Table 3-3 and then the storm floor (R70). -/
def State.computeUrgency (s : State) (c : Image) : Nat :=
  if s.ac.activity = .dormant then 0
  else
    match s.tankNow with
    | none => 0
    | some level =>
      let u := s.tableUrgency c level
      if u < 4 ∧ s.srm.readiness = .storm ∧ c.drawdown < level then 4 else u

def State.recomputeUrgency (s : State) (c : Image) : State :=
  s.mapTs fun t => { t with urgency := s.computeUrgency c }

/-! ## Inlet -/

/-- The inlet machine on a kept sample's chamber channel (R73). -/
def inletNext (c : Image) (chamber : Channel) (i : Inlet) : Inlet :=
  match i, chamber.level with
  | .shut, none => .opened
  | .shut, some l => if c.capture ≤ l then .opened else .shut
  | .opened, none => .opened
  | .opened, some l => if l < c.capture - c.hysteresis then .shut else .opened

def State.inletSample (s : State) (c : Image) (chamber : Channel) : State :=
  s.mapTs fun t => { t with inlet := inletNext c chamber t.inlet }

/-! ## Drain machine -/

def State.setDrain (s : State) (d : Drain) : State := s.mapTs fun t => { t with drain := d }

/-- Set the machine IDLE with the valve at 0 and the park timer stopped (R75, R87). -/
def State.stopDrain (s : State) : State :=
  s.mapTs fun t => { t with drain := .idle, parkTimer := none, parkJudged := false, valve := 0 }

/-- Ask the SA to claim with H and the urgency of the moment (R29, R72). -/
def State.askClaim (s : State) (c : Image) : State := s.wantToClaim c (s.computeUrgency c)

/-- The claim condition (R76). -/
def State.claimCondition (s : State) (c : Image) : Bool :=
  (s.tankAtLeast c.claimLevel ||
    (decide (s.srm.readiness = .storm) && s.tankAbove c.drawdown)) &&
    decide (s.mu.membership = .linked) && decide (s.ac.activity = .active) &&
    (s.holdings c.station).isEmpty

/-- Test the claim condition in IDLE (R76). -/
def State.testClaim (s : State) (c : Image) : State :=
  if s.ts.drain = .idle ∧ s.claimCondition c = true then (s.setDrain .wanting).askClaim c else s

/-- The withdraw request that parking and a FAILED tank make, if there is a claim out (R80, R83). -/
def State.withdrawIfOut (s : State) (c : Image) : State :=
  if s.hasClaimOut c then s.requestWithdraw c else s

/-- A kept sample whose tank channel is FAILED (R83). -/
def State.failedTank (s : State) (c : Image) : State :=
  let s1 := if (s.holdings c.station).isEmpty then s else s.releaseAll c
  (s1.withdrawIfOut c).stopDrain

/-- From DRAINING to PARKED (R80). -/
def State.park (s : State) (c : Image) : State :=
  (s.mapTs fun t =>
    { t with drain := .parked, parkTimer := none, parkJudged := false, valve := 0 }).withdrawIfOut c

/-- The drain machine on a kept sample (R76, R78, R80, R82, R83). -/
def State.drainSample (s : State) (c : Image) : State :=
  if s.ts.tankQuality = .failed then s.failedTank c
  else
    match s.ts.drain with
    | .idle => s.testClaim c
    | .wanting => if s.tankAtMost c.tankEmpty then (s.requestWithdraw c).stopDrain else s
    | .draining => if s.tankAtMost c.tankEmpty then s.park c else s
    | .parked =>
      if s.sa.releaseMark = false ∧ s.tankAtLeast c.claimLevel = true then
        s.mapTs fun t => { t with drain := .draining, parkTimer := none, parkJudged := false }
      else s

/-- A PARKED machine judges the list once it has no entry of its own (R81). -/
def State.judgeParked (s : State) (c : Image) : State :=
  if s.ts.parkJudged = false ∧ s.sa.releaseMark = false ∧ s.hasClaim c.station = false then
    let s1 := s.mapTs fun t => { t with parkJudged := true }
    if s.sa.claims.isEmpty = false ∨ c.park = 0 then s1.releaseAll c
    else s1.mapTs fun t => { t with parkTimer := some (secondsMs c.park) }
  else s

/-- The drain machine on the SA's report (R77, R78, R79, R81, R82). -/
def State.drainReport (s : State) (c : Image) : State :=
  let holds := !(s.holdings c.station).isEmpty
  match s.ts.drain with
  | .idle => if holds = true ∧ s.sa.releaseMark = false then s.releaseAll c else s
  | .wanting =>
    if holds then s.setDrain .draining
    else if s.hasClaim c.station = false ∧ s.slotEmpty .claim = true ∧ s.slotEmpty .withdraw = true then
      s.askClaim c
    else s
  | .draining =>
    if holds then s
    else
      let s1 := s.setDrain .wanting
      if s.hasClaim c.station then s1 else s1.askClaim c
  | .parked =>
    if holds = false ∧ s.sa.releaseMark = false then s.stopDrain else s.judgeParked c

/-- An event at which R76 tests the claim condition beside the kept samples. -/
def claimTestDue (c : Image) (before after : State) : Bool :=
  (!decide (before.mu.membership = .linked) && decide (after.mu.membership = .linked)) ||
    (!decide (before.ac.activity = .active) && decide (after.ac.activity = .active)) ||
    (!(before.holdings c.station).isEmpty && (after.holdings c.station).isEmpty) ||
    !decide (before.srm.readiness = after.srm.readiness) ||
    (decide (before.ts.drain = .parked) && decide (after.ts.drain = .idle))

/-- The TS on the SA's report at the end of a step, and the test of the claim condition that the step's
events call for (R28, R76 to R82). -/
def State.drainStep (s before : State) (c : Image) : State :=
  if s.mu.membership = .linked then
    let s1 := s.drainReport c
    if claimTestDue c before s1 then s1.testClaim c else s1
  else s

/-! ## Valve -/

/-- The commanded valve position (R85). -/
def State.valveNow (s : State) (c : Image) : Nat :=
  if s.mu.membership = .linked ∧ s.ac.activity = .active ∧ s.ts.drain = .draining then
    (s.keptHoldings c).length
  else 0

def State.setValve (s : State) (c : Image) : State := s.mapTs fun t => { t with valve := s.valveNow c }

/-! ## Outputs (R113, R196, R198) -/

/-- The alert lamp's patterns (Table 5-3). -/
inductive LampPattern where
  | off
  | slowFlash
  | fastFlash
  | steady
deriving DecidableEq, Repr

/-- Table 5-3: the tide lock overrides the readiness state. -/
def State.lampPattern (s : State) : LampPattern :=
  if s.ts.tideLock then .fastFlash
  else match s.srm.readiness with
    | .quiet => .off
    | .watch => .slowFlash
    | .armed => .slowFlash
    | .storm => .steady

/-- The lamp is lit, so many ms after its pattern was taken up (Table 5-3). A flashing pattern begins with its lit half
(R113). When a pattern was taken up is not in State: the model's choice, log entry 24. -/
def LampPattern.lit (p : LampPattern) (since : Nat) : Bool :=
  match p with
  | .off => false
  | .slowFlash => decide (since % 2000 < 1000)
  | .fastFlash => decide (since % 500 < 250)
  | .steady => true

/-- The alert lamp output is high while the lamp is lit and low while it is dark (R198). -/
def State.lampOutput (s : State) (since : Nat) : Bool := s.lampPattern.lit since

/-- The status line's patterns (Table 10-4). -/
inductive StatusPattern where
  | down
  | joining
  | linked
  | fallenOut
deriving DecidableEq, Repr

def State.statusPattern (s : State) : StatusPattern :=
  match s.mu.membership with
  | .down => .down
  | .listening => .joining
  | .joining => .joining
  | .loading => .joining
  | .linked => .linked
  | .fallback => .fallenOut
  | .isolated => .fallenOut

/-- The status line is high, so many ms after its pattern was taken up (Table 10-4). A repeating pattern begins with its
high part (R196). -/
def StatusPattern.high (p : StatusPattern) (since : Nat) : Bool :=
  match p with
  | .down => decide (since % 2000 < 100)
  | .joining => decide (since % 1000 < 500)
  | .linked => true
  | .fallenOut => decide (since % 2000 < 1900)

/-- The level of the status line output (R196). -/
def State.statusOutput (s : State) (since : Nat) : Bool := s.statusPattern.high since

/-- The inlet gate output is high while the inlet machine is OPEN (R198). -/
def State.inletOutput (s : State) : Bool := decide (s.ts.inlet = .opened)

/-- The four valve step lines (R198). -/
def State.valveOutput (s : State) : BitVec 4 := BitVec.ofNat 4 s.ts.valve

end Sys2Proof.Machine
end

