-- ==== Sys2Proof/Machine/Activity.lean ====
section
/-! DEFINITION. The Activity Controller (chapter 8): dormancy conditions, going dormant, wake triggers. -/

namespace Sys2Proof.Machine

open Sys2Proof

/-- Table 8-2. -/
def State.dormancyConditions (s : State) (c : Image) : Bool :=
  decide (s.mu.membership = .linked) && decide (s.ts.drain = .idle) &&
    (s.holdings c.station).isEmpty && !s.hasClaim c.station && decide (s.ts.inlet = .shut) &&
    decide (s.srm.readiness = .quiet) && decide (s.ru.localGrade = .none) &&
    decide (s.sc.episode = .clear) &&
    allSlots.all fun id => decide (id = .status) || decide (id = .dormant) || s.slotEmpty id

/-- The DORMANT slot is IN FLIGHT with the frame that is to take the station into dormancy: not with a
re-assertion that a waking cancelled (R162, R164). -/
def State.enteringInFlight (s : State) : Bool :=
  s.slotInFlight .dormant && (!s.flightCancelled .dormant || s.ac.wakeMark)

/-- Set the wake mark and ask the LC to cancel the DORMANT slot (R162). -/
def State.markWake (s : State) : State :=
  (s.mapAc fun a => { a with wakeMark := true }).cancelSlot .dormant

/-- The drain machine of a station that goes dormant is IDLE (R84, R167, Table 8-1): one that a sample took to WANTING
while the DORMANT was in flight gives its claim up. That it asks to withdraw is the model's choice, log entry 36. -/
def State.restDrain (s : State) (c : Image) : State :=
  if s.ts.drain = .idle then s else (s.withdrawIfOut c).stopDrain

/-- Entry to DORMANT (R163). -/
def State.enterDormant (s : State) (c : Image) : State :=
  let s1 := s.mapAc fun a => { a with activity := .dormant, delay := none }
  let s2 := s1.mapTs fun t => { t with sampleTimer := some (secondsMs c.dormantSample) }
  (s2.mapMu fun m => { m with presence := some (secondsMs c.dormantPresence) }).recomputeUrgency c

/-- Entry to WAKING (R167). -/
def State.enterWaking (s : State) (c : Image) : State :=
  let s1 := s.mapAc fun a =>
    { a with
      activity := .waking, delay := none, recovery := some (secondsMs c.wakeRecovery), wakeMark := false }
  let s2 := s1.mapTs fun t => { t with sampleTimer := some (secondsMs c.sampleInterval) }
  let s3 := s2.mapMu fun m => { m with presence := some (secondsMs c.presence) }
  ((s3.cancelSlot .dormant).recomputeUrgency c).writeStatus

/-- A wake trigger reaches the AC (R166). -/
def State.wakeTrigger (s : State) (c : Image) : State :=
  match s.ac.activity with
  | .dormant => s.enterWaking c
  | .active => if s.enteringInFlight then s.markWake else s
  | .waking => s

/-- The AC's watch at the end of a step: the delay timer and the pending or flying DORMANT (R161, R162). -/
def State.watchDormancy (s : State) (c : Image) : State :=
  match s.ac.activity with
  | .active =>
    if s.dormancyConditions c then
      if s.slotEmpty .dormant = true ∧ c.dormancyDelay ≠ 0 then
        s.mapAc fun a =>
          { a with delay := some (a.delay.getD (minutesMs c.dormancyDelay)) }
      else s.mapAc fun a => { a with delay := none }
    else
      let s1 := s.mapAc fun a => { a with delay := none }
      if s1.slotPending .dormant then s1.cancelSlot .dormant
      else if s1.enteringInFlight then s1.markWake
      else s1
  | _ => s.mapAc fun a => { a with delay := none }

/-- Activity ACTIVE, timers stopped, the wake mark cleared (R160). -/
def State.resetActivity (s : State) : State := s.mapAc fun _ => AcState.reset

end Sys2Proof.Machine
end

