-- ==== Sys2Proof/Machine/Rain.lean ====
section
/-! DEFINITION. The Rain Unit (chapter 4) and the Storm Readiness Monitor (chapter 5): depths and grades,
the alert table, the heeded grade, alert events, the readiness ladder and the calm timer. -/

namespace Sys2Proof.Machine

open Sys2Proof

/-! ## Depths and the local grade -/

/-- R90. -/
def State.depth5 (s : State) : Nat := (s.ru.ring.take 5).sum + s.ru.current

/-- R90. -/
def State.depth15 (s : State) : Nat := (s.ru.ring.take 15).sum + s.ru.current

/-- Table 4-1. -/
def gradeOfDepths (c : Image) (d5 d15 : Nat) : Grade :=
  if c.d5Severe ≤ d5 ∨ c.d15Severe ≤ d15 then .severe
  else if c.d5Warn ≤ d5 ∨ c.d15Warn ≤ d15 then .warn
  else if c.d5Watch ≤ d5 ∨ c.d15Watch ≤ d15 then .watch
  else .none

/-- Write the ALERT slot with the zone and the present local grade (R92). -/
def State.writeAlert (s : State) (c : Image) : State :=
  s.writeSlot .alert (.alert c.zone s.ru.localGrade)

/-- The refresh timer after a change of the local grade (R93). -/
def refreshAfter (c : Image) (old new : Grade) (t : Timer) : Timer :=
  if new = .none then none
  else if old = .none then some (secondsMs c.alertRefresh)
  else t

/-- A local evaluation (R91, R92, R93). -/
def State.evaluateLocal (s : State) (c : Image) : State :=
  let new := gradeOfDepths c s.depth5 s.depth15
  if new = s.ru.localGrade then s
  else
    (s.mapRu fun r =>
      { r with localGrade := new, refresh := refreshAfter c r.localGrade new r.refresh }).writeAlert c

/-- After the slots have been emptied, a grade the line has not heard goes back into its slot (R94). -/
def State.rewriteAlert (s : State) (c : Image) : State :=
  if s.ru.localGrade ≠ .none ∨ s.ru.localGrade ≠ s.ru.lastSent then s.writeAlert c else s

/-- Complete the current bucket into the ring (R89). -/
def State.completeBucket (s : State) : State :=
  s.mapRu fun r => { r with ring := (r.current :: r.ring).take 15, current := 0 }

/-! ## The zone alert table and the heeded grade -/

/-- The zone is the station's own or a further heeded one (R99). -/
def isHeeded (c : Image) (zone : Nat) : Bool := decide (zone = c.zone) || c.heeded.contains zone

/-- A zone's grade in the table; a void table reads NONE (R95). -/
def State.zoneGrade (s : State) (zone : Nat) : Grade :=
  match s.ru.alerts with
  | none => .none
  | some l => if zone = 0 then .none else (l.getD (zone - 1) .blank).grade

/-- The zones, lowest first. -/
def zoneNumbers : List Nat := (List.range 16).drop 1

/-- The heeded grade (R99). -/
def State.heededGrade (s : State) (c : Image) : Grade :=
  (zoneNumbers.filter (isHeeded c)).foldl (fun g z => g.max (s.zoneGrade z)) s.ru.localGrade

/-- The source zone of an event that carries a grade (R104). -/
def State.sourceZone (s : State) (c : Image) (g : Grade) : Option Nat :=
  if g = .none then none
  else if s.ru.localGrade = g then some c.zone
  else zoneNumbers.find? fun z => isHeeded c z && decide (s.zoneGrade z = g)

/-- An ALERT of a grade from an origin meets a zone's entry (R96). -/
def applyAlert (g : Grade) (origin : Nat) (e : ZoneEntry) : ZoneEntry :=
  if e.grade = .none ∨ e.grade.code ≤ g.code ∨ e.origin = some origin then
    { grade := g, origin := some origin, age := if g = .none then none else some 0 }
  else e

def State.mapZone (s : State) (zone : Nat) (f : ZoneEntry → ZoneEntry) : State :=
  s.mapRu fun r =>
    { r with alerts := r.alerts.map fun l => if zone = 0 then l else updateAt f (zone - 1) l }

/-- A void table becomes valid with every entry NONE; a valid one is kept (R98). -/
def State.validateAlerts (s : State) : State :=
  s.mapRu fun r => { r with alerts := some (r.alerts.getD (List.replicate 15 .blank)) }

/-- The table becomes void (R98). -/
def State.voidAlerts (s : State) : State := s.mapRu fun r => { r with alerts := none }

/-- A ms passes: every running age counts it (R95, R98). -/
def State.ageAlerts (s : State) : State :=
  s.mapRu fun r =>
    { r with alerts := r.alerts.map fun l => l.map fun e => { e with age := e.age.map (· + 1) } }

/-- Time passes, a ms or a second's end: the step window no longer starts at the present instant (R108, log entry 41). -/
def State.ageWindow (s : State) : State := s.mapSrm fun r => { r with stepFresh := false }

/-- What the passing of one ms does while no command waits (log entry 2): in every state but DOWN the ages run (R97). -/
def State.elapse (s : State) : State := if s.running.isSome then s.ageAlerts.ageWindow else s

/-! ## Readiness -/

/-- One alert event at the SRM (R105, R106, R107, R109); at most one step. -/
def State.readinessEvent (s : State) (c : Image) (g : Grade) (source : Option Nat) : State :=
  match s.srm.readiness with
  | .quiet =>
    if 1 ≤ g.code then
      (s.mapSrm fun r =>
        { r with readiness := .watch, stepWindow := some (minutesMs c.stepWindow), stepFresh := true }).wakeTrigger c
    else s
  | .watch =>
    if 2 ≤ g.code then
      s.mapSrm fun r =>
        { r with readiness := .armed, stepWindow := some (minutesMs c.stepWindow), stepFresh := true }
    else s
  | .armed =>
    if g = .severe then
      (s.mapSrm fun r =>
        { r with
          readiness := .storm, stepWindow := none, stepFresh := false, calm := none
          trigger := some { zone := source.getD c.zone, grade := .severe } }).stormFlag
    else s
  | .storm => s

/-- An alert event: the heeded grade is evaluated and delivered with its source zone (R100, R104). -/
def State.alertEvent (s : State) (c : Image) : State :=
  let g := s.heededGrade c
  s.readinessEvent c g (s.sourceZone c g)

/-- The calm timer follows the heeded grade in STORM (R109). -/
def State.controlCalm (s : State) (c : Image) : State :=
  if s.srm.readiness = .storm then
    if s.heededGrade c = .none then
      s.mapSrm fun r => { r with calm := some (r.calm.getD (minutesMs c.calmTime)) }
    else s.mapSrm fun r => { r with calm := none }
  else s

end Sys2Proof.Machine
end

