-- ==== Sys2Proof/Machine/Member.lean ====
section
/-! DEFINITION. The Membership Unit (chapter 2): leaving and entering membership states, founding, the lock,
and what goes with each at the other blocks. -/

namespace Sys2Proof.Machine

open Sys2Proof

/-! ## Emptying slots (R185) -/

/-- The own frame on the line, as its slot has it. -/
def State.flyingFrame (s : State) (c : Image) (id : SlotId) : Option Frame :=
  match (s.slot id).state with
  | .inFlight content _ _ => some (frameOf c.station id content)
  | _ => none

/-- Empty a slot without an outcome: a frame in flight runs on without it (R185). -/
def State.emptySlot (s : State) (c : Image) (id : SlotId) : State :=
  (s.mapLc fun l =>
    { l with orphan := match s.flyingFrame c id with
        | some f => some f
        | none => l.orphan }).setSlot id Slot.blank

def State.emptySlots (s : State) (c : Image) (ids : List SlotId) : State :=
  ids.foldl (fun t id => t.emptySlot c id) s

/-- The slots that entry to ISOLATED empties: classes 0, 1, 2, 3 and 5 (R60). -/
def isolatedSlots : List SlotId :=
  [.table, .absent, .reclaim, .yield, .release, .withdraw, .claim, .join, .status, .dormant]

/-- Empty all eighteen slots and zero the tally (R59, R60, R61, R182). -/
def State.emptyAll (s : State) (c : Image) : State :=
  (s.emptySlots c allSlots).mapLc fun l => { l with tally := 0 }

/-- Write each pending notice of an earlier state again into its emptied slot (R159). -/
def State.rewriteNotices (s old : State) : State :=
  noticeSlots.foldl
    (fun t id =>
      match old.pendingNotice id with
      | none => t
      | some content => t.writeSlot id content) s

/-! ## Leaving the shared tables -/

/-- What FALLBACK, ISOLATED and RESTART have in common: the valve at 0, the drain machine IDLE, the SA and
the roster void, the lock ended, the MU's timers stopped, no JOIN record or marks kept, activity ACTIVE,
the claim spacing stopped (R40, R59, R60, R61, R160, R184). A WAKING that ends so makes no sample request and leaves the
sample timer: the model's choice, log entry 43. -/
def State.leaveTables (s : State) : State :=
  let s1 := (s.stopDrain.voidShares).resetActivity
  let s2 := s1.mapMu fun m =>
    { m with
      roster := none, lock := none, joinRecord := [], populated := false, newlyPopulated := false,
      nextSegment := 0, listen := none, burstHold := none, joinWait := none, load := none,
      presence := none, silence := none }
  s2.mapLc fun l => { l with spacing := none }

/-- Empty the request queue and end its service (R59, R61). -/
def State.emptyQueue (s : State) : State := s.mapRs fun r => { r with queue := [], serving := false }

def State.setMembership (s : State) (m : Membership) : State := s.mapMu fun x => { x with membership := m }

/-- Entry to FALLBACK (R59). -/
def State.enterFallback (s : State) (c : Image) : State :=
  let flagged := s.latch c .lineLost
  let s1 := ((flagged.leaveTables.emptyAll c).emptyQueue.voidAlerts).setMembership .fallback
  let s2 := s1.mapMu fun m => { m with quiet := some (secondsMs c.travel) }
  (s2.rewriteAlert c).rewriteNotices flagged

/-- Entry to ISOLATED (R60). -/
def State.enterIsolated (s : State) (c : Image) : State :=
  (((s.leaveTables.emptySlots c isolatedSlots).validateAlerts).setMembership .isolated).mapMu fun m =>
    { m with quiet := none }

/-- Entry to LISTENING (R39); hold starts the restart hold. -/
def State.enterListening (s : State) (c : Image) (hold : Bool) : State :=
  (s.mapMu fun m =>
    { m with
      membership := .listening, joinRecord := [], populated := false, newlyPopulated := false,
      nextSegment := 0, burstHold := none, listen := some (2 * secondsMs c.presence)
      restartHold := if hold then some (secondsMs c.travel) else m.restartHold }).cancelSlot .join

/-- A taken RESTART (R61). -/
def State.takeRestart (s : State) (c : Image) : State :=
  let s1 := (s.leaveTables.emptyAll c).emptyQueue.voidAlerts
  let s2 := s1.mapMu fun m => { m with failures := 0, quiet := none }
  ((s2.enterListening c true).rewriteAlert c).rewriteNotices s

/-- Discard what a joiner has loaded (R49, R52). -/
def State.discardLoad (s : State) : State := s.voidShares.mapMu fun m => { m with roster := none }

/-- A spoiled join (R49). -/
def State.spoilJoin (s : State) (c : Image) : State := s.discardLoad.enterListening c false

/-- A failed join: the second in a row isolates (R52). -/
def State.failJoin (s : State) (c : Image) : State :=
  let s1 := ((s.latch c .joinFailed).discardLoad).mapMu fun m => { m with failures := m.failures + 1 }
  if s1.mu.failures = 2 then s1.enterIsolated c else s1.enterListening c false

/-- A duplicate number: the valve to 0, the flag, ISOLATED (R44). -/
def State.isolateFor (s : State) (c : Image) (f : Flag) : State :=
  ((s.mapTs fun t => { t with valve := 0 }).latch c f).enterIsolated c

/-! ## Becoming LINKED -/

/-- Entry to LINKED: the join's timers stop, the failure count goes to 0, presence is timed, STATUS is
queued (R43, R51, R53, log entry 15). -/
def State.enterLinked (s : State) (c : Image) : State :=
  (s.mapMu fun m =>
    { m with
      membership := .linked, failures := 0, joinRecord := [], populated := false
      newlyPopulated := false, nextSegment := 0, joinWait := none, load := none, burstHold := none
      presence := some (secondsMs c.presence) }).writeStatus

/-- A LINKED entry, just made so: urgency 0, mark clear (R36, R47). -/
def RosterEntry.linkedNow (timer : Timer) : RosterEntry :=
  { state := .linked, dormant := false, urgency := 0, lastHeard := timer, stranding := none }

/-- The founder's roster: every entry NONE but its own (R36). -/
def founderRoster (station : Nat) : List RosterEntry :=
  updateAt (fun _ => RosterEntry.linkedNow none) (station - 1) (List.replicate stationCount .blank)

/-- Founding (R43). -/
def State.found (s : State) (c : Image) : State :=
  ((s.foundShares c).mapMu fun m => { m with roster := some (founderRoster c.station) }).validateAlerts.enterLinked c

/-- The limit an entry is timed against (R54). -/
def lastHeardLimit (c : Image) (dormant : Bool) : Timer :=
  some (secondsMs (if dormant then c.dormantAbsence else c.absence))

/-- The timers a joiner starts for the entries it has loaded (R51). -/
def startEntryTimers (c : Image) (e : RosterEntry) : RosterEntry :=
  match e.state with
  | .linked => { e with lastHeard := lastHeardLimit c e.dormant }
  | .absent => { e with stranding := some (secondsMs c.stranding) }
  | _ => e

/-- The final segment at the joiner (R51). -/
def State.linkLoaded (s : State) (c : Image) : State :=
  let s1 := s.mapMu fun m => { m with roster := m.roster.map fun r => r.map (startEntryTimers c) }
  ((s1.mapEntry c.station fun _ => RosterEntry.linkedNow none).reorderClaims).enterLinked c

/-! ## The lock -/

/-- The responder (R45): the lowest LINKED station whose mark is clear, or else the lowest LINKED one. The joiner is none of
them: its entry is JOINING at every other LINKED station, so that all name the same one (log entry 46). -/
def State.chooseResponder (s : State) (joiner : Nat) : Nat :=
  let linked (n : Nat) := !decide (n = joiner) && s.isLinked n
  match tankNumbers.find? fun n => linked n && !(s.entry n).dormant with
  | some n => n
  | none => (tankNumbers.find? linked).getD 0

/-- End the lock; the responder cancels its TABLE slot (R48, R49). The joiner's entry becomes NONE, unless it is this
station's own, which stays LINKED (R36, log entry 46). -/
def State.endLock (s : State) (c : Image) : State :=
  match s.mu.lock with
  | none => s
  | some l =>
    let s0 := s.mapMu fun m => { m with lock := none }
    let s1 := if l.joiner = c.station then s0 else s0.clearEntry l.joiner
    if l.responder = c.station then s1.cancelSlot .table else s1

/-- A spoiled or timed-out lock, or a spoiled join: what an allocation frame does beside its own effect (R49). -/
def State.spoil (s : State) (c : Image) : State :=
  match s.mu.membership with
  | .linked => s.endLock c
  | .joining => s.spoilJoin c
  | .loading => s.spoilJoin c
  | _ => s

/-- The silence condition: another LINKED entry whose mark is clear (R58). -/
def State.silenceCondition (s : State) (c : Image) : Bool :=
  decide (s.mu.membership = .linked) &&
    tankNumbers.any fun n => !decide (n = c.station) && s.isLinked n && !(s.entry n).dormant

/-- Start or stop the silence timer with its condition (R58). -/
def State.watchSilence (s : State) (c : Image) : State :=
  s.mapMu fun m =>
    { m with silence :=
        if s.silenceCondition c then some (m.silence.getD (secondsMs c.silence)) else none }

/-- Write JOIN once listening is over and no hold runs (R39). -/
def State.writeJoinIfDue (s : State) (c : Image) : State :=
  if s.mu.membership = .listening ∧ s.mu.listen = none ∧ s.mu.restartHold = none ∧
      s.mu.burstHold = none ∧ s.slotEmpty .join = true then
    s.writeSlot .join (.join c.pool)
  else s

end Sys2Proof.Machine
end

