-- ==== Sys2Proof/Machine/Settle.lean ====
section
/-! DEFINITION. The end of every command: what follows from the state as it then stands (reports between
the blocks, standing causes, timers that run on conditions), and the LC's offer (section 9.5). -/

namespace Sys2Proof.Machine

open Sys2Proof

/-! ## Eligibility and the offer -/

/-- Table 2-2, with JOIN in LISTENING as R39 and R41 have it (log entry 7). -/
def membershipPermits (m : Membership) (id : SlotId) : Bool :=
  match m with
  | .linked => true
  | .loading => decide (slotClass id = 4) || decide (slotClass id = 7)
  | .joining => decide (slotClass id = 4) || decide (slotClass id = 7) || decide (id = .join)
  | .listening => decide (slotClass id = 4) || decide (slotClass id = 7) || decide (id = .join)
  | .isolated => decide (slotClass id = 4) || decide (slotClass id = 7)
  | _ => false

/-- Table 8-3. -/
def activityPermits (a : Activity) (id : SlotId) : Bool :=
  match a with
  | .active => true
  | .dormant => decide (4 ≤ slotClass id)
  | .waking => (decide (4 ≤ slotClass id) || decide (id = .table)) && !decide (id = .dormant)

/-- An allocation frame or a JOIN (00_scope.md section 4). -/
def isLockHeld (id : SlotId) : Bool :=
  (decide (1 ≤ slotClass id) && decide (slotClass id ≤ 3)) || decide (id = .join)

/-- A PENDING slot is eligible (R177). -/
def State.eligible (s : State) (id : SlotId) : Bool :=
  s.slotPending id && membershipPermits s.mu.membership id &&
    (!decide (s.mu.membership = .linked) || activityPermits s.ac.activity id) &&
    (!isLockHeld id || s.mu.lock.isNone) && (!decide (id = .join) || s.mu.burstHold.isNone) &&
    (!decide (id = .claim) || s.lc.spacing.isNone) && (s.slot id).backoff.isNone

/-- The class and sub-kind of a slot's waiting frame, as the key orders them within one station (R171). -/
def State.slotKey (s : State) (id : SlotId) : Nat :=
  match (s.slot id).state with
  | .pending c => 8 * slotClass id + c.sub
  | _ => 64

/-- The eligible slot of lowest key, and of lowest slot number among equals (R178). -/
def State.bestSlot (s : State) : Option SlotId :=
  (allSlots.filter s.eligible).foldl
    (fun best id =>
      match best with
      | none => some id
      | some b => if s.slotKey id < s.slotKey b then some id else some b) none

/-- A TABLE content is built at the offer (R46, R178). -/
def State.offeredContent (s : State) (c : Image) : Content → Content
  | .table segment joiner _ => .table segment joiner (s.segmentBytes c segment)
  | content => content

/-- The slot becomes IN FLIGHT (R178); no flag has been newly latched since (R158). -/
def State.startFlight (s : State) (c : Image) (id : SlotId) : State :=
  match (s.slot id).state with
  | .pending content =>
    (s.setSlot id
      { (s.slot id) with
        state := .inFlight (s.offeredContent c content) none false, backoff := none }).mapLc fun l =>
      { l with idle := false, newsSince := 0 }
  | _ => s

/-- The line is idle, and nothing of this station's is on it (R177, R178). -/
def State.mayOffer (s : State) : Bool := s.lc.idle && s.flight.isNone && s.lc.orphan.isNone

/-- A slot is eligible and the line has been idle (R171): if it still is, the slot goes at once, and if another
station's frame has begun, it waits for the next idle. Which of the two is a free value (log entry 31). -/
def State.offerIfStillIdle (s : State) (c : Image) (id : SlotId) : State :=
  if Config.lineStillIdle s.freeUsed then s.drawFree.startFlight c id
  else s.drawFree.mapLc fun l => { l with idle := false }

/-- Offer the best eligible slot (R171, R177, R178): at the moment the line becomes idle (fresh), or later while it is. -/
def State.offer (s : State) (c : Image) (fresh : Bool) : State :=
  if s.mayOffer then
    match s.bestSlot with
    | none => s
    | some id => if fresh then s.startFlight c id else s.offerIfStillIdle c id
  else s

/-! ## Settling -/

/-- A change of the values STATUS carries queues STATUS (R53). The values are compared before and after the whole
command: the model's choice, log entry 35. -/
def State.statusOnChange (s before : State) : State :=
  if before.statusValues ≠ s.statusValues then s.statusForChange else s

/-- The blocks' state at the end of a command, before the LC offers. The TS asks for its release here (R81), after the
SA's yield rule on the same frame: the model's choice, log entry 39. -/
def settleBlocks (c : Image) (before s : State) : State :=
  let s1 := (s.recomputeUrgency c).drainStep before c
  let s2 := (s1.setValve c).latchStanding c
  let s3 := ((s2.controlCalm c).watchSilence c).writeJoinIfDue c
  ((s3.runService c).statusOnChange before).watchDormancy c

/-- The end of a command on a running station. A line that was not idle before the command and is idle now has become
idle in it. -/
def settle (c : Image) (before s : State) : State := (settleBlocks c before s).offer c !before.lc.idle

/-- The form of a command that acts only on a running station, and only under its guard: a timer that
is stopped does not expire, and in DOWN nothing is taken (00_scope.md section 7, R34, R108). -/
def State.onRunning (s : State) (guard : Image → Bool) (body : Image → State) : State :=
  match s.running with
  | none => s
  | some c => if guard c then settle c s (body c) else s

end Sys2Proof.Machine
end

