-- ==== Sys2Proof/Machine/Receive.lean ====
section
/-! DEFINITION. The outcome of a frame at this station (sections 9.3 to 9.6): own or not, the slot's
bookkeeping, hearing, the owner's part, and what follows. -/

namespace Sys2Proof.Machine

open Sys2Proof

/-- How an accepted frame stands to this station: its own, from which slot, and whether that flight
had been cancelled. -/
structure Arrival where
  own : Bool
  slot : Option SlotId
  cancelled : Bool
deriving DecidableEq, Repr

/-- The frame on the line that is this station's own: that of the slot in flight, or the one whose slot
has been emptied (R173, R185). -/
def State.ownOnLine (s : State) (c : Image) : Option Frame :=
  match s.flight with
  | some id => s.flyingFrame c id
  | none => s.lc.orphan

/-- Recognise an own frame by its key (R40, R173, log entry 8). -/
def State.arrival (s : State) (c : Image) (f : Frame) : Arrival :=
  match s.ownOnLine c with
  | none => { own := false, slot := none, cancelled := false }
  | some g =>
    if g.key = f.key then
      { own := true, slot := s.flight
        cancelled := match s.flight with
          | some id => s.flightCancelled id
          | none => false }
    else { own := false, slot := none, cancelled := false }

/-- A frame has come to its end: the line is not idle, and these are the marks this station drove. -/
def State.endField (s : State) (marks : Marks) : State :=
  s.mapLc fun l => { l with idle := false, marks := marks }

/-- No mark driven. -/
def Marks.clear : Marks := { abort := false, busy := false }

/-- The reports a cancelled flight's end makes to its owner: the AC clears its wake mark, the SA its
standing withdraw mark (R30, R162, R179). -/
def State.reportEmptied (s : State) (id : SlotId) : State :=
  match id with
  | .claim => s.mapSa fun a => { a with withdrawMark := false }
  | .dormant => s.mapAc fun a => { a with wakeMark := false }
  | _ => s

/-- End a flight that was not accepted (R176, R179, R181); an orphan just ends (R185). -/
def State.failFlight (s : State) : State :=
  match s.flight with
  | none => s.mapLc fun l => { l with orphan := none }
  | some id =>
    let s1 := s.setSlot id (s.slot id).failed
    if s.flightCancelled id then s1.reportEmptied id else s1

/-- The slot bookkeeping of an accepted own frame, before any block applies it (R174, R180, R184, R185). -/
def State.bookkeep (s : State) (a : Arrival) : State :=
  match a.slot with
  | none => s.mapLc fun l => { l with orphan := none }
  | some id =>
    (s.setSlot id (s.slot id).accepted).mapLc fun l =>
      { l with tally := 0, spacing := if id = .claim then some spacingMs else l.spacing }

/-- A LINKED entry hears from its station: the mark clears and the last-heard timer restarts (R37). A
LOADING station keeps marks and no timers (R51). -/
def State.hearEntry (s : State) (c : Image) (n : Nat) : State :=
  if s.isLinked n then
    s.mapEntry n fun e =>
      { e with
        dormant := false
        lastHeard :=
          if s.mu.membership = .linked ∧ n ≠ c.station then lastHeardLimit c false else e.lastHeard }
  else s

/-- The silence timer, while it runs, restarts on every accepted frame from another station (R58). -/
def State.hearSilence (s : State) (c : Image) (a : Arrival) : State :=
  if a.own then s
  else s.mapMu fun m => { m with silence := m.silence.map fun _ => secondsMs c.silence }

/-- The populated marks (R40). -/
def State.hearPopulated (s : State) (f : Frame) : State :=
  if isTank f.sender = true ∧ f.cls ≤ 5 ∧ ¬ (f.cls = 5 ∧ f.sub = 0) then
    match s.mu.membership with
    | .listening => s.mapMu fun m => { m with populated := true }
    | .joining => s.mapMu fun m => { m with newlyPopulated := true }
    | _ => s
  else s

/-- A DORMANT frame (Table 0-3). -/
def Frame.isDormant (f : Frame) : Bool := decide (f.cls = 5) && decide (f.sub = 2)

/-- What an accepted frame does by having been heard (R37, R40, R54, R58), also a JOIN that R45 ignores under a
standing lock and a TABLE segment that R200 does not take: the model's choices, log entries 34 and 42. -/
def State.hear (s : State) (c : Image) (a : Arrival) (f : Frame) : State :=
  let s1 := (s.hearSilence c a).hearPopulated f
  let s2 := if isTank f.sender then s1.pruneSlot .absent [f.sender] else s1
  if f.isDormant then s2 else s2.hearEntry c f.sender

/-- The presence timer's length: the dormant presence interval while DORMANT (R53). -/
def State.presenceLength (s : State) (c : Image) : Nat :=
  secondsMs (if s.ac.activity = .dormant then c.dormantPresence else c.presence)

/-- The presence timer restarts at the acceptance of an own frame (R53). -/
def State.restartPresence (s : State) (c : Image) (a : Arrival) : State :=
  if a.own = true ∧ s.mu.membership = .linked then
    s.mapMu fun m => { m with presence := some (s.presenceLength c) }
  else s

/-- An allocation frame, by its class alone (R49). -/
def Frame.isAllocation (f : Frame) : Bool := decide (1 ≤ f.cls) && decide (f.cls ≤ 3)

/-- The frame has come to its end, and the slot bookkeeping or the end of a lost flight is done (R173, R174). -/
def State.concluded (s : State) (c : Image) (f : Frame) : State :=
  let a := s.arrival c f
  let s0 := s.endField .clear
  if a.own then s0.bookkeep a else s0.failFlight

/-- The frame has been heard too: the state its owner finds (R174). -/
def State.heardFrame (s : State) (c : Image) (f : Frame) : State :=
  (s.concluded c f).hear c (s.arrival c f) f

/-- What follows the owner: the presence timer, and for an allocation frame the spoiling (R49, R53). -/
def State.ownerDone (s : State) (c : Image) (a : Arrival) (f : Frame) : State :=
  let s1 := s.restartPresence c a
  if f.isAllocation then s1.spoil c else s1

/-- A sender number of 0 or 63 is no station's (R173). -/
def Frame.fromStation (f : Frame) : Bool := !decide (f.sender = 0) && !decide (f.sender = 63)

/-- An accepted frame at a running station (R173, R174): the hearing, the owner, what follows it, and the
SA's part. -/
def acceptFrame (c : Image) (f : Frame) (owner : Arrival → State → State) (s : State) : State :=
  if f.fromStation then
    let a := s.arrival c f
    ((owner a (s.heardFrame c f)).ownerDone c a f).afterFrame (s.concluded c f) c
  else s.concluded c f

/-- A frame command: a station that is not yet following the line neither receives nor vetoes it (R169). -/
def receive (f : Frame) (owner : Image → Arrival → State → State) (s : State) : State :=
  s.onRunning (fun _ => s.lc.following) fun c => acceptFrame c f (owner c) s

/-- The frame a command carries. -/
def bodyFrame (b : FrameBody) (cls sub : Nat) : Frame :=
  { cls := cls, sub := sub, sender := b.sender.toNat, addressee := b.addressee.toNat,
    payload := b.payload }

/-- A station in a state where frames of classes 1 to 3 act, from a sender whose entry is LINKED (R3). -/
def State.takesFrom (s : State) (n : Nat) : Bool :=
  decide (s.mu.membership = .linked) && s.isLinked n

end Sys2Proof.Machine
end

