-- ==== Sys2Proof/Machine/StartUp.lean ====
section
/-! DEFINITION. Supply, reset line, configuration and station seconds (chapter 10): the meanings of
POWER_ON, SUPPLY_BELOW_THRESHOLD, RESET_LINE_PULSE, RESET_LINE_RELEASE, CONFIG_READ_ATTEMPT,
CONFIG_RETRY_WAIT_EXPIRY and STATION_SECONDS_TICK. -/

namespace Sys2Proof.Machine

open Sys2Proof

/-- Every command of this chip ends in a next state (log entry 28). -/
abbrev Result := Host.Outcome State Fault Refusal

/-! ## Supply and reset line -/

/-- The power-on state (R187), with what is not the chip's: the tide input, the model's counter of free
values, and the queue. -/
def State.powerOnState (s : State) (supply : Bool) : State :=
  { State.reset with
    supplyGood := supply, tidePin := s.tidePin, freeUsed := s.freeUsed, pending := s.pending }

/-- A load begins (R187). -/
def State.beginLoad (s : State) (afterPulse : Bool) : State :=
  s.mapCl fun _ => { ClState.reset with load := .reading, afterPulse := afterPulse }

/-- The supply has risen and stayed: the power-on state, and a load begins (R187). -/
def execPowerOn (s : State) : Result := .next ((s.powerOnState true).beginLoad false)

/-- All state is lost (R187). -/
def execSupplyBelowThreshold (s : State) : Result := .next (s.powerOnState false)

/-- The SC at a pulse (R133): an open episode is closed by the image it was opened under. In DOWN none
is open. -/
def State.cutAtPulse (s : State) : State :=
  match s.cl.image with
  | some c => s.cutEpisode c
  | none => s

/-- The RS's part that a pulse keeps: the log and its three counters (R136, R154, R159). -/
def RsState.keepLog (r : RsState) : RsState :=
  { RsState.reset with
    log := r.log, written := r.written, discarded := r.discarded, overwritten := r.overwritten }

/-- Every block takes its reset-line values, once the SC has closed an open episode (R194, Table 10-3). -/
def State.pulseValues (s : State) : State :=
  let s1 := s.cutAtPulse
  { s1 with
    resetHeld := true, cl := .reset, lc := .reset, mu := .reset, sa := .reset, ts := .reset,
    ru := .reset, srm := .reset, sc := s1.sc.keepCounts, rs := s1.rs.keepLog, ac := .reset }

/-- R194, R133, R187. Without supply there is nothing to reset. -/
def execResetLinePulse (s : State) : Result :=
  .next (if s.supplyGood then s.pulseValues else s)

/-- The line returns high after assertion: a new load begins (R187, R194). -/
def execResetLineRelease (s : State) : Result :=
  .next (if s.supplyGood && s.resetHeld then { s with resetHeld := false }.beginLoad true else s)

/-! ## The load -/

/-- The bytes of an attempt that succeeded: read to the end, with a matching check word (R188, R189). -/
def goodBytes : ReadAttempt → Option (List Byte)
  | .bytes l => if imageCheck l then some l else none
  | _ => none

/-- The TS sends a request and opens its reply window, half the sample timer's length (R62, R63). -/
def State.request (s : State) (seconds : Nat) : State :=
  s.mapTs fun t => { t with sampleTimer := some (secondsMs seconds), window := some (500 * seconds) }

/-- What begins together at a good load (R192). -/
def State.goodLoad (s : State) (c : Image) : State :=
  let hold := s.cl.afterPulse
  let s1 := s.mapCl fun l => { l with load := .good, image := some c, retry := none }
  let s2 := (s1.enterListening c hold).mapTs fun t => { t with tide := s.tidePin, tideStable := none }
  s2.request c.sampleInterval

/-- A bad load: no image, and the station stays DOWN (R193). -/
def State.badLoad (s : State) : State :=
  s.mapCl fun l => { l with load := .bad, image := none, retry := none }

/-- A failed attempt: the third makes the load bad, and the others wait 10 ms (R188). -/
def State.failedAttempt (s : State) : State :=
  let s1 := s.mapCl fun l => { l with attempts := l.attempts + 1 }
  if 3 ≤ s1.cl.attempts then s1.badLoad else s1.mapCl fun l => { l with retry := some retryMs }

/-- The end of a read attempt (R188 to R193). -/
def State.readAttempt (s : State) (read : ReadAttempt) : State :=
  match goodBytes read with
  | none => s.failedAttempt
  | some l =>
    match judgeImage l with
    | none => s.badLoad
    | some c => settle c s (s.goodLoad c)

/-- An attempt is under way: the load is READING and no retry wait runs (R188). -/
def State.attempting (s : State) : Bool := decide (s.cl.load = .reading) && s.cl.retry.isNone

def execConfigReadAttempt (read : ReadAttempt) (s : State) : Result :=
  .next (if s.attempting then s.readAttempt read else s)

/-- The next attempt begins (R188). -/
def execConfigRetryWaitExpiry (s : State) : Result :=
  .next (s.mapCl fun l => { l with retry := none })

/-! ## Station seconds -/

/-- R195. A second's end shows too that time has passed since the step window started (log entry 41). -/
def execStationSecondsTick (s : State) : Result :=
  .next (if s.supplyGood then { s with seconds := s.seconds + 1 }.ageWindow else s)

end Sys2Proof.Machine
end

