-- ==== Sys2Proof/Machine/Plant.lean ====
section
/-! DEFINITION. The plant lines: the meanings of MINUTE_BOUNDARY, RAIN_PULSE, TIDE_INPUT_CHANGE,
TIDE_STATE_CHANGE, SAMPLE_TIMER_EXPIRY, SENSOR_REPLY, REPLY_WINDOW_CLOSE and MERGE_TIMER_EXPIRY. -/

namespace Sys2Proof.Machine

open Sys2Proof

/-! ## Rain (sections 4.1, 4.2) -/

/-- A local evaluation, and the alert event that follows it (R91, R100). -/
def State.localEvent (s : State) (c : Image) : State := (s.evaluateLocal c).alertEvent c

/-- Station seconds stands at a multiple of 60 (R89, R195). -/
def State.atMinute (s : State) : Bool := decide (s.seconds.toNat % 60 = 0)

/-- R89. There is no boundary at any other count. -/
def execMinuteBoundary (s : State) : Result :=
  .next (s.onRunning (fun _ => s.atMinute) fun c => s.completeBucket.localEvent c)

/-- The pulse comes less than 1 s after the last counted one (R88). -/
def State.isChatter (s : State) (time : Nat) : Bool :=
  match s.ru.chatter with
  | none => false
  | some p => decide (time < p + chatterMs)

/-- A counted pulse adds the pulse depth to the current bucket (R88). -/
def State.countPulse (s : State) (c : Image) (time : Nat) : State :=
  s.mapRu fun r => { r with chatter := some time, current := r.current + c.pulseDepth }

/-- R88, R101. -/
def execRainPulse (time : Nat) (s : State) : Result :=
  .next (s.onRunning (fun _ => !s.isChatter time) fun c =>
    ((s.countPulse c time).localEvent c).wakeTrigger c)

/-! ## Tide (section 3.3) -/

/-- The 2 s of stability begin, or are lost (R68). -/
def State.timeTide (s : State) (level : Tide) : State :=
  s.mapTs fun t => { t with tideStable := if level = t.tide then none else some tideMs }

/-- The input changes; in DOWN it is not watched (R68). -/
def execTideInputChange (level : Tide) (s : State) : Result :=
  let s1 := { s with tidePin := level }
  .next (s1.onRunning (fun _ => !decide (level = s.tidePin)) fun _ => s1.timeTide level)

/-- The tide state of record changes, and the tide lock with it (R68, R69). -/
def execTideStateChange (s : State) : Result :=
  .next (s.onRunning (fun _ => s.ts.tideStable.isSome) fun c =>
    (s.mapTs fun t => { t with tide := s.tidePin, tideStable := none }).evaluateTideLock c)

/-! ## Samples (section 3.1) -/

/-- The sample wakes: a chamber at or above the capture level, or one that cannot be seen (R166). -/
def wakingSample (c : Image) (chamber : Channel) : Bool :=
  match chamber.level with
  | none => true
  | some l => decide (c.capture ≤ l)

/-- The held values and the tide lock, from a kept sample (R64, R69). -/
def State.keepValues (s : State) (c : Image) (chamber tank : Channel) : State :=
  let s1 := s.holdSample chamber tank
  if chamber.level.isSome then s1.evaluateTideLock c else s1

/-- A kept sample goes to every consumer: the SC, the AC, then the urgency, the inlet and the drain
machine (R64, R166). -/
def State.keepSample (s : State) (c : Image) (chamber tank : Channel) : State :=
  let s1 := (s.keepValues c chamber tank).spillSample c chamber
  let s2 := if wakingSample c chamber then s1.wakeTrigger c else s1
  ((s2.recomputeUrgency c).inletSample c chamber).drainSample c

/-- A sample is made, its window closed: in WAKING it is discarded (R63, R64). -/
def State.makeSample (s : State) (c : Image) (chamber tank : Channel) : State :=
  let s1 := s.mapTs fun t => { t with window := none }
  if s.ac.activity = .waking then s1 else s1.keepSample c chamber tank

/-- The sample of a window that closes with no reply (R63). -/
def State.emptySample (s : State) (c : Image) : State := s.makeSample c .failed .failed

/-- The sample timer's length, by the activity state (R62). -/
def State.sampleLength (s : State) (c : Image) : Nat :=
  if s.ac.activity = .dormant then c.dormantSample else c.sampleInterval

/-- A window still open is closed, then the request goes out and the timer restarts (R62, R197). -/
def execSampleTimerExpiry (s : State) : Result :=
  .next (s.onRunning (fun _ => s.ts.sampleTimer.isSome) fun c =>
    let s1 := if s.ts.window.isSome then s.emptySample c else s
    s1.request (s1.sampleLength c))

/-- A reply makes the sample; damaged, late or second, it is discarded without effect (R63, R197). -/
def execSensorReply (reply : SensorReply) (s : State) : Result :=
  match readReply reply with
  | none => .next s
  | some (chamber, tank) => .next (s.onRunning (fun _ => s.ts.window.isSome) fun c => s.makeSample c chamber tank)

/-- R63. -/
def execReplyWindowClose (s : State) : Result :=
  .next (s.onRunning (fun _ => s.ts.window.isSome) fun c => s.emptySample c)

/-- The episode closes (R124). -/
def execMergeTimerExpiry (s : State) : Result :=
  .next (s.onRunning (fun _ => s.sc.merge.isSome) fun c => s.closeEpisode c)

end Sys2Proof.Machine
end

