-- ==== Sys2Proof/Machine/LineEvents.lean ====
section
/-! DEFINITION. What happens on the Basin Line beside an accepted frame (chapter 9): the meanings of
LINE_IDLE, LOST_ARBITRATION, FRAME_BREAK_OFF, FRAME_ABORTED_OR_BUSY, OWN_FRAME_ABORTED, OWN_FRAME_BUSY,
BUSY_BACKOFF_EXPIRY and CLAIM_SPACING_EXPIRY. -/

namespace Sys2Proof.Machine

open Sys2Proof

/-- The line is in use. -/
def State.lineBusy (s : State) : State := s.mapLc fun l => { l with idle := false }

/-- Ten bit times without an edge (R169): the line becomes idle in this command, whatever it was before, and what is
eligible is offered at the command's end (R178). -/
def execLineIdle (s : State) : Result :=
  .next (match s.running with
    | none => s
    | some c => settle c s.lineBusy (s.mapLc fun l => { l with following := true, idle := true }))

/-- A frame of this station's own is on the line: a slot's, or one whose slot has been emptied (R185). -/
def State.sending (s : State) : Bool := s.flight.isSome || s.lc.orphan.isSome

/-- The slot returns to PENDING, or empties if it was cancelled; no tally rises (R171, R176, R181). -/
def execLostArbitration (s : State) : Result :=
  .next (s.onRunning (fun _ => s.sending) fun _ => s.lineBusy.failFlight)

/-- The eighth consecutive abort, by the membership state (R182). -/
def State.lineFault (s : State) (c : Image) : State :=
  let s1 := s.latch c .sendFailed
  match s.mu.membership with
  | .linked => s1.enterFallback c
  | .loading => s1.enterFallback c
  | .joining => s1.enterFallback c
  | .listening => s1.enterFallback c
  | .isolated => (s1.emptyAll c).rewriteNotices s1
  | _ => s1

/-- An aborted own frame: the tally rises and the slot is resolved (R181, R182). An orphan just ends (R185). -/
def State.abortOwn (s : State) (c : Image) : State :=
  if s.flight.isSome then
    let s1 := s.failFlight.mapLc fun l => { l with tally := l.tally + 1 }
    if faultTally ≤ s1.lc.tally then s1.lineFault c else s1
  else s.failFlight

/-- A frame broke off. It has no outcome; if it was this station's own, it counts as aborted (R173, R181). It comes
before the LINE_IDLE of the same moment: the model's choice, log entry 40. -/
def execFrameBreakOff (s : State) : Result :=
  .next (s.onRunning (fun _ => s.lc.following) fun c =>
    if s.sending then s.lineBusy.abortOwn c else s.lineBusy)

/-- The marks this station drives in the end field of a received frame (R141, R172). -/
def State.marksFor (s : State) (c : Image) (r : Reception) : Marks :=
  { abort := r.followed && receptionUnsound r
    busy := r.followed && decide (r.cls.toNat = 6) && decide (r.sub.toNat = 0) &&
      s.drivesBusy c r.sender.toNat r.addressee.toNat }

/-- Another station's frame was aborted or busy: it acts nowhere, and this station drove its own marks
(R172, R173). -/
def execFrameAbortedOrBusy (rx : Reception) (s : State) : Result :=
  .next (s.onRunning (fun _ => s.lc.following) fun c => (s.endField (s.marksFor c rx)).failFlight)

/-- The marks a sender drives in its own frame's end field (R171, R172): those of a receiver of the frame it read, whose
start bit it has seen, and ABORT also if it stopped sending without losing arbitration. One that stopped may have read
another station's QUERY to it, and then drives BUSY for it too (R141). -/
def State.senderMarks (s : State) (c : Image) (found : SenderFindings) : Marks :=
  let asReceiver := s.marksFor c { found.frame with followed := true }
  { asReceiver with abort := found.stopped || asReceiver.abort }

/-- An own frame is aborted, by whomever; this station drove its own marks (R172, R173, R181). -/
def execOwnFrameAborted (found : SenderFindings) (s : State) : Result :=
  .next (s.onRunning (fun _ => s.sending) fun c => (s.endField (s.senderMarks c found)).abortOwn c)

/-- The slot of a busy frame, once resolved: its backoff starts, and a reply is abandoned at the fourth
busy outcome (R183). -/
def Slot.backOff (x : Slot) (reply : Bool) : Slot :=
  match x.state with
  | .pending _ =>
    if reply && decide (abandonCount ≤ x.busy + 1) then Slot.blank
    else { x with backoff := some backoffMs, busy := if reply then x.busy + 1 else x.busy }
  | _ => x

/-- An own frame is busy (R183): the slot is resolved, and its backoff starts if a content is left PENDING in it. -/
def State.busyOwn (s : State) : State :=
  let s1 := s.failFlight
  match s.flight with
  | none => s1
  | some id => s1.setSlot id ((s1.slot id).backOff (isReplySlot id))

def execOwnFrameBusy (s : State) : Result :=
  .next (s.onRunning (fun _ => s.sending) fun _ => (s.endField .clear).busyOwn)

/-- R183. -/
def execBusyBackoffExpiry (slot : SlotId) (s : State) : Result :=
  .next (s.onRunning (fun _ => (s.slot slot).backoff.isSome) fun _ =>
    s.setSlot slot { (s.slot slot) with backoff := none })

/-- R184. -/
def execClaimSpacingExpiry (s : State) : Result :=
  .next (s.onRunning (fun _ => s.lc.spacing.isSome) fun _ => s.mapLc fun l => { l with spacing := none })

end Sys2Proof.Machine
end

