-- ==== Sys2Proof/Machine/Frames.lean ====
section
/-! DEFINITION. Accepted frames: the meanings of the twenty-two frame kinds of Table 0-3 and of a frame whose
sub-kind it does not list, each as what the owner of its kind does (section 9.4). -/

namespace Sys2Proof.Machine

open Sys2Proof

/-- The payload reaches the length its kind and content require (R199). -/
def Frame.atLeast (f : Frame) (n : Nat) : Bool := decide (n ≤ f.payload.length)

/-- A frame whose owner does nothing at a tank station. -/
def noOwner (_ : Image) (_ : Arrival) (s : State) : State := s

/-! ## TABLE (sections 2.5, 2.6) -/

/-- The bytes that a TABLE segment's kind and content require (Table 11-4). Segment 1 has P bytes: the P is this station's
own, the model's choice, log entry 29. -/
def tableLength (pool segment : Nat) : Nat :=
  match segment with
  | 0 => 50
  | 1 => pool
  | 2 => 4
  | _ => 48

/-- The burst hold, at a station that hears another station's burst (R41); a segment shorter than it requires has no
effect (R199). -/
def State.hearBurst (s : State) (c : Image) (segment : Nat) (f : Frame) : State :=
  if f.addressee = c.station ∨ f.atLeast (tableLength c.pool segment) = false then s
  else if segment = 3 ∧ f.addressee ≠ 0 then s.mapMu fun m => { m with burstHold := none }
  else if isTank f.addressee then s.mapMu fun m => { m with burstHold := some lockMs }
  else s

/-- Segment 0 at its joiner, the P equal: LOADING, with its roster and Q (R22, R50). -/
def State.enterLoading (s : State) (payload : List Byte) : State :=
  let s1 := s.mapMu fun m =>
    { m with
      membership := .loading, roster := some (rosterOfBytes payload), nextSegment := 1
      burstHold := none, joinRecord := [], populated := false, newlyPopulated := false }
  s1.mapSa fun a => { a with shares := none, curtail := some (numAt payload 1), claims := [] }

/-- Segment 0 at a station in JOINING (R50, R200). The frame itself clears its sender's mark (log entry 12); one that
follows an unfit segment 0 is taken if it is fit: the model's choice, log entry 44. -/
def State.takeSegment0 (s : State) (c : Image) (f : Frame) : State :=
  if unfitSegment c.pool 0 f.payload then s
  else if numAt f.payload 0 = c.pool then (s.enterLoading f.payload).hearEntry c f.sender
  else s.isolateFor c .configMismatch

/-- Claims of a segment join the list in its order (R22). -/
def State.loadClaims (s : State) (claims : List Claim) : State :=
  (s.mapSa fun a => { a with claims := a.claims ++ claims }).reorderClaims

/-- A fit segment 1, 2 or 3 at a LOADING station (R22, R51, R98). -/
def State.loadSegment (s : State) (c : Image) (segment : Nat) (payload : List Byte) : State :=
  match segment with
  | 1 => (s.mapSa fun a => { a with shares := some (payload.map shareOfByte) }).mapMu fun m =>
      { m with nextSegment := 2 }
  | 2 => (s.loadClaims (claimsOfBytes payload 0 4 1)).mapMu fun m => { m with nextSegment := 3 }
  | 3 => ((s.loadClaims (claimsOfBytes payload 1 48 33)).mapRu fun r =>
      { r with alerts := some (alertsOfBytes c.alertLifetime payload) }).linkLoaded c
  | _ => s

/-- A segment addressed to a LOADING station: the next one it expects, if it is fit (R50, R51, R200). After an unfit one
the station still expects that segment: the model's choice, log entry 44. -/
def State.takeSegment (s : State) (c : Image) (segment : Nat) (f : Frame) : State :=
  if segment = s.mu.nextSegment ∧ unfitSegment c.pool segment f.payload = false then
    s.loadSegment c segment f.payload
  else s

/-- The final segment to the lock's joiner ends the lock (R47). The joiner's entry is timed, unless it is this station's
own (R36, R54). -/
def State.finalSegment (s : State) (c : Image) (l : Lock) : State :=
  let s1 := (s.mapMu fun m => { m with lock := none }).mapEntry l.joiner fun _ =>
    RosterEntry.linkedNow (if l.joiner = c.station then none else lastHeardLimit c false)
  if l.responder = c.station then s1.cancelSlot .table else s1

/-- The responder writes its next segment, unless the joiner's P differed (R46). -/
def State.nextBurst (s : State) (c : Image) (a : Arrival) (segment : Nat) (l : Lock) : State :=
  if a.own = true ∧ l.responder = c.station ∧ l.poolMatches = true then
    s.writeSlot .table (.table (segment + 1) l.joiner [])
  else s

/-- A TABLE at a LINKED station (R46, R47). -/
def State.burstAtLinked (s : State) (c : Image) (a : Arrival) (segment : Nat) (f : Frame) : State :=
  match s.mu.lock with
  | none => s
  | some l =>
    if f.addressee ≠ l.joiner then s
    else if segment = 3 then s.finalSegment c l
    else s.nextBurst c a segment l

/-- TABLE at its owner, by the membership state (R41, R46, R47, R50, R51). -/
def State.takeTable (s : State) (c : Image) (a : Arrival) (segment : Nat) (f : Frame) : State :=
  match s.mu.membership with
  | .listening => s.hearBurst c segment f
  | .joining =>
    if f.addressee = c.station ∧ segment = 0 then s.takeSegment0 c f else s.hearBurst c segment f
  | .loading => if f.addressee = c.station then s.takeSegment c segment f else s
  | .linked => s.burstAtLinked c a segment f
  | _ => s

def execTable (segment : BitVec 2) (b : FrameBody) (s : State) : Result :=
  let f := bodyFrame b 0 segment.toNat
  .next (receive f (fun c a t => t.takeTable c a segment.toNat f) s)

/-! ## ABSENT and RECLAIM (section 2.8) -/

/-- A LINKED entry becomes ABSENT, and its stranding timer starts (R55). -/
def RosterEntry.makeAbsent (c : Image) (e : RosterEntry) : RosterEntry :=
  { e with
    state := .absent, dormant := false, lastHeard := none
    stranding := some (secondsMs c.stranding) }

/-- The roster part and the share part for one station that was LINKED (R17, R55). -/
def State.declareAbsent (s : State) (c : Image) (n : Nat) : State :=
  (s.mapEntry n (RosterEntry.makeAbsent c)).strand n

/-- An ABSENT naming a set of stations, at a LINKED station (R17, R55). -/
def State.takeAbsent (s : State) (c : Image) (named : List Nat) : State :=
  let hit := named.filter s.isLinked
  let s1 := (hit.foldl (fun t n => t.declareAbsent c n) s).pruneSlot .absent named
  if named.contains c.station then s1.enterFallback c else s1

def execAbsent (b : FrameBody) (s : State) : Result :=
  let f := bodyFrame b 1 0
  .next (receive f (fun c _ t =>
    if f.atLeast 6 && t.takesFrom f.sender then t.takeAbsent c (stationsOf f.payload) else t) s)

/-- A RECLAIM naming a set of stations, at a LINKED station (R18, R57). -/
def State.takeReclaim (s : State) (named : List Nat) : State :=
  let hit := named.filter fun n => decide (s.entryState n = .absent)
  (hit.foldl (fun t n => t.clearEntry n) (s.reclaimShares hit)).pruneSlot .reclaim named

def execReclaim (b : FrameBody) (s : State) : Result :=
  let f := bodyFrame b 1 1
  .next (receive f (fun _ _ t =>
    if f.atLeast 6 && t.takesFrom f.sender then t.takeReclaim (stationsOf f.payload) else t) s)

/-! ## The share frames (sections 1.4, 1.8) -/

/-- A CURTAIL at a LINKED station, and the release of own shares it calls for (R15, R32). -/
def State.takeCurtailFrame (s : State) (c : Image) (q : Nat) : State :=
  if q ≤ c.pool then (s.takeCurtail c q).curtailRelease c q else s

def execCurtail (b : FrameBody) (s : State) : Result :=
  let f := bodyFrame b 1 2
  .next (receive f (fun c _ t =>
    if f.atLeast 1 && isListener f.sender && decide (t.mu.membership = .linked) then
      t.takeCurtailFrame c (numAt f.payload 0)
    else t) s)

/-- Shares leave the outgoing set at an accepted own YIELD or RELEASE (R27). -/
def State.settleOutgoing (s : State) (a : Arrival) (set : List Nat) : State :=
  if a.own then s.dropOutgoing set else s

/-- R13, R27. -/
def execYield (b : FrameBody) (s : State) : Result :=
  let f := bodyFrame b 2 0
  .next (receive f (fun _ a t =>
    if f.atLeast 1 then
      let t1 := t.settleOutgoing a [numAt f.payload 0]
      if t1.takesFrom f.sender then t1.takeYield f.sender (numAt f.payload 0) else t1
    else t) s)

/-- R12, R27. -/
def execRelease (b : FrameBody) (s : State) : Result :=
  let f := bodyFrame b 2 1
  .next (receive f (fun _ a t =>
    if f.atLeast 8 then
      let t1 := t.settleOutgoing a (sharesOf f.payload)
      if t1.takesFrom f.sender then t1.takeRelease f.sender (sharesOf f.payload) else t1
    else t) s)

/-- R14. -/
def execWithdraw (b : FrameBody) (s : State) : Result :=
  let f := bodyFrame b 2 2
  .next (receive f (fun _ _ t => if t.takesFrom f.sender then t.dropClaim f.sender else t) s)

/-- The standing withdraw, once the cancelled CLAIM has been accepted (R30). -/
def State.lateWithdraw (s : State) (c : Image) (a : Arrival) : State :=
  if a.own = true ∧ a.cancelled = true ∧ s.sa.withdrawMark = true then
    let s1 := s.mapSa fun x => { x with withdrawMark := false }
    if s1.hasClaim c.station = true ∧ s1.slotEmpty .withdraw = true then s1.writeSlot .withdraw .withdraw
    else s1
  else s

/-- R10, R11, R30. -/
def execClaim (sub : BitVec 3) (b : FrameBody) (s : State) : Result :=
  let f := bodyFrame b 3 sub.toNat
  .next (receive f (fun c a t =>
    let t1 := if f.atLeast 1 && t.takesFrom f.sender then
      t.takeClaim f.sender (7 - sub.toNat) (numAt f.payload 0) else t
    t1.lateWithdraw c a) s)

/-! ## ALERT (section 4.4) -/

/-- The RU's part in an own ALERT: the last sent grade, and the refresh timer (R93, R94). -/
def State.ownAlert (s : State) (c : Image) (g : Grade) : State :=
  s.mapRu fun r =>
    { r with
      lastSent := g
      refresh := if 1 ≤ r.localGrade.code then some (secondsMs c.alertRefresh) else r.refresh }

/-- An ALERT for a heeded zone: the event, and the wake trigger (R100, R101). -/
def State.heedAlert (s : State) (c : Image) (g : Grade) : State :=
  let s1 := s.alertEvent c
  if 1 ≤ g.code then s1.wakeTrigger c else s1

/-- An ALERT from a tank station, for zone 1 to 15 (R93 to R96, R100, R101). -/
def State.takeAlert (s : State) (c : Image) (a : Arrival) (origin zone : Nat) (g : Grade) : State :=
  let s1 := if a.own then s.ownAlert c g else s
  let s2 := s1.mapZone zone (applyAlert g origin)
  if isHeeded c zone then s2.heedAlert c g else s2

/-- An ALERT that R96 gives an effect: from a tank station, sub-kind 0 to 3, zone 1 to 15. The zone is bits 3 to 0 of
its payload byte, whatever bits 7 to 4 hold: the model's choice, log entry 13. -/
def alertActs (f : Frame) : Bool :=
  f.atLeast 1 && isTank f.sender && decide (f.sub ≤ 3) && decide (1 ≤ numAt f.payload 0 % 16)

def execAlert (sub : BitVec 3) (b : FrameBody) (s : State) : Result :=
  let f := bodyFrame b 4 sub.toNat
  .next (receive f (fun c a t =>
    if alertActs f then
      t.takeAlert c a f.sender (numAt f.payload 0 % 16) (gradeOf (3 - sub.toNat))
    else t) s)

/-! ## JOIN (sections 2.3 to 2.5) -/

/-- A JOIN goes into the record (R40). -/
def State.recordJoin (s : State) (n : Nat) : State :=
  s.mapMu fun m => { m with joinRecord := m.joinRecord ++ [n] }

/-- The station's own JOIN takes it to JOINING (R42). -/
def State.enterJoining (s : State) (c : Image) : State :=
  (s.recordJoin c.station).mapMu fun m =>
    { m with membership := .joining, joinWait := some joinWaitMs, load := some lockMs }

/-- Another station's JOIN, at a station that listens or joins (R40, R41). -/
def State.hearJoin (s : State) (n : Nat) : State :=
  (s.recordJoin n).mapMu fun m => { m with burstHold := some lockMs }

/-- The responder's start of the burst; its own choice wakes it (R45, R46, R166). -/
def State.startBurst (s : State) (c : Image) (l : Lock) : State :=
  if l.responder = c.station then (s.wakeTrigger c).writeSlot .table (.table 0 l.joiner []) else s

/-- The entry of a joiner: JOINING, the mark clear, no timer (R45). The urgency means nothing there. -/
def RosterEntry.makeJoining (e : RosterEntry) : RosterEntry :=
  { e with state := .joining, dormant := false, lastHeard := none, stranding := none }

/-- What the SA and the roster do with a JOIN, in R45's order (R19, R45). The own entry, at a station that is LINKED, stays
LINKED and untimed (R36, R54; log entry 46). -/
def State.markJoiner (s : State) (c : Image) (n : Nat) : State :=
  let s1 := if s.entryState n = .linked ∨ s.entryState n = .absent then s.rejoinShares n else s
  ((s1.pruneSlot .absent [n]).pruneSlot .reclaim [n]).mapEntry n fun e =>
    if n = c.station then { e with dormant := false } else e.makeJoining

/-- The lock begins (R45). -/
def State.beginLock (s : State) (c : Image) (n pool : Nat) : State :=
  let s1 := s.markJoiner c n
  let l : Lock := { joiner := n, responder := s1.chooseResponder n, poolMatches := decide (pool = c.pool) }
  (s1.mapMu fun m => { m with lock := some l }).startBurst c l

/-- A JOIN at a LINKED station: nothing while a lock stands (R45). -/
def State.joinAtLinked (s : State) (c : Image) (n pool : Nat) : State :=
  if s.mu.lock.isSome then s else s.beginLock c n pool

/-- A state in which a JOIN with the station's own number is recognised as a clash (R44). -/
def Membership.seesClash : Membership → Bool
  | .listening => true
  | .joining => true
  | .loading => true
  | .linked => true
  | .fallback => true
  | _ => false

/-- JOIN at its owner (R40 to R45). An own JOIN accepted while LINKED returns the own shares and begins the lock as any
station's does, with the own entry LINKED throughout (R36): the model's reading, log entry 46. -/
def State.takeJoin (s : State) (c : Image) (a : Arrival) (n pool : Nat) : State :=
  if a.own = false ∧ n = c.station ∧ s.mu.membership.seesClash = true then s.isolateFor c .duplicate
  else
    match s.mu.membership with
    | .listening => if a.own then s.enterJoining c else s.hearJoin n
    | .joining => if a.own then s.enterJoining c else s.hearJoin n
    | .linked => s.joinAtLinked c n pool
    | _ => s

def execJoin (b : FrameBody) (s : State) : Result :=
  let f := bodyFrame b 5 0
  .next (receive f (fun c a t =>
    if f.atLeast 1 && isTank f.sender then t.takeJoin c a f.sender (numAt f.payload 0) else t) s)

/-! ## STATUS and DORMANT (sections 2.2, 8.2, 8.3) -/

/-- A state in which the roster is valid: LINKED and LOADING (R36). -/
def Membership.keepsRoster : Membership → Bool
  | .linked => true
  | .loading => true
  | _ => false

/-- R38, R51. -/
def State.takeStatus (s : State) (n urgency : Nat) : State :=
  if s.mu.membership.keepsRoster = true ∧ s.isLinked n = true then s.setUrgency n urgency else s

/-- An own STATUS accepted while DORMANT writes the re-assertion (R164). -/
def State.reassert (s : State) (a : Arrival) : State :=
  if a.own = true ∧ s.ac.activity = .dormant then s.writeSlot .dormant .dormant else s

def execStatus (b : FrameBody) (s : State) : Result :=
  let f := bodyFrame b 5 1
  .next (receive f (fun _ a t =>
    if f.atLeast 3 then (t.takeStatus f.sender (numAt f.payload 0 % 8)).reassert a else t) s)

/-- A LINKED sender's dormant mark is set, and it is timed against the dormant absence limit (R38, R54). -/
def State.markDormant (s : State) (c : Image) (n : Nat) : State :=
  if s.mu.membership.keepsRoster = true ∧ s.isLinked n = true then
    s.mapEntry n fun e =>
      { e with
        dormant := true
        lastHeard :=
          if s.mu.membership = .linked ∧ n ≠ c.station then lastHeardLimit c true else e.lastHeard }
  else s

/-- The accepted own frame is the one that takes the station into dormancy, not a re-assertion that a
waking has cancelled (R162, R164). -/
def State.dormancyTaken (s : State) (a : Arrival) : Bool :=
  decide (a.slot = some .dormant) && decide (s.mu.membership = .linked) &&
    decide (s.ac.activity = .active) && (!a.cancelled || s.ac.wakeMark)

/-- The station's own DORMANT: DORMANT, and with the wake mark WAKING at once (R162, R163), the drain machine IDLE in both
(R84, R167). -/
def State.ownDormant (s : State) (c : Image) (a : Arrival) : State :=
  if s.dormancyTaken a then
    let s1 := (s.restDrain c).enterDormant c
    if s.ac.wakeMark then s1.enterWaking c else s1
  else s

def execDormant (b : FrameBody) (s : State) : Result :=
  let f := bodyFrame b 5 2
  .next (receive f (fun c a t => (t.markDormant c f.sender).ownDormant c a) s)

/-! ## Listeners' frames (class 6) -/

/-- A listener's frame addressed to this station. -/
def Frame.fromListenerTo (f : Frame) (station : Nat) : Bool :=
  isListener f.sender && decide (f.addressee = station)

/-- A QUERY enters the queue, and wakes a DORMANT station (R142, R166). -/
def State.takeQuery (s : State) (c : Image) (f : Frame) : State :=
  if f.fromListenerTo c.station && s.mu.membership.takesQueries then
    (s.mapRs fun r =>
      { r with queue := r.queue ++ [{ requester := f.sender, kind := queryKindOf f.payload }] }).wakeTrigger c
  else s

/-- A QUERY that this station marks BUSY is not accepted (R141, log entry 19). -/
def State.turnAway (s : State) : State := (s.endField { abort := false, busy := true }).failFlight

/-- R141, R142. -/
def execQuery (b : FrameBody) (s : State) : Result :=
  let f := bodyFrame b 6 0
  .next (s.onRunning (fun _ => s.lc.following) fun c =>
    if s.drivesBusy c f.sender f.addressee then s.turnAway
    else acceptFrame c f (fun _ t => t.takeQuery c f) s)

/-- R140. -/
def execRecack (b : FrameBody) (s : State) : Result :=
  let f := bodyFrame b 6 1
  .next (receive f (fun c _ t =>
    if f.atLeast 2 && f.fromListenerTo c.station then t.acknowledge c (halfAt f.payload 0) else t) s)

/-- R131. -/
def execPeriod (b : FrameBody) (s : State) : Result :=
  let f := bodyFrame b 6 2
  .next (receive f (fun c _ t =>
    if isListener f.sender && (decide (f.addressee = 0) || decide (f.addressee = c.station)) then t.newPeriod
    else t) s)

/-- The named flags are cleared (R153). -/
def State.clearFlags (s : State) (mask : FlagSet) : State :=
  s.mapRs fun r => { r with latched := r.latched &&& ~~~mask }

/-- A CLEAR that is taken: the named flags are cleared, those whose cause stands latch again at once, and if a flag was
cleared the MU queues one STATUS with the result (R150, R151, R153). -/
def State.takeClear (s : State) (c : Image) (mask : FlagSet) : State :=
  if s.rs.latched &&& mask = 0 then s else ((s.clearFlags mask).latchStanding c).statusForChange

/-- R153. -/
def execClear (b : FrameBody) (s : State) : Result :=
  let f := bodyFrame b 6 3
  .next (receive f (fun c _ t =>
    if f.atLeast 2 && f.fromListenerTo c.station then t.takeClear c (halfAt f.payload 0) else t) s)

/-- R61. -/
def execRestart (b : FrameBody) (s : State) : Result :=
  let f := bodyFrame b 6 4
  .next (receive f (fun c _ t => if f.fromListenerTo c.station then t.takeRestart c else t) s)

/-! ## Replies and notices (class 7): a tank station applies none; an own one empties its slot -/

/-- R143, R148: the bookkeeping empties the slot, and the service ends with it. -/
def execRecord (b : FrameBody) (s : State) : Result := .next (receive (bodyFrame b 7 0) noOwner s)

/-- R143, R145. -/
def execNorec (b : FrameBody) (s : State) : Result := .next (receive (bodyFrame b 7 1) noOwner s)

/-- R143, R146. -/
def execCounts (b : FrameBody) (s : State) : Result := .next (receive (bodyFrame b 7 2) noOwner s)

/-- R143, R147. -/
def execConditions (b : FrameBody) (s : State) : Result := .next (receive (bodyFrame b 7 3) noOwner s)

/-- The news a NOTICE-CONDITION carried leaves the news set, but for the flags newly latched after its content was
written (R158). -/
def State.deliverNews (s : State) (carried : FlagSet) : State :=
  s.mapRs fun r => { r with news := r.news &&& ~~~(carried &&& ~~~s.lc.newsSince) }

/-- A logged NOTICE-CLOSED marks its record, and a NOTICE-CONDITION delivers its news (R157, R158). -/
def State.deliverNotice (s : State) (f : Frame) : State :=
  match numAt f.payload 0 with
  | 1 =>
    if f.atLeast 22 && decide (numAt f.payload 1 = 1) then
      let episode : Word := BitVec.ofNat 32 (65536 * num16At f.payload 4 + num16At f.payload 6)
      s.mapRs fun r => { r with log := announce (halfAt f.payload 2) episode r.log }
    else s
  | 2 => if f.atLeast 5 then s.deliverNews (halfAt f.payload 1) else s
  | _ => s

/-- R155, R157, R158. -/
def execNotice (b : FrameBody) (s : State) : Result :=
  let f := bodyFrame b 7 4
  .next (receive f (fun _ a t => if a.own then t.deliverNotice f else t) s)

/-- R174, R199: no owner; the hearing, the populated marks and the spoiling by class remain. -/
def execUnlistedSubKindFrame (cls sub : BitVec 3) (b : FrameBody) (s : State) : Result :=
  .next (receive (bodyFrame b cls.toNat sub.toNat) noOwner s)

end Sys2Proof.Machine
end

