-- ==== Sys2Proof/Machine/Timers.lean ====
section
/-! DEFINITION. The expiries of the membership, rain, readiness, drain and activity timers: the meanings of
LISTEN_TIMER_EXPIRY to WAKE_RECOVERY_EXPIRY. A stopped timer does not expire (00_scope.md section 7). -/

namespace Sys2Proof.Machine

open Sys2Proof

/-! ## Joining (sections 2.3 to 2.6) -/

/-- Listening is over; the JOIN is written at the command's end if nothing holds it (R39). -/
def execListenTimerExpiry (s : State) : Result :=
  .next (s.onRunning (fun _ => s.mu.listen.isSome) fun _ => s.mapMu fun m => { m with listen := none })

/-- R39. -/
def execRestartHoldExpiry (s : State) : Result :=
  .next (s.onRunning (fun _ => s.mu.restartHold.isSome) fun _ =>
    s.mapMu fun m => { m with restartHold := none })

/-- R39, R41. -/
def execBurstHoldExpiry (s : State) : Result :=
  .next (s.onRunning (fun _ => s.mu.burstHold.isSome) fun _ =>
    s.mapMu fun m => { m with burstHold := none })

/-- A re-queue (R42). -/
def State.requeueJoin (s : State) (c : Image) : State :=
  (s.mapMu fun m =>
    { m with
      joinRecord := [], newlyPopulated := false
      populated := m.populated || m.newlyPopulated }).writeSlot .join (.join c.pool)

/-- Table 2-3. -/
def State.judgeJoin (s : State) (c : Image) : State :=
  if s.mu.populated then s.failJoin c
  else if s.mu.newlyPopulated then s.requeueJoin c
  else if s.mu.joinRecord.head? = some c.station then s.found c
  else s.requeueJoin c

/-- The join wait ends; outside JOINING it decides nothing (R42). -/
def execJoinWaitExpiry (s : State) : Result :=
  .next (s.onRunning (fun _ => s.mu.joinWait.isSome) fun c =>
    let s1 := s.mapMu fun m => { m with joinWait := none }
    if s.mu.membership = .joining then s1.judgeJoin c else s1)

/-- The load timer ends; only in LOADING has the join failed (R42, R51, R52). -/
def execLoadTimerExpiry (s : State) : Result :=
  .next (s.onRunning (fun _ => s.mu.load.isSome) fun c =>
    let s1 := s.mapMu fun m => { m with load := none }
    if s.mu.membership = .loading then s1.failJoin c else s1)

/-- R48. -/
def execLockTimerExpiry (s : State) : Result :=
  .next (s.onRunning (fun _ => s.mu.lock.isSome) fun c => s.endLock c)

/-! ## Presence, absence, silence (sections 2.7 to 2.10) -/

/-- Station n's last-heard timer runs (R54). -/
def State.timesAbsence (s : State) (n : Nat) : Bool :=
  decide (s.mu.membership = .linked) && s.isLinked n && (s.entry n).lastHeard.isSome

/-- The station joins the ABSENT set, and its timer stays stopped (R54). -/
def execLastHeardExpiry (station : Nat) (s : State) : Result :=
  .next (s.onRunning (fun _ => s.timesAbsence station) fun _ =>
    (s.mapEntry station fun e => { e with lastHeard := none }).writeSlot .absent (.absent [station]))

/-- Station n's stranding timer runs (R56). -/
def State.timesStranding (s : State) (n : Nat) : Bool :=
  decide (s.mu.membership = .linked) && decide (s.entryState n = .absent) && (s.entry n).stranding.isSome

/-- The station joins the RECLAIM set (R56). -/
def execStrandingTimerExpiry (station : Nat) (s : State) : Result :=
  .next (s.onRunning (fun _ => s.timesStranding station) fun _ =>
    (s.mapEntry station fun e => { e with stranding := none }).writeSlot .reclaim (.reclaim [station]))

/-- R58, R59. -/
def execSilenceTimerExpiry (s : State) : Result :=
  .next (s.onRunning (fun _ => s.mu.silence.isSome && decide (s.mu.membership = .linked)) fun c =>
    s.enterFallback c)

/-- R59, R39. -/
def execQuietTimerExpiry (s : State) : Result :=
  .next (s.onRunning (fun _ => s.mu.quiet.isSome && decide (s.mu.membership = .fallback)) fun c =>
    (s.mapMu fun m => { m with quiet := none }).enterListening c false)

/-- R53. The timer then runs on from its full length (log entry 15). -/
def execPresenceTimerExpiry (s : State) : Result :=
  .next (s.onRunning (fun _ => s.mu.presence.isSome && decide (s.mu.membership = .linked)) fun c =>
    (s.mapMu fun m => { m with presence := some (s.presenceLength c) }).writeStatus)

/-! ## Rain and readiness (chapters 4 and 5) -/

/-- R93. -/
def execRefreshTimerExpiry (s : State) : Result :=
  .next (s.onRunning (fun _ => s.ru.refresh.isSome) fun c =>
    (s.mapRu fun r => { r with refresh := some (secondsMs c.alertRefresh) }).writeAlert c)

/-- A zone's entry in the alert table; a void table reads NONE (R95). -/
def State.zoneEntry (s : State) (zone : Nat) : ZoneEntry :=
  match s.ru.alerts with
  | none => .blank
  | some l => if zone = 0 then .blank else l.getD (zone - 1) .blank

/-- The entry becomes NONE; for a heeded zone an alert event follows (R97, R100). -/
def execAlertAgeExpiry (zone : Nat) (s : State) : Result :=
  .next (s.onRunning (fun _ => (s.zoneEntry zone).age.isSome) fun c =>
    let s1 := s.mapZone zone fun _ => .blank
    if isHeeded c zone then s1.alertEvent c else s1)

/-- The step window runs out, in WATCH or ARMED. At the instant at which an event restarted it, the expiry that follows
finds it restarted and has no effect (R108, log entry 41). -/
def State.timesStep (s : State) : Bool :=
  s.srm.stepWindow.isSome && !s.srm.stepFresh &&
    (decide (s.srm.readiness = .watch) || decide (s.srm.readiness = .armed))

/-- R108. -/
def execStepWindowExpiry (s : State) : Result :=
  .next (s.onRunning (fun _ => s.timesStep) fun _ =>
    s.mapSrm fun r => { r with readiness := .quiet, stepWindow := none })

/-- R109. -/
def execCalmTimerExpiry (s : State) : Result :=
  .next (s.onRunning (fun _ => s.srm.calm.isSome && decide (s.srm.readiness = .storm)) fun _ =>
    s.mapSrm fun r => { r with readiness := .quiet, calm := none, trigger := none })

/-! ## Drain machine and activity (chapters 3 and 8) -/

/-- R81. -/
def execParkTimerExpiry (s : State) : Result :=
  .next (s.onRunning (fun _ => s.ts.parkTimer.isSome && decide (s.ts.drain = .parked)) fun c =>
    (s.mapTs fun t => { t with parkTimer := none }).releaseAll c)

/-- R162. -/
def execDormancyDelayExpiry (s : State) : Result :=
  .next (s.onRunning (fun _ => s.ac.delay.isSome && decide (s.ac.activity = .active)) fun _ =>
    (s.mapAc fun a => { a with delay := none }).writeSlot .dormant .dormant)

/-- From WAKING to ACTIVE, with a request at once; a window still open closes on a sample of WAKING
(R62, R168, log entry 17). -/
def State.recover (s : State) (c : Image) : State :=
  let s1 := s.mapAc fun a => { a with activity := .active, recovery := none }
  (s1.request c.sampleInterval).recomputeUrgency c

/-- R168. -/
def execWakeRecoveryExpiry (s : State) : Result :=
  .next (s.onRunning (fun _ => s.ac.recovery.isSome && decide (s.ac.activity = .waking)) fun c =>
    s.recover c)

end Sys2Proof.Machine
end

