-- ==== Sys2Proof/Machine/Dispatch.lean ====
section
/-! DEFINITION. exec: one arm for each command of spec/opcode_table.json, each a call of its meaning. -/

namespace Sys2Proof.Machine

open Sys2Proof

def exec (i : Instr) (s : State) : Host.Outcome State Fault Refusal :=
  match i with
  | .powerOn => Sys2Proof.Machine.execPowerOn s
  | .resetLinePulse => Sys2Proof.Machine.execResetLinePulse s
  | .resetLineRelease => Sys2Proof.Machine.execResetLineRelease s
  | .configReadAttempt read => Sys2Proof.Machine.execConfigReadAttempt read s
  | .configRetryWaitExpiry => Sys2Proof.Machine.execConfigRetryWaitExpiry s
  | .stationSecondsTick => Sys2Proof.Machine.execStationSecondsTick s
  | .minuteBoundary => Sys2Proof.Machine.execMinuteBoundary s
  | .rainPulse time => Sys2Proof.Machine.execRainPulse time s
  | .tideInputChange level => Sys2Proof.Machine.execTideInputChange level s
  | .tideStateChange => Sys2Proof.Machine.execTideStateChange s
  | .sampleTimerExpiry => Sys2Proof.Machine.execSampleTimerExpiry s
  | .sensorReply reply => Sys2Proof.Machine.execSensorReply reply s
  | .replyWindowClose => Sys2Proof.Machine.execReplyWindowClose s
  | .mergeTimerExpiry => Sys2Proof.Machine.execMergeTimerExpiry s
  | .lineIdle => Sys2Proof.Machine.execLineIdle s
  | .lostArbitration => Sys2Proof.Machine.execLostArbitration s
  | .frameBreakOff => Sys2Proof.Machine.execFrameBreakOff s
  | .frameAbortedOrBusy rx => Sys2Proof.Machine.execFrameAbortedOrBusy rx s
  | .ownFrameAborted found => Sys2Proof.Machine.execOwnFrameAborted found s
  | .ownFrameBusy => Sys2Proof.Machine.execOwnFrameBusy s
  | .busyBackoffExpiry slot => Sys2Proof.Machine.execBusyBackoffExpiry slot s
  | .claimSpacingExpiry => Sys2Proof.Machine.execClaimSpacingExpiry s
  | .table segment f => Sys2Proof.Machine.execTable segment f s
  | .absent f => Sys2Proof.Machine.execAbsent f s
  | .reclaim f => Sys2Proof.Machine.execReclaim f s
  | .curtail f => Sys2Proof.Machine.execCurtail f s
  | .yield f => Sys2Proof.Machine.execYield f s
  | .release f => Sys2Proof.Machine.execRelease f s
  | .withdraw f => Sys2Proof.Machine.execWithdraw f s
  | .claim sub f => Sys2Proof.Machine.execClaim sub f s
  | .alert sub f => Sys2Proof.Machine.execAlert sub f s
  | .join f => Sys2Proof.Machine.execJoin f s
  | .status f => Sys2Proof.Machine.execStatus f s
  | .dormant f => Sys2Proof.Machine.execDormant f s
  | .query f => Sys2Proof.Machine.execQuery f s
  | .recack f => Sys2Proof.Machine.execRecack f s
  | .period f => Sys2Proof.Machine.execPeriod f s
  | .clear f => Sys2Proof.Machine.execClear f s
  | .restart f => Sys2Proof.Machine.execRestart f s
  | .record f => Sys2Proof.Machine.execRecord f s
  | .norec f => Sys2Proof.Machine.execNorec f s
  | .counts f => Sys2Proof.Machine.execCounts f s
  | .conditions f => Sys2Proof.Machine.execConditions f s
  | .notice f => Sys2Proof.Machine.execNotice f s
  | .listenTimerExpiry => Sys2Proof.Machine.execListenTimerExpiry s
  | .restartHoldExpiry => Sys2Proof.Machine.execRestartHoldExpiry s
  | .burstHoldExpiry => Sys2Proof.Machine.execBurstHoldExpiry s
  | .joinWaitExpiry => Sys2Proof.Machine.execJoinWaitExpiry s
  | .loadTimerExpiry => Sys2Proof.Machine.execLoadTimerExpiry s
  | .lockTimerExpiry => Sys2Proof.Machine.execLockTimerExpiry s
  | .lastHeardExpiry station => Sys2Proof.Machine.execLastHeardExpiry station s
  | .strandingTimerExpiry station => Sys2Proof.Machine.execStrandingTimerExpiry station s
  | .silenceTimerExpiry => Sys2Proof.Machine.execSilenceTimerExpiry s
  | .quietTimerExpiry => Sys2Proof.Machine.execQuietTimerExpiry s
  | .presenceTimerExpiry => Sys2Proof.Machine.execPresenceTimerExpiry s
  | .refreshTimerExpiry => Sys2Proof.Machine.execRefreshTimerExpiry s
  | .alertAgeExpiry zone => Sys2Proof.Machine.execAlertAgeExpiry zone s
  | .stepWindowExpiry => Sys2Proof.Machine.execStepWindowExpiry s
  | .calmTimerExpiry => Sys2Proof.Machine.execCalmTimerExpiry s
  | .parkTimerExpiry => Sys2Proof.Machine.execParkTimerExpiry s
  | .dormancyDelayExpiry => Sys2Proof.Machine.execDormancyDelayExpiry s
  | .wakeRecoveryExpiry => Sys2Proof.Machine.execWakeRecoveryExpiry s
  | .supplyBelowThreshold => Sys2Proof.Machine.execSupplyBelowThreshold s
  | .unlistedSubKindFrame cls sub f => Sys2Proof.Machine.execUnlistedSubKindFrame cls sub f s

end Sys2Proof.Machine
end

