-- ==== Sys2Proof/Machine/Step.lean ====
section
/-! DEFINITION. One step: the command at the front of the queue, or the passing of a ms (log entry 2). -/

namespace Sys2Proof.Machine

open Sys2Proof

/-- Take the front command and run it on the state with the queue's rest; on an empty queue one ms passes. -/
def step (s : State) : Host.Outcome State Fault Refusal :=
  match s.pending with
  | [] => .next s.elapse
  | i :: rest => exec i { s with pending := rest }

/-- The command a word spells, at the front of the queue; no word spells one (log entry 1). -/
def State.withFetchWord (s : State) (nbits w : Nat) : State :=
  match decodeTableWord nbits w with
  | none => s
  | some i => { s with pending := i :: s.pending }

end Sys2Proof.Machine
end

