-- ==== Sys2Proof/Safety.lean ====
section
/-! DEFINITION. What the statements speak of: views of the state, what a station hears, and the rules that every
step keeps. -/

namespace Sys2Proof.Machine

open Sys2Proof

/-! ## Views: groups of state that most commands leave alone -/

/-- Supply, reset line, inputs, station seconds, configuration, and the queue of commands. -/
def State.chip (s : State) : Bool × Bool × Tide × Word × ClState × List Instr :=
  (s.supplyGood, s.resetHeld, s.tidePin, s.seconds, s.cl, s.pending)

/-- The rain unit and the readiness state, its step window with the mark of its start (the model's own, log entry 41), and
its trigger. -/
def State.weather (s : State) : RuState × Readiness × Timer × Bool × Option Trigger :=
  (s.ru, s.srm.readiness, s.srm.stepWindow, s.srm.stepFresh, s.srm.trigger)

/-- The spill counter, the log and its counters. -/
def State.spills (s : State) : ScState × List LogRecord × Word × Word × Word :=
  (s.sc, s.rs.log, s.rs.written, s.rs.discarded, s.rs.overwritten)

/-- What the counts and the log say, without the open record's fields. -/
def State.books (s : State) : Word × Episode × Bool × List LogRecord × Word × Word × Word :=
  (s.sc.total, s.sc.episode, s.sc.record.isSome, s.rs.log, s.rs.written, s.rs.discarded, s.rs.overwritten)

/-- Sampling, the held values, the tide and the inlet. -/
def State.tank (s : State) :
    Timer × Timer × Option Nat × Quality × Option Nat × Quality × Tide × Timer × Bool × Inlet :=
  (s.ts.sampleTimer, s.ts.window, s.ts.chamberLevel, s.ts.chamberQuality, s.ts.tankLevel,
    s.ts.tankQuality, s.ts.tide, s.ts.tideStable, s.ts.tideLock, s.ts.inlet)

/-- The tank group less the sample timer, which a waking restarts (R167). -/
def State.held (s : State) : Timer × Option Nat × Quality × Option Nat × Quality × Tide × Timer × Bool × Inlet :=
  (s.ts.window, s.ts.chamberLevel, s.ts.chamberQuality, s.ts.tankLevel, s.ts.tankQuality, s.ts.tide,
    s.ts.tideStable, s.ts.tideLock, s.ts.inlet)

/-- The share table, the curtail level and the claim list. -/
def State.tables (s : State) : Option (List Share) × Option Nat × List Claim :=
  (s.sa.shares, s.sa.curtail, s.sa.claims)

/-- The membership state, the roster, the lock and the record of a join. -/
def State.member (s : State) :
    Membership × Option (List RosterEntry) × Option Lock × Nat × List Nat × Bool × Bool × Nat :=
  (s.mu.membership, s.mu.roster, s.mu.lock, s.mu.failures, s.mu.joinRecord, s.mu.populated,
    s.mu.newlyPopulated, s.mu.nextSegment)

/-- The MU's timers, but for the silence timer, which every command's end may start or stop. -/
def State.memberTimers (s : State) : Timer × Timer × Timer × Timer × Timer × Timer × Timer :=
  (s.mu.listen, s.mu.restartHold, s.mu.burstHold, s.mu.joinWait, s.mu.load, s.mu.presence, s.mu.quiet)

/-- The line controller's tally and claim spacing, and whether it follows the line. -/
def State.line (s : State) : Nat × Timer × Bool := (s.lc.tally, s.lc.spacing, s.lc.following)

/-- The activity state and the wake recovery. -/
def State.wakefulness (s : State) : Activity × Timer := (s.ac.activity, s.ac.recovery)

/-- All of the views but the shared tables and the membership. -/
def SameOwn (s t : State) : Prop :=
  t.chip = s.chip ∧ t.weather = s.weather ∧ t.spills = s.spills ∧ t.tank = s.tank

/-! ## Hearing -/

/-- The station runs under image c and follows the line: it receives frames. -/
def Hears (s : State) (c : Image) : Prop := s.running = some c ∧ s.lc.following = true

/-- The frame is this station's own, from this slot. -/
def OwnFrom (s : State) (c : Image) (f : Frame) (id : SlotId) : Prop :=
  s.flight = some id ∧ s.ownOnLine c = some f

/-- The frame is not this station's own. -/
def Foreign (s : State) (c : Image) (f : Frame) : Prop := (s.arrival c f).own = false

/-- A LINKED station with its tables, under image c and following the line, hears an allocation frame from
tank station n, whose entry is LINKED (R3). -/
def TakesFrom (s : State) (c : Image) (n : Nat) : Prop :=
  Hears s c ∧ s.mu.membership = .linked ∧ isTank n = true ∧ s.isLinked n = true

/-- A step of the readiness ladder: what an event's grade does to the readiness state (R105 to R107, R109). -/
def climb (r : Readiness) (g : Grade) : Readiness :=
  match r with
  | .quiet => if g = .none then .quiet else .watch
  | .watch => if g = .warn ∨ g = .severe then .armed else .watch
  | .armed => if g = .severe then .storm else .armed
  | .storm => .storm

/-- What one alert event leaves of the readiness monitor and of the open record, s before it and t after it: the step of
R105 to R107 with its step window, and at an entry to STORM the triggering alert of R104 and R107 and the open record's
storm part (R128). That an event which starts the step window marks it as just started, and no other event does, is the
model's choice, log entry 41. -/
def Climbs (c : Image) (s t : State) : Prop :=
  t.srm.readiness = climb s.srm.readiness (t.heededGrade c) ∧
    t.srm.stepWindow = (if t.srm.readiness = s.srm.readiness then s.srm.stepWindow
      else if t.srm.readiness = .storm then none else some (60000 * c.stepWindow)) ∧
    (t.srm.readiness ≠ s.srm.readiness → (t.srm.stepFresh = true ↔ t.srm.readiness ≠ .storm)) ∧
    (t.srm.readiness = s.srm.readiness → t.srm.stepFresh = s.srm.stepFresh) ∧
    (t.srm.readiness = s.srm.readiness ∨ t.srm.readiness ≠ .storm →
      t.srm.trigger = s.srm.trigger ∧ t.sc = s.sc) ∧
    (s.srm.readiness = .armed → t.srm.readiness = .storm →
      (∃ z, t.srm.trigger = some { zone := z, grade := .severe } ∧
        (t.ru.localGrade = .severe → z = c.zone) ∧
        (t.ru.localGrade ≠ .severe → isHeeded c z = true ∧ t.zoneGrade z = .severe ∧
          ∀ y, y < z → isHeeded c y = true → t.zoneGrade y ≠ .severe)) ∧
      t.sc = { s.sc with
        record := s.sc.record.map fun r => { r with stormPart := r.stormPart.or t.srm.trigger } })

/-! ## Requests of the drain machine -/

/-- From s to u every own share has been put into the RELEASE slot, and the standing release mark stands (R31). -/
def ReleasesAll (c : Image) (s u : State) : Prop :=
  u.sa.releaseMark = true ∧ u.slotEmpty .release = false ∧
    ∀ n, n < 64 → n ∈ s.holdings c.station → n ∈ u.sa.outgoing

/-- From s to u the station has withdrawn (R30): a PENDING CLAIM is gone, one in flight is cancelled under the standing
withdraw mark, and an entry has its WITHDRAW. -/
def Withdraws (c : Image) (s u : State) : Prop :=
  (s.slotPending .claim = true → u.slotEmpty .claim = true) ∧
    (s.slotInFlight .claim = true → u.flightCancelled .claim = true ∧ u.sa.withdrawMark = true) ∧
    (s.hasClaim c.station = true → u.slotEmpty .withdraw = false)

/-! ## Slots -/

/-- From x to y the MU has pruned the stations `gone` from a PENDING set of this kind of content (R179): they are no longer
named, and a set of which none is left has emptied its slot. -/
def PrunedFrom (content : List Nat → Content) (gone : List Nat) (x y : Slot) : Prop :=
  ∀ set, x.state = .pending (content set) →
    ((∀ n ∈ set, n ∈ gone) → y = Slot.blank) ∧
    ((∃ n ∈ set, n ∉ gone) → ∃ rest, y = { x with state := .pending (content rest) } ∧
      ∀ n, n ∈ rest ↔ n ∈ set ∧ n ∉ gone)

/-- From x to y the slot has been cancelled (R179): a PENDING content is gone, and a flight is marked cancelled, its next
content discarded. -/
def SlotCancelled (x y : Slot) : Prop :=
  (x.state = .empty → y.state = .empty) ∧ (∀ content, x.state = .pending content → y = Slot.blank) ∧
    ∀ content next cancelled, x.state = .inFlight content next cancelled →
      y = { x with state := .inFlight content none true }

/-! ## Commands by kind -/

/-- The commands that act on a station in DOWN: supply, reset line, configuration, seconds, and the tide input,
which is not the chip's. -/
def actsInDown : Instr → Bool
  | .powerOn => true
  | .supplyBelowThreshold => true
  | .resetLinePulse => true
  | .resetLineRelease => true
  | .configReadAttempt _ => true
  | .configRetryWaitExpiry => true
  | .stationSecondsTick => true
  | .tideInputChange _ => true
  | _ => false

/-- The commands of frames that this station may be only a receiver of: every accepted frame, and one that is marked or
breaks off. -/
def isFrameCommand : Instr → Bool
  | .frameBreakOff => true
  | .frameAbortedOrBusy _ => true
  | .table _ _ => true
  | .absent _ => true
  | .reclaim _ => true
  | .curtail _ => true
  | .yield _ => true
  | .release _ => true
  | .withdraw _ => true
  | .claim _ _ => true
  | .alert _ _ => true
  | .join _ => true
  | .status _ => true
  | .dormant _ => true
  | .query _ => true
  | .recack _ => true
  | .period _ => true
  | .clear _ => true
  | .restart _ => true
  | .record _ => true
  | .norec _ => true
  | .counts _ => true
  | .conditions _ => true
  | .notice _ => true
  | .unlistedSubKindFrame _ _ _ => true
  | _ => false

/-- The frame commands whose class is that of an allocation frame, each with this body; the unlisted ones of classes
1 and 2 among them. -/
def allocationCommands (k : BitVec 3) (b : FrameBody) : List Instr :=
  [.absent b, .reclaim b, .curtail b, .yield b, .release b, .withdraw b, .claim k b,
    .unlistedSubKindFrame 1 k b, .unlistedSubKindFrame 2 k b]

/-- Frames that a tank station only hears: no block applies them, or their payload is shorter than their kind needs
(R199). -/
def heardOnlyCommands (k : BitVec 3) (b : FrameBody) : List Instr :=
  [.record b, .norec b, .counts b, .conditions b, .unlistedSubKindFrame 0 k b, .unlistedSubKindFrame 4 k b,
    .unlistedSubKindFrame 6 k b, .unlistedSubKindFrame 7 k b] ++
    (if 2 < k.toNat then [.unlistedSubKindFrame 5 k b] else []) ++
    (if b.payload.length < 1 then [.alert k b, .join b] else []) ++
    (if b.payload.length < 2 then [.recack b, .clear b] else []) ++
    (if b.payload.length < 3 then [.status b] else [])

/-- The commands of the frames that a tank station sends (Table 9-2), each with its frame. -/
def tankFrameCommands (segment : BitVec 2) (k : BitVec 3) (b : FrameBody) : List (Instr × Frame) :=
  [(.table segment b, bodyFrame b 0 segment.toNat), (.absent b, bodyFrame b 1 0), (.reclaim b, bodyFrame b 1 1),
    (.yield b, bodyFrame b 2 0), (.release b, bodyFrame b 2 1), (.withdraw b, bodyFrame b 2 2),
    (.claim k b, bodyFrame b 3 k.toNat), (.alert k b, bodyFrame b 4 k.toNat), (.join b, bodyFrame b 5 0),
    (.status b, bodyFrame b 5 1), (.dormant b, bodyFrame b 5 2), (.record b, bodyFrame b 7 0),
    (.norec b, bodyFrame b 7 1), (.counts b, bodyFrame b 7 2), (.conditions b, bodyFrame b 7 3),
    (.notice b, bodyFrame b 7 4)]

/-- A TABLE command. -/
def isTableCommand : Instr → Bool
  | .table _ _ => true
  | _ => false

/-! ## Returns and hand-outs -/

/-- The shares that p names have been returned against curtail level q, and no other share has changed (R8). -/
def IsReturn (q : Nat) (p : Nat → Share → Bool) (sh back : List Share) : Prop :=
  back.length = sh.length ∧
    ∀ i x, sh[i]? = some x →
      back[i]? = some (if p i x then (if i < q then .free else .withheld) else x)

/-- Tables t are tables sh and cl after the return of the shares that p names: the allocation rule has run exactly
if one of them became FREE (R8). -/
def Redistributed (q : Nat) (p : Nat → Share → Bool) (sh : List Share) (cl : List Claim) (t : State) : Prop :=
  ∃ back, IsReturn q p sh back ∧ t.sa.curtail = some q ∧
    ((∃ i x, sh[i]? = some x ∧ p i x = true ∧ i < q) →
      t.sa.shares = some (allocate back cl).1 ∧ t.sa.claims = (allocate back cl).2) ∧
    ((¬ ∃ i x, sh[i]? = some x ∧ p i x = true ∧ i < q) → t.sa.shares = some back ∧ t.sa.claims = cl)

/-- The holders that a claim list still waits for, in the order they are served. -/
def waitingShares (cl : List Claim) : List Share :=
  cl.flatMap fun e => List.replicate e.remaining (.held e.claimant)

/-- The remaining count of station n's entry, 0 without one. -/
def State.awaits (s : State) (n : Nat) : Nat :=
  match s.claimOf n with
  | none => 0
  | some e => e.remaining

/-- The station's tables are void, its valve shut and its drain machine IDLE (R23, R59 to R61). -/
def OffTheTables (t : State) : Prop :=
  t.sa.shares = none ∧ t.sa.curtail = none ∧ t.sa.claims = [] ∧ t.sa.outgoing = [] ∧
    t.sa.releaseMark = false ∧ t.sa.withdrawMark = false ∧ t.mu.roster = none ∧ t.mu.lock = none ∧
    t.ts.valve = 0 ∧ t.ts.drain = .idle ∧ t.ac.activity = .active

/-! ## Rules that every step keeps -/

/-- R85: the valve is shut unless the station is LINKED, ACTIVE and DRAINING, and then open by as many steps as
the station has own holdings outside its outgoing set. -/
def ValveRule (s : State) : Prop :=
  ((s.mu.membership ≠ .linked ∨ s.ac.activity ≠ .active ∨ s.ts.drain ≠ .draining) → s.ts.valve = 0) ∧
    ∀ c, s.running = some c → s.mu.membership = .linked → s.ac.activity = .active →
      s.ts.drain = .draining → s.ts.valve = (s.keptHoldings c).length

/-- R70, R71: the urgency is that of Table 3-3 and the storm floor. -/
def UrgencyRule (s : State) : Prop :=
  ∀ c, s.running = some c →
    (s.ac.activity = .dormant ∨ s.tankNow = none → s.ts.urgency = 0) ∧
    ∀ l, s.ac.activity ≠ .dormant → s.tankNow = some l →
      ((s.sc.episode = .spilling ∨ s.ts.tideLock = true) → s.ts.urgency = 7) ∧
      (s.sc.episode ≠ .spilling → s.ts.tideLock = false →
        s.ts.urgency = max
          (if l ≤ c.tankEmpty then 0 else min 6 (1 + 6 * (l - c.tankEmpty) / (c.tankFull - c.tankEmpty)))
          (if s.srm.readiness = .storm ∧ c.drawdown < l then 4 else 0))

/-- R66, R69, R139, R151: while a cause stands, its flag is latched. -/
def FlagRule (s : State) : Prop :=
  ∀ c, s.running = some c →
    ((s.ts.chamberQuality = .suspect ∨ s.ts.chamberQuality = .failed ∨ s.ts.tankQuality = .suspect ∨
        s.ts.tankQuality = .failed) → inSet s.rs.latched .sensorFault = true) ∧
    (s.ts.tideLock = true → inSet s.rs.latched .tideLocked = true) ∧
    (c.watermark ≤ s.rs.log.length → inSet s.rs.latched .logHigh = true)

/-- R109: in STORM the calm timer runs exactly while the heeded grade is NONE. -/
def CalmRule (s : State) : Prop :=
  ∀ c, s.running = some c → s.srm.readiness = .storm →
    (s.srm.calm.isSome = true ↔ s.heededGrade c = .none)

/-- R58: the silence timer runs exactly while the station is LINKED and another LINKED entry's mark is clear. -/
def SilenceRule (s : State) : Prop :=
  ∀ c, s.running = some c →
    (s.mu.silence.isSome = true ↔ s.mu.membership = .linked ∧
      ∃ n, 1 ≤ n ∧ n ≤ 48 ∧ n ≠ c.station ∧ (s.entry n).state = .linked ∧ (s.entry n).dormant = false)

/-- R89, R91, R102: the ring holds at most 15 buckets; the local grade is that of the depths; in DOWN there is no
rain. -/
def RainRule (s : State) : Prop :=
  s.ru.ring.length ≤ 15 ∧
    (s.mu.membership = .down → s.ru.ring = [] ∧ s.ru.current = 0 ∧ s.ru.localGrade = .none) ∧
    ∀ c, s.running = some c → s.ru.localGrade = gradeOfDepths c s.depth5 s.depth15

/-- R141: the request queue holds at most 4 requests. -/
def QueueRule (s : State) : Prop := s.rs.queue.length ≤ queueSize

/-- R136: at most 32 records, whose sequences run consecutively up to one below the low 16 bits of records
written. -/
def LogRule (s : State) : Prop :=
  s.rs.log.length ≤ logSize ∧
    ∀ i r, s.rs.log[i]? = some r →
      r.sequence + BitVec.ofNat 16 (s.rs.log.length - i) = s.rs.written.setWidth 16

/-- R187: an image is latched exactly while the load status is GOOD; while the reset line is held no load has
begun, and until a good load the station is DOWN. -/
def LoadRule (s : State) : Prop :=
  (s.cl.image.isSome = true ↔ s.cl.load = .good) ∧ (s.resetHeld = true → s.cl.load = .idle) ∧
    (s.mu.membership ≠ .down → s.cl.load = .good)

/-- The episode is open (Table 6-2). -/
def Episode.isOpen : Episode → Bool
  | .spilling => true
  | .settling => true
  | .mergeWait => true
  | _ => false

/-- One while an episode is open (R130). -/
def openCount (s : State) : Word := if s.sc.episode.isOpen then 1 else 0

/-- R130: the total episode count is records written plus records discarded plus one while an episode is open;
the open record is present exactly then (R116), and only under a latched image. -/
def CountRule (s : State) : Prop :=
  s.sc.total = s.rs.written + s.rs.discarded + openCount s ∧
    (s.sc.record.isSome = s.sc.episode.isOpen) ∧ (s.sc.record.isSome = true → s.cl.image.isSome = true)

/-- R143, R149: the service runs exactly while a request waits, and then a reply slot of it is not yet EMPTY. -/
def ServiceRule (s : State) : Prop :=
  (s.rs.queue = [] → s.rs.serving = false) ∧
    (s.rs.queue ≠ [] → s.rs.serving = true ∧ s.slotsEmpty replySlots = false)

/-- R161, R162: at an ACTIVE station the dormancy delay runs exactly while the dormancy conditions hold, the DORMANT slot is
EMPTY and the delay is not 0; while a condition fails no DORMANT is PENDING, and one in flight that is to take the
station into dormancy is cancelled under the wake mark. At any other station the delay is stopped. -/
def DelayRule (s : State) : Prop :=
  ∀ c, s.running = some c →
    (s.ac.activity ≠ .active → s.ac.delay = none) ∧
      (s.ac.activity = .active → s.dormancyConditions c = true →
        (s.ac.delay.isSome = true ↔ s.slotEmpty .dormant = true ∧ c.dormancyDelay ≠ 0)) ∧
      (s.ac.activity = .active → s.dormancyConditions c = false → s.ac.delay = none ∧
        s.slotPending .dormant = false ∧
        (s.enteringInFlight = true → s.ac.wakeMark = true ∧ s.flightCancelled .dormant = true))

/-- R155, R179: no owner cancels a notice slot, so no notice in flight is marked cancelled. -/
def NoticeRule (s : State) : Prop := ∀ id ∈ noticeSlots, s.flightCancelled id = false

/-- R36, R95: a valid roster has 48 entries, a valid alert table 15. -/
def ShapeRule (s : State) : Prop :=
  (∀ r, s.mu.roster = some r → r.length = 48) ∧ (∀ l, s.ru.alerts = some l → l.length = 15)

/-- R36, R54: the roster is valid exactly in LINKED and LOADING; a LINKED station's own entry is LINKED and untimed. -/
def RosterRule (s : State) : Prop :=
  (s.mu.roster.isSome = true ↔ s.mu.membership = .linked ∨ s.mu.membership = .loading) ∧
    ∀ c, s.running = some c → 1 ≤ c.station → c.station ≤ 48 → s.mu.membership = .linked →
      s.entryState c.station = .linked ∧ (s.entry c.station).lastHeard = none ∧
        (s.entry c.station).stranding = none

/-- R84, R160, R167: a station that is DORMANT or WAKING is LINKED, with its drain machine IDLE. -/
def RestRule (s : State) : Prop :=
  s.ac.activity ≠ .active → s.mu.membership = .linked ∧ s.ts.drain = .idle

/-- R193, R194, R198: in DOWN the valve stands at 0 and the inlet is OPEN, and nothing lights the lamp. -/
def DownRule (s : State) : Prop :=
  s.mu.membership = .down →
    s.ts.valve = 0 ∧ s.ts.inlet = .opened ∧ s.ts.tideLock = false ∧ s.srm.readiness = .quiet

/-- R4, R9: no share below the curtail level is WITHHELD and none at or above it is FREE; and whenever the claim
list is non-empty, no share is FREE. -/
def WaitingRule (s : State) : Prop :=
  ∀ sh, s.sa.shares = some sh →
    (s.sa.claims ≠ [] → Share.free ∉ sh) ∧
    ∀ q, s.sa.curtail = some q →
      (∀ i, sh[i]? = some .withheld → q ≤ i) ∧ (∀ i, sh[i]? = some .free → i < q)

/-- R5, R11: each station has at most one claim-list entry, each waits for 1 share or more, and what a station holds
and waits for is never more than 8. -/
def HoldRule (s : State) : Prop :=
  (s.sa.claims.map Claim.claimant).Nodup ∧ (∀ e ∈ s.sa.claims, 1 ≤ e.remaining) ∧
    ∀ n, (s.holdings n).length + s.awaits n ≤ 8

end Sys2Proof.Machine
end

