-- ==== Sys2Proof/Certificates/Slice0/Obligations.lean ====
section
/-! DEFINITION. The statements for the provers. -/

open Sys2Proof Sys2Proof.Machine

/-! ## The queue and reset -/

/-- A step takes the command at the front and runs it on the state with the queue's rest. On an empty queue one ms
passes: outside DOWN the running ages of the alert table count it, the step window no longer starts at the present
instant, and nothing else changes (that time passes on an empty queue, and the mark of that instant, are the model's
choices, log entries 2 and 41). -/
def Obligations.QueueFrontRuns : Prop :=
  (∀ (i : Instr) (rest : List Instr) (s : State),
    step { s with pending := i :: rest } = exec i { s with pending := rest }) ∧
  (∀ s : State, s.pending = [] → s.running = none → step s = .next s) ∧
  ∀ (s : State) (c : Image), s.pending = [] → s.running = some c →
    ∃ t, step s = .next t ∧
      t = { s with
        ru := { s.ru with alerts := t.ru.alerts }, srm := { s.srm with stepFresh := false } } ∧
      ∀ z, t.zoneEntry z = { s.zoneEntry z with age := (s.zoneEntry z).age.map (· + 1) }

/-- Every command of the table, on every state and operands, answers a next state and leaves the queue (that no command
of this chip stops it is the model's deduction, log entry 28). -/
def Obligations.EveryCommandCompletes : Prop :=
  ∀ (i : Instr) (s : State), ∃ t, exec i s = .next t ∧ t.pending = s.pending

/-- The values the chapters give for power-on; and the rules that every step keeps hold there. -/
def Obligations.ResetState : Prop :=
  State.reset.mu.membership = .down ∧ State.reset.mu.roster = none ∧
    State.reset.mu.lock = none ∧ State.reset.mu.failures = 0 ∧ State.reset.mu.joinRecord = [] ∧
    State.reset.sa.shares = none ∧ State.reset.sa.claims = [] ∧ State.reset.sa.outgoing = [] ∧
    State.reset.sa.withdrawMark = false ∧ State.reset.sa.releaseMark = false ∧
    State.reset.ts.valve = 0 ∧ State.reset.ts.inlet = .opened ∧ State.reset.ts.drain = .idle ∧
    State.reset.ts.chamberQuality = .noSample ∧ State.reset.ts.tankQuality = .noSample ∧
    State.reset.ts.urgency = 0 ∧ State.reset.ts.tideLock = false ∧
    State.reset.ru.current = 0 ∧ State.reset.ru.ring = [] ∧ State.reset.ru.localGrade = .none ∧
    State.reset.ru.lastSent = .none ∧ State.reset.ru.alerts = some (List.replicate 15 ZoneEntry.blank) ∧
    State.reset.srm.readiness = .quiet ∧ State.reset.srm.trigger = none ∧
    State.reset.sc.episode = .clear ∧ State.reset.sc.total = 0 ∧ State.reset.sc.periodCount = 0 ∧
    State.reset.rs.log = [] ∧ State.reset.rs.written = 0 ∧ State.reset.rs.queue = [] ∧
    State.reset.rs.latched = 0 ∧ State.reset.rs.news = 0 ∧ State.reset.ac.activity = .active ∧
    (∀ id, State.reset.slot id = Slot.blank) ∧ State.reset.lc.tally = 0 ∧
    State.reset.cl.load = .idle ∧ State.reset.cl.image = none ∧ State.reset.seconds = 0 ∧
    ValveRule State.reset ∧ UrgencyRule State.reset ∧ FlagRule State.reset ∧ CalmRule State.reset ∧
    SilenceRule State.reset ∧ RainRule State.reset ∧ QueueRule State.reset ∧ LogRule State.reset ∧
    LoadRule State.reset ∧ CountRule State.reset ∧ ShapeRule State.reset ∧ WaitingRule State.reset ∧
    HoldRule State.reset ∧ ServiceRule State.reset ∧ DelayRule State.reset ∧ NoticeRule State.reset ∧
    RosterRule State.reset ∧ RestRule State.reset ∧ DownRule State.reset

/-! ## Rules that every step keeps -/

/-- R85: the valve rule is kept. -/
def Obligations.ValveRuleKept : Prop :=
  ∀ s t : State, ValveRule s → step s = .next t → ValveRule t

/-- R70, R71, R66, R69, R139, R151, R109, R58: the urgency, the latched causes, the calm timer and the silence timer
always stand as what they follow says. R53, R72, R150: a step that changes a value which STATUS carries leaves, at a
station that is LINKED and not DORMANT, a STATUS with the new values written; while DORMANT a change queues none by
itself. (That the values are compared before and after the whole command is the model's deduction, log entry 35.) -/
def Obligations.FollowingRulesKept : Prop :=
  (∀ s t : State, step s = .next t →
    (UrgencyRule s → UrgencyRule t) ∧ (FlagRule s → FlagRule t) ∧ (CalmRule s → CalmRule t) ∧
      (SilenceRule s → SilenceRule t) ∧
      (t.mu.membership = .linked → t.ac.activity ≠ .dormant →
        (t.ts.urgency ≠ s.ts.urgency ∨ t.ts.drain ≠ s.ts.drain ∨ t.ts.inlet ≠ s.ts.inlet ∨
          t.srm.readiness ≠ s.srm.readiness ∨ t.rs.latched ≠ s.rs.latched) →
        (t.slot .status).state.newest = some (.status
          { urgency := t.ts.urgency, drain := t.ts.drain, inlet := t.ts.inlet, readiness := t.srm.readiness,
            latched := t.rs.latched }))) ∧
  ∀ (c : Image) (before s : State), s.ac.activity = .dormant →
    (settleBlocks c before s).slot .status = s.slot .status

/-- R89, R91: the rain rule is kept. -/
def Obligations.RainRuleKept : Prop :=
  ∀ s t : State, LoadRule s → RainRule s → step s = .next t → RainRule t

/-- R136, R141, R36, R54, R95, R155: the bounds of the log and the request queue, the run of the log's sequences, the
shape of the roster and the alert table, that no notice in flight is cancelled, and that a LINKED station's own entry
is LINKED and untimed, are kept. (That the own entry stays so through a lock of the station's own JOIN, where R45, R47
and R48 name every LINKED station, is the model's reading, log entry 46.) -/
def Obligations.BoundsKept : Prop :=
  ∀ s t : State, step s = .next t →
    (QueueRule s → QueueRule t) ∧ (LogRule s → LogRule t) ∧ (ShapeRule s → ShapeRule t) ∧
      (NoticeRule s → NoticeRule t) ∧ (LoadRule s → ShapeRule s → RosterRule s → RosterRule t)

/-- R187, R130, R116: the load rule is kept, and under it the count rule. -/
def Obligations.CountRuleKept : Prop :=
  ∀ s t : State, LoadRule s → step s = .next t → LoadRule t ∧ (CountRule s → CountRule t)

/-- R4, R9: whenever a station waits, no share is FREE, and the curtail level is respected, through every command
but a TABLE, whose segments bring another station's tables. -/
def Obligations.WaitingRuleKept : Prop :=
  ∀ (i : Instr) (s t : State), isTableCommand i = false → WaitingRule s → exec i s = .next t → WaitingRule t

/-- R5, R11: no station ever holds and waits for more than 8 shares, through every command but a TABLE. -/
def Obligations.HoldRuleKept : Prop :=
  ∀ (i : Instr) (s t : State), isTableCommand i = false → HoldRule s → exec i s = .next t → HoldRule t

/-! ## Supply, reset line, configuration, station seconds -/

/-- POWER_ON and SUPPLY_BELOW_THRESHOLD: every block at its power-on values, station seconds 0; at power-on a load
begins. RESET_LINE_RELEASE: a new load begins, and nothing else changes. CONFIG_READ_ATTEMPT that fails, and
CONFIG_RETRY_WAIT_EXPIRY: up to three attempts, 10 ms apart; the third failure is a bad load, and an image that reads
whole but fails its checks is one at once. (That the tide state of record is OPEN from power-on to the good load,
among `TsState.reset`, and that the tide input keeps its level are the model's choices, log entry 5; that the reset
line is not held at power-on is its choice too, log entry 4.) -/
def Obligations.SupplyAndLoading : Prop :=
  (∀ s : State,
    (∃ t, exec .powerOn s = .next t ∧ t.supplyGood = true ∧ t.resetHeld = false ∧ t.cl.load = .reading ∧
      t.cl.image = none ∧ t.cl.attempts = 0 ∧ t.cl.retry = none ∧ t.cl.afterPulse = false ∧
      t.lc = .reset ∧ t.mu = .reset ∧ t.sa = .reset ∧ t.ts = .reset ∧ t.ru = .reset ∧ t.srm = .reset ∧
      t.sc = .reset ∧ t.rs = .reset ∧ t.ac = .reset ∧ t.seconds = 0 ∧ t.tidePin = s.tidePin) ∧
    (∃ t, exec .supplyBelowThreshold s = .next t ∧ t.supplyGood = false ∧ t.cl = .reset ∧ t.lc = .reset ∧
      t.mu = .reset ∧ t.sa = .reset ∧ t.ts = .reset ∧ t.ru = .reset ∧ t.srm = .reset ∧ t.sc = .reset ∧
      t.rs = .reset ∧ t.ac = .reset ∧ t.seconds = 0 ∧ t.tidePin = s.tidePin)) ∧
  (∀ s : State, s.supplyGood = true → s.resetHeld = true →
    ∃ t, exec .resetLineRelease s = .next t ∧ t.resetHeld = false ∧ t.cl.load = .reading ∧ t.cl.image = none ∧
      t.cl.attempts = 0 ∧ t.cl.retry = none ∧ t.cl.afterPulse = true ∧
      t = { s with resetHeld := false, cl := t.cl }) ∧
  ∀ s : State,
    (∀ read, s.attempting = true → goodBytes read = none → s.cl.attempts < 2 →
      exec (.configReadAttempt read) s = .next
        { s with cl := { s.cl with attempts := s.cl.attempts + 1, retry := some 10 } }) ∧
    (∀ read, s.attempting = true → goodBytes read = none → s.cl.attempts = 2 →
      exec (.configReadAttempt read) s = .next
        { s with cl := { s.cl with attempts := 3, load := .bad, image := none, retry := none } }) ∧
    (∀ read l, s.attempting = true → goodBytes read = some l → judgeImage l = none →
      exec (.configReadAttempt read) s = .next
        { s with cl := { s.cl with load := .bad, image := none, retry := none } }) ∧
    (s.cl.load = .reading →
      ∃ t, exec .configRetryWaitExpiry s = .next t ∧ t.attempting = true ∧
        t = { s with cl := { s.cl with retry := none } })

/-- RESET_LINE_PULSE: the reset-line values of Table 10-3, station seconds and the four counts kept, the flags and
the queue cleared. With no record open the log and its counters stay; with one open, that record meets the log with
RESET_CUT and every other field as it stands: written while there is room, and at a full log discarded under KEEP or
written in place of the oldest under OVERWRITE. (That the tide state of record is OPEN from the pulse to the next good
load, among `TsState.reset`, and that the tide input keeps its level are the model's choices, log entry 5.) -/
def Obligations.ResetLinePulse : Prop :=
  ∀ s : State, s.supplyGood = true →
    ∃ t, exec .resetLinePulse s = .next t ∧ t.resetHeld = true ∧ t.cl = .reset ∧ t.lc = .reset ∧
      t.mu = .reset ∧ t.sa = .reset ∧ t.ts = .reset ∧ t.ru = .reset ∧ t.srm = .reset ∧ t.ac = .reset ∧
      t.seconds = s.seconds ∧ t.tidePin = s.tidePin ∧
      t.sc.episode = .clear ∧ t.sc.record = none ∧ t.sc.merge = none ∧ t.sc.onset = .blank ∧
      t.sc.total = s.sc.total ∧ t.sc.period = s.sc.period ∧ t.sc.periodCount = s.sc.periodCount ∧
      t.sc.periodSeconds = s.sc.periodSeconds ∧
      t.rs.queue = [] ∧ t.rs.serving = false ∧ t.rs.latched = 0 ∧ t.rs.news = 0 ∧
      (s.sc.record = none → t.rs.log = s.rs.log ∧ t.rs.written = s.rs.written ∧
        t.rs.discarded = s.rs.discarded ∧ t.rs.overwritten = s.rs.overwritten) ∧
      (∀ c r, s.cl.image = some c → s.sc.record = some r → s.rs.log.length < 32 →
        t.rs.log = s.rs.log ++
          [{ sequence := s.rs.written.setWidth 16, record := { r with resetCut := true }, announced := false }] ∧
        t.rs.written = s.rs.written + 1 ∧ t.rs.discarded = s.rs.discarded ∧
        t.rs.overwritten = s.rs.overwritten) ∧
      (∀ c r, s.cl.image = some c → s.sc.record = some r → 32 ≤ s.rs.log.length → c.logMode = .keep →
        t.rs.log = s.rs.log ∧ t.rs.written = s.rs.written ∧ t.rs.discarded = s.rs.discarded + 1 ∧
        t.rs.overwritten = s.rs.overwritten) ∧
      (∀ c r, s.cl.image = some c → s.sc.record = some r → 32 ≤ s.rs.log.length → c.logMode = .overwrite →
        t.rs.log = s.rs.log.drop 1 ++
          [{ sequence := s.rs.written.setWidth 16, record := { r with resetCut := true }, announced := false }] ∧
        t.rs.written = s.rs.written + 1 ∧ t.rs.discarded = s.rs.discarded ∧
        t.rs.overwritten = s.rs.overwritten + 1)

/-- CONFIG_READ_ATTEMPT that reads a good image: what begins together at the good load. -/
def Obligations.GoodLoadStartsWork : Prop :=
  ∀ (s : State) (read : ReadAttempt) (l : List Byte) (c : Image), s.attempting = true →
    goodBytes read = some l → judgeImage l = some c →
    ∃ t, exec (.configReadAttempt read) s = .next t ∧ t.cl.load = .good ∧ t.cl.image = some c ∧
      t.mu.membership = .listening ∧ t.mu.listen = some (2000 * c.presence) ∧
      (s.cl.afterPulse = true → t.mu.restartHold = some (1000 * c.travel)) ∧
      (s.cl.afterPulse = false → t.mu.restartHold = s.mu.restartHold) ∧
      t.mu.joinRecord = [] ∧ t.mu.populated = false ∧ t.mu.newlyPopulated = false ∧
      t.ts.tide = s.tidePin ∧ t.ts.sampleTimer = some (1000 * c.sampleInterval) ∧
      t.ts.window = some (500 * c.sampleInterval) ∧
      (c.watermark ≤ s.rs.log.length → inSet t.rs.latched .logHigh = true) ∧
      t.weather = s.weather ∧ t.spills = s.spills ∧ t.tables = s.tables ∧ t.line = s.line ∧
      t.seconds = s.seconds

/-- An image the load accepts lies, field by field, in the ranges of Table 10-1, and passes the cross-checks of
Table 10-2. -/
def Obligations.GoodImageIsChecked : Prop :=
  ∀ (l : List Byte) (c : Image), judgeImage l = some c →
    (1 ≤ c.station ∧ c.station ≤ 48) ∧ (1 ≤ c.zone ∧ c.zone ≤ 15) ∧
      (c.heeded.length ≤ 4 ∧ c.heeded.Nodup ∧ ∀ z ∈ c.heeded, 1 ≤ z ∧ z ≤ 15) ∧
      numAt l 2 ≤ 4 ∧ numAt l 7 ≤ 2 ∧ (4 ≤ c.pool ∧ c.pool ≤ 64) ∧ (1 ≤ c.maxHold ∧ c.maxHold ≤ 8) ∧
      (c.tankEmpty ≤ 20000 ∧ c.drawdown ≤ 20000 ∧ c.claimLevel ≤ 20000 ∧ c.tankFull ≤ 20000) ∧
      (c.capture ≤ 20000 ∧ c.hysteresis ≤ 20000 ∧ c.crest ≤ 20000) ∧
      (1 ≤ c.sampleInterval ∧ c.sampleInterval ≤ 10) ∧ (10 ≤ c.dormantSample ∧ c.dormantSample ≤ 600) ∧
      (1 ≤ c.onsetCount ∧ c.onsetCount ≤ 16) ∧ (1 ≤ c.settleCount ∧ c.settleCount ≤ 64) ∧
      c.mergeWindow ≤ 1440 ∧ (1 ≤ c.pulseDepth ∧ c.pulseDepth ≤ 10) ∧
      (1 ≤ c.d5Watch ∧ c.d5Severe ≤ 65535 ∧ 1 ≤ c.d15Watch ∧ c.d15Severe ≤ 65535) ∧
      (30 ≤ c.alertRefresh ∧ c.alertRefresh ≤ 300) ∧ (60 ≤ c.alertLifetime ∧ c.alertLifetime ≤ 900) ∧
      (1 ≤ c.stepWindow ∧ c.stepWindow ≤ 60) ∧ (10 ≤ c.calmTime ∧ c.calmTime ≤ 240) ∧
      (1 ≤ c.presence ∧ c.presence ≤ 10) ∧ (3 ≤ c.absence ∧ c.absence ≤ 60) ∧
      (2 ≤ c.silence ∧ c.silence ≤ 30) ∧ (5 ≤ c.stranding ∧ c.stranding ≤ 300) ∧
      (1 ≤ c.travel ∧ c.travel ≤ 60) ∧ c.park ≤ 900 ∧ c.dormancyDelay ≤ 1440 ∧
      (10 ≤ c.dormantPresence ∧ c.dormantPresence ≤ 600) ∧ (1 ≤ c.wakeRecovery ∧ c.wakeRecovery ≤ 60) ∧
      numAt l 63 ≤ 1 ∧ (1 ≤ c.watermark ∧ c.watermark ≤ 32) ∧
      (c.noticeTarget = 0 ∨ (49 ≤ c.noticeTarget ∧ c.noticeTarget ≤ 62)) ∧
      c.tankEmpty < c.drawdown ∧ c.drawdown < c.claimLevel ∧ c.claimLevel < c.tankFull ∧
      c.hysteresis < c.capture ∧ c.capture < c.crest ∧
      3 * c.presence ≤ c.absence ∧ 2 * c.presence ≤ c.silence ∧
      c.silence + c.travel + 1 ≤ c.stranding ∧ 2 * c.alertRefresh ≤ c.alertLifetime ∧
      c.d5Watch < c.d5Warn ∧ c.d5Warn < c.d5Severe ∧ c.d15Watch < c.d15Warn ∧ c.d15Warn < c.d15Severe

/-- STATION_SECONDS_TICK: the count rises by 1 and wraps, in every state, and nothing else changes, but that the step
window no longer starts at the present instant (a mark of the model's own, log entry 41). Without supply it does
nothing (the model's choice, log entry 4). -/
def Obligations.StationSecondsTick : Prop :=
  ∀ s : State,
    (s.supplyGood = true → ∃ t, exec .stationSecondsTick s = .next t ∧
      t = { s with seconds := s.seconds + 1, srm := { s.srm with stepFresh := false } } ∧
      (s.seconds = 4294967295 → t.seconds = 0)) ∧
    (s.supplyGood = false → exec .stationSecondsTick s = .next s)

/-! ## Plant lines -/

/-- MINUTE_BOUNDARY at a multiple of 60 station seconds: the bucket goes into the ring; RAIN_PULSE counted, 1 s or
more after the last counted one: it adds the pulse depth, and wakes a DORMANT station. Both evaluate the local grade
and deliver one alert event. At another count there is no boundary, and a pulse sooner than 1 s is chatter: nothing
changes. (That the command at another count changes nothing, and that RAIN_PULSE carries its time, are the model's
choices, log entry 21. Climbs fixes the model's own mark of the instant at which the event restarts the step window
too: log entry 41.) -/
def Obligations.RainCommands : Prop :=
  ∀ (s : State) (c : Image), s.running = some c →
    (s.seconds.toNat % 60 = 0 →
      ∃ t, exec .minuteBoundary s = .next t ∧ t.ru.ring = (s.ru.current :: s.ru.ring).take 15 ∧
        t.ru.current = 0 ∧ t.ru.localGrade = gradeOfDepths c t.depth5 t.depth15 ∧ Climbs c s t ∧
        t.chip = s.chip ∧ t.books = s.books ∧ t.tables = s.tables ∧ t.member = s.member) ∧
    (s.seconds.toNat % 60 ≠ 0 → exec .minuteBoundary s = .next s) ∧
    ∀ time : Nat,
      ((∀ p, s.ru.chatter = some p → p + 1000 ≤ time) →
        ∃ t, exec (.rainPulse time) s = .next t ∧ t.ru.current = s.ru.current + c.pulseDepth ∧
          t.ru.chatter = some time ∧ t.ru.ring = s.ru.ring ∧
          t.ru.localGrade = gradeOfDepths c t.depth5 t.depth15 ∧ Climbs c s t ∧
          (s.ac.activity = .dormant → t.ac.activity = .waking) ∧
          t.chip = s.chip ∧ t.books = s.books ∧ t.tables = s.tables ∧ t.member = s.member) ∧
      (∀ p, s.ru.chatter = some p → time < p + 1000 → exec (.rainPulse time) s = .next s)

/-- TIDE_INPUT_CHANGE and TIDE_STATE_CHANGE: the 2 s begin or are lost; then the tide state of record and the
tide lock change. (With the chamber FAILED the level of record is read: the model's choice, log entry 11.) -/
def Obligations.TideCommands : Prop :=
  ∀ (s : State) (c : Image), s.running = some c →
    (∀ level, level ≠ s.tidePin → ∃ t, exec (.tideInputChange level) s = .next t ∧ t.tidePin = level ∧
      t.ts.tideStable = (if level = s.ts.tide then none else some 2000) ∧ t.ts.tide = s.ts.tide ∧
      t.ts.tideLock = s.ts.tideLock ∧ t.weather = s.weather ∧ t.spills = s.spills ∧ t.tables = s.tables ∧
      t.member = s.member) ∧
    (s.ts.tideStable.isSome = true → ∃ t, exec .tideStateChange s = .next t ∧ t.ts.tide = s.tidePin ∧
      t.ts.tideStable = none ∧
      (t.ts.tideLock = true ↔ s.tidePin = .shut ∧ ∃ l, s.ts.chamberLevel = some l ∧ c.crest ≤ l) ∧
      t.weather = s.weather ∧ t.spills = s.spills ∧ t.tables = s.tables ∧ t.member = s.member)

/-- SAMPLE_TIMER_EXPIRY: a request goes out, its window is half the timer's length, and the timer restarts; a window
still open closes first, with both channels FAILED. REPLY_WINDOW_CLOSE with no reply, outside WAKING: both channels
FAILED, no level moved, the inlet OPEN, the drain machine IDLE and its valve shut. -/
def Obligations.SampleWindows : Prop :=
  (∀ (s : State) (c : Image), s.running = some c → s.ts.sampleTimer.isSome = true →
    ∃ t, exec .sampleTimerExpiry s = .next t ∧
      t.ts.sampleTimer = some (1000 * if t.ac.activity = .dormant then c.dormantSample else c.sampleInterval) ∧
      t.ts.window = some (500 * if t.ac.activity = .dormant then c.dormantSample else c.sampleInterval) ∧
      (s.ts.window = none → t.ac.activity = s.ac.activity ∧ t.spills = s.spills ∧
        t.ts.chamberQuality = s.ts.chamberQuality ∧ t.ts.tankQuality = s.ts.tankQuality) ∧
      (s.ts.window.isSome = true → s.ac.activity ≠ .waking →
        t.ts.chamberQuality = .failed ∧ t.ts.tankQuality = .failed) ∧
      t.ts.chamberLevel = s.ts.chamberLevel ∧ t.ts.tankLevel = s.ts.tankLevel ∧
      t.weather = s.weather ∧ t.tables = s.tables ∧ t.member = s.member ∧ t.chip = s.chip) ∧
  ∀ (s : State) (c : Image), s.running = some c → s.ts.window.isSome = true → s.ac.activity ≠ .waking →
    ∃ t, exec .replyWindowClose s = .next t ∧ t.ts.window = none ∧ t.ts.chamberQuality = .failed ∧
      t.ts.tankQuality = .failed ∧ t.ts.chamberLevel = s.ts.chamberLevel ∧ t.ts.tankLevel = s.ts.tankLevel ∧
      t.ts.inlet = .opened ∧ t.ts.tideLock = s.ts.tideLock ∧ t.ts.drain = .idle ∧ t.ts.valve = 0 ∧
      (s.ac.activity = .dormant → t.ac.activity = .waking) ∧ inSet t.rs.latched .sensorFault = true ∧
      t.weather = s.weather ∧ t.tables = s.tables ∧ t.member = s.member ∧ t.chip = s.chip

/-- SENSOR_REPLY within its window, undamaged: outside WAKING the sample is kept channel by channel, and the inlet and
the spill counter take it; in WAKING it is discarded. A damaged reply, one that comes after its window has closed and a
second one in a window are discarded without effect; and which replies are damaged. (That of a reply of more than seven
bytes the first seven are read is the model's choice, log entry 30.) -/
def Obligations.SensorReplyCommand : Prop :=
  (∀ (s : State) (r : SensorReply), readReply r = none ∨ s.ts.window = none → exec (.sensorReply r) s = .next s) ∧
  (∀ r : SensorReply, readReply r = none ↔
    r.byteFault = true ∨ r.bytes.length < 7 ∨
      numAt r.bytes 6 ≠ (numAt r.bytes 0 + numAt r.bytes 1 + numAt r.bytes 2 + numAt r.bytes 3 + numAt r.bytes 4 +
        numAt r.bytes 5) % 256 ∨ 2 < numAt r.bytes 2 ∨ 2 < numAt r.bytes 5) ∧
  ∀ (s : State) (c : Image) (r : SensorReply) (ch tk : Channel), s.running = some c →
    s.ts.window.isSome = true → readReply r = some (ch, tk) →
    ∃ t, exec (.sensorReply r) s = .next t ∧ t.ts.window = none ∧
      (s.ac.activity ≠ .waking →
        t.ts.chamberQuality = ch.quality ∧ t.ts.tankQuality = tk.quality ∧
        t.ts.chamberLevel = (if ch.level.isSome then ch.level else s.ts.chamberLevel) ∧
        t.ts.tankLevel = (if tk.level.isSome then tk.level else s.ts.tankLevel) ∧
        (ch.level = none → t.ts.inlet = .opened ∧ t.ts.tideLock = s.ts.tideLock) ∧
        (∀ l, ch.level = some l →
          (t.ts.inlet = .opened ↔
            c.capture ≤ l ∨ (s.ts.inlet = .opened ∧ c.capture - c.hysteresis ≤ l)) ∧
          t.ts.tideLock = decide (s.ts.tide = .shut ∧ c.crest ≤ l)) ∧
        t.sc = (s.spillSample c ch).sc ∧ t.rs.log = (s.spillSample c ch).rs.log) ∧
      (s.ac.activity = .waking →
        t.ts.chamberQuality = s.ts.chamberQuality ∧ t.ts.tankQuality = s.ts.tankQuality ∧
        t.ts.chamberLevel = s.ts.chamberLevel ∧ t.ts.tankLevel = s.ts.tankLevel ∧
        t.ts.inlet = s.ts.inlet ∧ t.ts.tideLock = s.ts.tideLock ∧ t.spills = s.spills) ∧
      t.weather = s.weather ∧ t.tables = s.tables ∧ t.member = s.member ∧ t.chip = s.chip

/-! ## Spill episodes and counts -/

/-- R114: the three kinds of sample. -/
def Obligations.SampleKinds : Prop :=
  ∀ (crest : Nat) (ch : Channel) (tide : Tide),
    (∀ l, ch.level = some l → crest ≤ l → tide = .opened → judgeSample crest ch tide = .spilling l) ∧
    (∀ l, ch.level = some l → crest ≤ l → tide = .shut → judgeSample crest ch tide = .nonSpilling l true) ∧
    (∀ l, ch.level = some l → l < crest → judgeSample crest ch tide = .nonSpilling l false) ∧
    (ch.level = none → judgeSample crest ch tide = .unknown)

/-- R117 to R123, R126 to R128: what a sample does to the spill counter: the episode state and its counters, the onset
accumulators, the open record field by field, the counts and the merge timer; and that nothing else of the counter
changes. -/
def Obligations.SamplesMoveTheEpisode : Prop :=
  ∀ (s : State) (c : Image) (ch : Channel),
    let t := s.spillSample c ch
    let suspect := decide (ch.quality = .suspect)
    (∀ l, judgeSample c.crest ch s.ts.tide = .spilling l →
      let depth := (l - c.crest) * c.sampleInterval
      let counted := if s.sc.episode = .onset then s.sc.onsetCounter + 1 else 1
      let onset : Onset :=
        if s.sc.episode = .onset then
          { start := s.sc.onset.start, seconds := satAddWord s.sc.onset.seconds c.sampleInterval
            depthTime := satAddWord s.sc.onset.depthTime depth, peak := max s.sc.onset.peak l
            sensor := s.sc.onset.sensor || suspect }
        else
          { start := s.seconds, seconds := satAddWord 0 c.sampleInterval
            depthTime := satAddWord 0 depth, peak := l, sensor := suspect }
      (s.sc.episode = .clear ∨ s.sc.episode = .onset → counted < c.onsetCount →
        t.sc = { s.sc with episode := .onset, onsetCounter := counted, onset := onset }) ∧
      (s.sc.episode = .clear ∨ s.sc.episode = .onset → c.onsetCount ≤ counted →
        t.sc = { s.sc with
          episode := .spilling, onsetCounter := 0, onset := onset, total := s.sc.total + 1
          periodCount := satAddHalf s.sc.periodCount 1
          periodSeconds := satAddWord s.sc.periodSeconds onset.seconds.toNat
          record := some
            { episode := s.sc.total + 1, start := onset.start, stop := s.seconds, seconds := onset.seconds
              spells := 1, peak := onset.peak, depthTime := onset.depthTime, period := s.sc.period
              sensor := onset.sensor, resetCut := false, tidePart := none
              stormPart := if s.srm.readiness = .storm then s.srm.trigger else none } }) ∧
      (s.sc.episode = .spilling ∨ s.sc.episode = .settling ∨ s.sc.episode = .mergeWait →
        t.sc = { s.sc with
          episode := .spilling
          settleCounter := if s.sc.episode = .settling then 0 else s.sc.settleCounter
          merge := if s.sc.episode = .mergeWait then none else s.sc.merge
          periodSeconds := satAddWord s.sc.periodSeconds c.sampleInterval
          record := s.sc.record.map fun r =>
            { r with
              stop := s.seconds, seconds := satAddWord r.seconds c.sampleInterval
              depthTime := satAddWord r.depthTime depth, peak := max r.peak l
              sensor := r.sensor || suspect
              spells := if s.sc.episode = .mergeWait then min (r.spells + 1) 255 else r.spells } })) ∧
    (∀ l shut, judgeSample c.crest ch s.ts.tide = .nonSpilling l shut →
      let counted := if s.sc.episode = .settling then s.sc.settleCounter + 1 else 1
      let rest (r : SpillRecord) : SpillRecord :=
        { r with
          peak := max r.peak l, sensor := r.sensor || suspect
          tidePart := if shut then some (satAddWord (r.tidePart.getD 0) c.sampleInterval) else r.tidePart }
      (s.sc.episode = .clear → t = s) ∧
      (s.sc.episode = .onset →
        t.sc = { s.sc with episode := .clear, onsetCounter := 0, onset := Onset.blank }) ∧
      (s.sc.episode = .spilling ∨ s.sc.episode = .settling → counted < c.settleCount →
        t.sc = { s.sc with
          episode := .settling, settleCounter := counted, record := s.sc.record.map rest }) ∧
      (s.sc.episode = .spilling ∨ s.sc.episode = .settling → c.settleCount ≤ counted → 0 < c.mergeWindow →
        t.sc = { s.sc with
          episode := .mergeWait, settleCounter := 0, record := s.sc.record.map rest
          merge := some (60000 * c.mergeWindow) }) ∧
      (s.sc.episode = .spilling ∨ s.sc.episode = .settling → c.settleCount ≤ counted → c.mergeWindow = 0 →
        t.sc = { s.sc with episode := .clear, settleCounter := 0, record := none, merge := none } ∧
        ∀ r, s.sc.record = some r → s.rs.log.length < 32 →
          t.rs.log = s.rs.log ++
            [{ sequence := s.rs.written.setWidth 16, record := rest r, announced := false }]) ∧
      (s.sc.episode = .mergeWait → t.sc = { s.sc with record := s.sc.record.map rest })) ∧
    (judgeSample c.crest ch s.ts.tide = .unknown →
      (s.sc.episode = .clear → t = s) ∧
      (s.sc.episode = .onset → t.sc = { s.sc with onset := { s.sc.onset with sensor := true } }) ∧
      (s.sc.episode = .spilling ∨ s.sc.episode = .settling ∨ s.sc.episode = .mergeWait →
        t.sc = { s.sc with record := s.sc.record.map fun r => { r with sensor := true } }))

/-- MERGE_TIMER_EXPIRY: the episode closes, and its record meets the log: written with the next sequence while there
is room, and at a full log discarded under KEEP or written in place of the oldest under OVERWRITE. -/
def Obligations.MergeTimerExpiry : Prop :=
  ∀ (s : State) (c : Image) (r : SpillRecord), s.running = some c → s.sc.merge.isSome = true →
    s.sc.record = some r →
    ∃ t, exec .mergeTimerExpiry s = .next t ∧ t.sc.episode = .clear ∧ t.sc.record = none ∧ t.sc.merge = none ∧
      t.sc.total = s.sc.total ∧
      (s.rs.log.length < 32 →
        t.rs.log = s.rs.log ++ [{ sequence := s.rs.written.setWidth 16, record := r, announced := false }] ∧
        t.rs.written = s.rs.written + 1 ∧ t.rs.discarded = s.rs.discarded ∧
        t.rs.overwritten = s.rs.overwritten) ∧
      (32 ≤ s.rs.log.length → inSet t.rs.latched .recordLost = true ∧
        (c.logMode = .keep → t.rs.log = s.rs.log ∧ t.rs.written = s.rs.written ∧
          t.rs.discarded = s.rs.discarded + 1 ∧ t.rs.overwritten = s.rs.overwritten) ∧
        (c.logMode = .overwrite →
          t.rs.log = s.rs.log.drop 1 ++
            [{ sequence := s.rs.written.setWidth 16, record := r, announced := false }] ∧
          t.rs.written = s.rs.written + 1 ∧ t.rs.discarded = s.rs.discarded ∧
          t.rs.overwritten = s.rs.overwritten + 1)) ∧
      t.weather = s.weather ∧ t.tank = s.tank ∧ t.tables = s.tables ∧ t.member = s.member

/-! ## The line -/

/-- LINE_IDLE: the station follows the line, and offers if it has anything eligible and nothing of its own is on the
line. (That the line stays idle until a frame event is the model's choice, log entry 9.) -/
def Obligations.LineIdle : Prop :=
  ∀ (s : State) (c : Image), s.running = some c →
    ∃ t, exec .lineIdle s = .next t ∧ t.lc.following = true ∧
      (t.lc.idle = false → t.flight.isSome = true) ∧
      (t.lc.idle = true → t.flight.isSome = true ∨ t.lc.orphan.isSome = true ∨ ∀ id, t.eligible id = false) ∧
      SameOwn s t ∧ t.tables = s.tables ∧ t.member = s.member

/-- R177, R178: when a PENDING slot is eligible; that the LC offers the eligible slot of lowest key, and of lowest slot
number among equals, TABLE with the payload of that moment; and that with none eligible it offers nothing. From an offer
on no flag is newly latched yet (the model's mark for R158, log entry 45). (JOIN in LISTENING is the model's choice, log
entry 7. On a line that has been idle for a while, whether another station's frame
has begun by then is a free value, log entry 31: if it has, the slot waits.) -/
def Obligations.OfferTakesTheLowestKey : Prop :=
  ∀ (s : State) (c : Image),
    (∀ id, s.eligible id = true ↔
      s.slotPending id = true ∧ (s.slot id).backoff = none ∧
      (match s.mu.membership with
        | .linked => True
        | .joining => slotClass id = 4 ∨ slotClass id = 7 ∨ id = .join
        | .listening => slotClass id = 4 ∨ slotClass id = 7 ∨ id = .join
        | .loading => slotClass id = 4 ∨ slotClass id = 7
        | .isolated => slotClass id = 4 ∨ slotClass id = 7
        | _ => False) ∧
      (s.mu.membership = .linked → s.ac.activity = .dormant → 4 ≤ slotClass id) ∧
      (s.mu.membership = .linked → s.ac.activity = .waking → id ≠ .dormant ∧ (4 ≤ slotClass id ∨ id = .table)) ∧
      ((1 ≤ slotClass id ∧ slotClass id ≤ 3) ∨ id = .join → s.mu.lock = none) ∧
      (id = .join → s.mu.burstHold = none) ∧ (id = .claim → s.lc.spacing = none)) ∧
    (s.bestSlot = none ↔ ∀ id, s.eligible id = false) ∧
    (s.mayOffer = false ∨ s.bestSlot = none → ∀ fresh, s.offer c fresh = s) ∧
    ∀ id, s.mayOffer = true → s.bestSlot = some id →
      s.eligible id = true ∧
      (∀ j, s.eligible j = true → s.slotKey id ≤ s.slotKey j ∧
        (s.slotKey j = s.slotKey id → allSlots.idxOf id ≤ allSlots.idxOf j)) ∧
      ((s.offer c false).lc.idle = false ∧
        ((∀ j, (s.offer c false).slot j = s.slot j) ∨
          ∀ j, (s.offer c false).slot j = (s.offer c true).slot j)) ∧
      (s.offer c true).lc.idle = false ∧ (s.offer c true).flight = some id ∧ (s.offer c true).lc.newsSince = 0 ∧
      (∀ j, j ≠ id → (s.offer c true).slot j = s.slot j) ∧
      (∀ segment joiner old, (s.slot id).state = .pending (.table segment joiner old) →
        ((s.offer c true).slot id).state =
          .inFlight (.table segment joiner (s.segmentBytes c segment)) none false) ∧
      ∀ content, (s.slot id).state = .pending content → (∀ segment joiner old, content ≠ .table segment joiner old) →
        ((s.offer c true).slot id).state = .inFlight content none false

/-- LOST_ARBITRATION at any tally, and OWN_FRAME_ABORTED and FRAME_BREAK_OFF short of a line fault: the slot is
PENDING again, with its content joined or replaced by the next content, or empties if it was cancelled, its owner's
mark cleared (also when a next content waits: the model's choice, log entry 18); an abort raises the tally by 1. A
frame whose slot has been emptied just ends, BUSY too: no slot and no tally is touched. That the line is not idle
after FRAME_BREAK_OFF, until LINE_IDLE, is the model's choice, log entry 40. -/
def Obligations.FailedFlights : Prop :=
  (∀ (s : State) (c : Image) (found : SenderFindings) (i : Instr) (id : SlotId),
    i ∈ [Instr.lostArbitration, .ownFrameAborted found, .frameBreakOff] →
    Hears s c → s.flight = some id → i = .lostArbitration ∨ s.lc.tally + 1 < 8 →
    ∃ u, exec i s = .next (settle c s u) ∧ u.lc.idle = false ∧
      (id = .claim → s.flightCancelled .claim = true → u.sa.withdrawMark = false) ∧
      (id = .dormant → s.flightCancelled .dormant = true → u.ac.wakeMark = false) ∧
      u.lc.tally = (if i = .lostArbitration then s.lc.tally else s.lc.tally + 1) ∧
      (∀ j, j ≠ id → u.slot j = s.slot j) ∧
      (∀ f, (s.slot id).state = .inFlight f none false → u.slot id = { s.slot id with state := .pending f }) ∧
      (∀ f n, (s.slot id).state = .inFlight f (some n) false →
        u.slot id = { s.slot id with state := .pending (mergeContent f n) }) ∧
      (∀ f, (s.slot id).state = .inFlight f none true → u.slot id = Slot.blank) ∧
      (∀ f n, (s.slot id).state = .inFlight f (some n) true → u.slot id = { s.slot id with state := .pending n }) ∧
      u.tables = s.tables ∧ u.member = s.member ∧ u.spills = s.spills ∧ u.tank = s.tank ∧ u.weather = s.weather) ∧
  ∀ (s : State) (c : Image) (found : SenderFindings) (i : Instr),
    i ∈ [Instr.lostArbitration, .ownFrameAborted found, .frameBreakOff, .ownFrameBusy] →
    Hears s c → s.flight = none → s.lc.orphan.isSome = true →
    ∃ u, exec i s = .next (settle c s u) ∧ u.lc.orphan = none ∧ u.lc.idle = false ∧ u.lc.tally = s.lc.tally ∧
      (∀ j, u.slot j = s.slot j) ∧ u.tables = s.tables ∧ u.member = s.member

/-- OWN_FRAME_ABORTED and FRAME_BREAK_OFF that bring the tally to 8: SEND_FAILED is latched; LISTENING, JOINING,
LOADING and LINKED go to FALLBACK; ISOLATED stays, its slots emptied, its pending notices written again and its
service ended. (That the ALERT slot is left EMPTY there is the model's choice, log entry 27; that a WAKING which this
fallback ends makes no sample request and leaves the sample timer and window is its choice between two sentences of
R62, log entry 43. In FALLBACK nothing is sent, so no own frame is aborted; and no notice in flight is ever cancelled,
BoundsKept.) -/
def Obligations.EighthAbortIsALineFault : Prop :=
  ∀ (s : State) (c : Image) (found : SenderFindings) (i : Instr),
    i ∈ [Instr.ownFrameAborted found, .frameBreakOff] →
    Hears s c → s.flight.isSome = true → s.lc.tally = 7 → s.mu.membership ≠ .fallback →
    (∀ id ∈ noticeSlots, s.flightCancelled id = false) →
    ∃ t, exec i s = .next t ∧ t.lc.tally = 0 ∧ inSet t.rs.latched .sendFailed = true ∧
      (s.mu.membership = .isolated → t.mu.membership = .isolated ∧
        (∀ id, id ∉ replySlots → id ∉ noticeSlots → t.slot id = Slot.blank) ∧
        (∀ id ∈ [SlotId.noticeStart, .noticeClosed], (t.slot id).state =
          match s.pendingNotice id with
          | none => .empty
          | some content => .pending content) ∧
        (∀ content, s.pendingNotice .noticeCondition = some content → t.slotPending .noticeCondition = true) ∧
        (s.rs.serving = true → s.rs.queue ≠ [] → t.rs.queue.length < s.rs.queue.length) ∧
        t.tables = s.tables) ∧
      (s.mu.membership ≠ .isolated →
        t.mu.membership = .fallback ∧ OffTheTables t ∧ inSet t.rs.latched .lineLost = true ∧ t.ru.alerts = none ∧
        t.rs.queue = [] ∧ t.mu.quiet = some (1000 * c.travel)) ∧
      t.spills = s.spills ∧ t.tank = s.tank

/-- OWN_FRAME_BUSY: the tally stays; the slot is PENDING again, with its content joined or replaced by the next
content, and waits 100 ms; the fourth busy outcome abandons a reply; a slot that was cancelled empties, and waits 100
ms with a next content written after the cancel. BUSY_BACKOFF_EXPIRY and CLAIM_SPACING_EXPIRY: the timer stops, and
holds the slot back no longer. -/
def Obligations.BusyOutcomeAndLineTimers : Prop :=
  (∀ (s : State) (c : Image) (id : SlotId), s.running = some c → s.flight = some id →
    ∃ u, exec .ownFrameBusy s = .next (settle c s u) ∧ u.lc.tally = s.lc.tally ∧
      (∀ j, j ≠ id → u.slot j = s.slot j) ∧
      (∀ f, (s.slot id).state = .inFlight f none false →
        (isReplySlot id = false →
          u.slot id = { state := .pending f, backoff := some 100, busy := (s.slot id).busy }) ∧
        (isReplySlot id = true → (s.slot id).busy + 1 < 4 →
          u.slot id = { state := .pending f, backoff := some 100, busy := (s.slot id).busy + 1 }) ∧
        (isReplySlot id = true → 4 ≤ (s.slot id).busy + 1 → u.slot id = Slot.blank)) ∧
      (∀ f n, (s.slot id).state = .inFlight f (some n) false → isReplySlot id = false →
        u.slot id = { state := .pending (mergeContent f n), backoff := some 100, busy := (s.slot id).busy }) ∧
      (∀ f, (s.slot id).state = .inFlight f none true → u.slot id = Slot.blank) ∧
      (∀ f n, (s.slot id).state = .inFlight f (some n) true → isReplySlot id = false →
        u.slot id = { state := .pending n, backoff := some 100, busy := (s.slot id).busy }) ∧
      u.tables = s.tables ∧ u.member = s.member ∧ u.spills = s.spills ∧ u.tank = s.tank ∧ u.weather = s.weather) ∧
  ∀ (s : State) (c : Image), s.running = some c →
    (∀ id, (s.slot id).backoff.isSome = true →
      ∃ u, exec (.busyBackoffExpiry id) s = .next (settle c s u) ∧ u.slot id = { s.slot id with backoff := none } ∧
        (∀ j, j ≠ id → u.slot j = s.slot j) ∧ u.tables = s.tables ∧ u.member = s.member ∧ u.line = s.line) ∧
    (s.lc.spacing.isSome = true →
      ∃ u, exec .claimSpacingExpiry s = .next (settle c s u) ∧ u.lc.spacing = none ∧
        (∀ j, u.slot j = s.slot j) ∧ u.tables = s.tables ∧ u.member = s.member ∧ u.lc.tally = s.lc.tally)

/-- FRAME_ABORTED_OR_BUSY: the marks this station drives, R172's findings and R141's BUSY; the frame acts nowhere. A
frame received as it was sent draws no ABORT. In an own frame that is aborted it drives the marks of a receiver of the
frame it read, and ABORT also if it stopped sending: a station that stopped may have read another's QUERY that it
cannot queue. -/
def Obligations.MarksDriven : Prop :=
  (∀ (s : State) (c : Image) (r : Reception), Hears s c →
    ∃ t, exec (.frameAbortedOrBusy r) s = .next t ∧
      (t.lc.marks.abort = true ↔ r.followed = true ∧
        (r.bitFault = true ∨ 64 < r.length.toNat ∨ r.tail.length ≠ 8 * r.length.toNat + 16 ∨
          bitsOf 16 (crc (receivedBits r)).toNat ≠ r.tail.drop (8 * r.length.toNat))) ∧
      (t.lc.marks.busy = true ↔ r.followed = true ∧ r.cls = 6 ∧ r.sub = 0 ∧ r.addressee.toNat = c.station ∧
        (49 ≤ r.sender.toNat ∧ r.sender.toNat ≤ 62) ∧ s.mu.membership ≠ .fallback ∧ 4 ≤ s.rs.queue.length) ∧
      t.lc.idle = false ∧ SameOwn s t ∧ t.tables = s.tables ∧ t.member = s.member ∧ t.line = s.line) ∧
  (∀ (s : State) (c : Image) (found : SenderFindings), s.running = some c →
    s.flight.isSome = true ∨ s.lc.orphan.isSome = true →
    ∃ t, exec (.ownFrameAborted found) s = .next t ∧
      (t.lc.marks.abort = true ↔ found.stopped = true ∨ found.frame.bitFault = true ∨
        64 < found.frame.length.toNat ∨ found.frame.tail.length ≠ 8 * found.frame.length.toNat + 16 ∨
        bitsOf 16 (crc (receivedBits found.frame)).toNat ≠
          found.frame.tail.drop (8 * found.frame.length.toNat)) ∧
      (t.lc.marks.busy = true ↔ found.frame.cls = 6 ∧ found.frame.sub = 0 ∧
        found.frame.addressee.toNat = c.station ∧
        (49 ≤ found.frame.sender.toNat ∧ found.frame.sender.toNat ≤ 62) ∧ s.mu.membership ≠ .fallback ∧
        4 ≤ s.rs.queue.length)) ∧
  ∀ f : Frame, f.cls < 8 → f.sub < 8 → f.sender < 64 → f.addressee < 64 → f.payload.length ≤ 64 →
    receptionUnsound f.received = false

/-! ## Table bursts -/

/-- TABLE segment 0 at the joiner it is addressed to, in JOINING: LOADING if the P is equal, ISOLATED if it is not, and
nothing if the segment is unfit. (That the sender's dormant mark is clear in the roster just loaded is the model's
choice, log entry 12; that neither who sends the segment, a listener for one, nor its Q is judged, log entry 29.) -/
def Obligations.SegmentZero : Prop :=
  ∀ (s : State) (c : Image) (b : FrameBody), Hears s c → s.mu.membership = .joining →
    b.addressee.toNat = c.station → b.sender.toNat ≠ 0 → b.sender.toNat ≠ 63 →
    ∃ t, exec (.table 0 b) s = .next t ∧
      (b.payload.length = 50 → numAt b.payload 0 = c.pool →
        t.mu.membership = .loading ∧ t.mu.nextSegment = 1 ∧ t.sa.curtail = some (numAt b.payload 1) ∧
        t.sa.shares = none ∧ t.sa.claims = [] ∧
        (∀ n, n ≠ 0 → n ≠ b.sender.toNat → t.entry n = (rosterOfBytes b.payload).getD (n - 1) .blank) ∧
        (t.entry b.sender.toNat).dormant = false) ∧
      (b.payload.length = 50 → numAt b.payload 0 ≠ c.pool →
        t.mu.membership = .isolated ∧ OffTheTables t ∧ inSet t.rs.latched .configMismatch = true) ∧
      (b.payload.length ≠ 50 → t.mu.membership = .joining ∧ t.tables = s.tables)

/-- TABLE segments 1 to 3 at a LOADING station: the next one it expects, if fit, brings its part of the tables, the
last one the alert table and LINKED, with the own entry LINKED, a last-heard timer started for every other LINKED
entry and a stranding timer for every ABSENT one, and STATUS written; any other leaves the tables, the membership and
the segment expected as they were. (That the joiner still expects a segment of which an unfit one came, and takes a
later fit one, is the model's choice between two sentences of R200, log entry 44; that senders and doubled entries are
not judged, log entry 29.) -/
def Obligations.LoadingSegments : Prop :=
  ∀ (s : State) (c : Image) (segment : BitVec 2) (b : FrameBody), Hears s c → s.mu.membership = .loading →
    b.addressee.toNat = c.station → b.sender.toNat ≠ 0 → b.sender.toNat ≠ 63 →
    ∃ u, exec (.table segment b) s = .next (settle c s u) ∧
      (segment.toNat = s.mu.nextSegment → unfitSegment c.pool segment.toNat b.payload = false →
        (segment = 1 → u.sa.shares = some (b.payload.map shareOfByte) ∧ u.sa.claims = s.sa.claims ∧
          u.mu.nextSegment = 2 ∧ u.mu.membership = .loading) ∧
        (segment = 2 → u.sa.shares = s.sa.shares ∧
          u.sa.claims.Perm (s.sa.claims ++ claimsOfBytes b.payload 0 4 1) ∧
          u.mu.nextSegment = 3 ∧ u.mu.membership = .loading) ∧
        (segment = 3 → u.sa.shares = s.sa.shares ∧
          u.sa.claims.Perm (s.sa.claims ++ claimsOfBytes b.payload 1 48 33) ∧
          u.ru.alerts = some (alertsOfBytes c.alertLifetime b.payload) ∧ u.mu.membership = .linked ∧
          u.mu.failures = 0 ∧ u.mu.load = none ∧ u.mu.joinWait = none ∧ u.slotEmpty .status = false ∧
          (RestRule s →
            ((settle c s u).slot .status).state.newest = some (.status (settle c s u).statusValues)) ∧
          ∀ r, s.mu.roster = some r → 1 ≤ c.station → c.station ≤ r.length →
            u.entryState c.station = .linked ∧ u.rosterUrgency c.station = 0 ∧ (u.entry c.station).dormant = false ∧
            ∀ n, n ≠ c.station →
              u.entryState n = s.entryState n ∧ u.rosterUrgency n = s.rosterUrgency n ∧
              (n ≠ b.sender.toNat → (u.entry n).dormant = (s.entry n).dormant) ∧
              (n = b.sender.toNat → u.entryState n = .linked → (u.entry n).dormant = false) ∧
              (u.entryState n = .linked → (u.entry n).lastHeard =
                some (1000 * if (u.entry n).dormant then 3 * c.dormantPresence else c.absence)) ∧
              (u.entryState n = .absent → (u.entry n).stranding = some (1000 * c.stranding)))) ∧
      (¬ (segment.toNat = s.mu.nextSegment ∧ unfitSegment c.pool segment.toNat b.payload = false) →
        u.tables = s.tables ∧ u.mu.membership = .loading ∧ u.mu.nextSegment = s.mu.nextSegment)

/-- TABLE at the stations that are not its joiner: at a LINKED station the final segment to the lock's joiner ends the
lock with the joiner LINKED and the responder's TABLE slot EMPTY, and the responder's accepted segment is followed by
the next, or by none if the joiner's P differs; in LISTENING and JOINING it starts or ends the burst hold, unless it
is shorter than it requires. The joiner's entry is timed unless it is the station's own. (That none of these stations
judges who sends a TABLE, that a LINKED one judges no length, and that a listening or joining one takes its own P for
the length of segment 1 are the model's choices, log entry 29; that the own entry stays LINKED at the station's own
JOIN, log entry 46.) -/
def Obligations.TableElsewhere : Prop :=
  ∀ (s : State) (c : Image) (segment : BitVec 2) (b : FrameBody), Hears s c → b.sender.toNat ≠ 0 →
    b.sender.toNat ≠ 63 →
    ∃ u, exec (.table segment b) s = .next (settle c s u) ∧
      (s.mu.membership = .linked → u.tables = s.tables ∧ u.mu.membership = .linked ∧
        (∀ l, s.mu.lock = some l → segment = 3 → b.addressee.toNat = l.joiner →
          u.mu.lock = none ∧ (l.responder = c.station → u.slotEmpty .table = true) ∧
          ∀ r, s.mu.roster = some r → 1 ≤ l.joiner → l.joiner ≤ r.length →
            u.entryState l.joiner = .linked ∧ u.rosterUrgency l.joiner = 0 ∧
              (u.entry l.joiner).dormant = false ∧
              (u.entry l.joiner).lastHeard =
                if l.joiner = c.station then none else some (1000 * c.absence)) ∧
        ((segment ≠ 3 ∨ ∀ l, s.mu.lock = some l → b.addressee.toNat ≠ l.joiner) → u.mu.lock = s.mu.lock) ∧
        ∀ l old, s.mu.lock = some l → segment ≠ 3 → b.addressee.toNat = l.joiner →
          l.responder = c.station → OwnFrom s c (bodyFrame b 0 segment.toNat) .table →
          (s.slot .table).state = .inFlight old none false →
          (l.poolMatches = true →
            (u.slot .table).state = .pending (.table (segment.toNat + 1) l.joiner [])) ∧
          (l.poolMatches = false → u.slotEmpty .table = true)) ∧
      (s.mu.membership = .listening ∨ s.mu.membership = .joining → b.addressee.toNat ≠ c.station →
        isTank b.addressee.toNat = true →
        (tableLength c.pool segment.toNat ≤ b.payload.length →
          u.mu.burstHold = if segment = 3 then none else some 2000) ∧
        (b.payload.length < tableLength c.pool segment.toNat → u.mu.burstHold = s.mu.burstHold) ∧
        u.tables = s.tables ∧ u.mu.membership = s.mu.membership)

/-- What a station sends in a burst, read back: the roster (timers apart), the share table, the claim
entries and the alert table come back as they were sent, the ages in whole seconds. -/
def Obligations.BurstBringsTheTables : Prop :=
  ∀ (s : State) (c : Image) (r : List RosterEntry) (sh : List Share) (q : Nat) (al : List ZoneEntry),
    s.mu.roster = some r → s.sa.shares = some sh → s.sa.curtail = some q → s.ru.alerts = some al →
    r.length = 48 → al.length = 15 → q < 256 → c.pool < 256 →
    (∀ e ∈ r, e.urgency ≤ 7 ∧ (e.state ≠ .linked → e.dormant = false) ∧
      (e.state = .none → e.urgency = 0)) →
    (∀ x ∈ sh, ∀ n, x = .held n ∨ x = .stranded n → n < 64) →
    (∀ e ∈ s.sa.claims, e.claimant < 64 ∧ 1 ≤ e.remaining ∧ e.remaining ≤ 8) →
    (s.sa.claims.map Claim.rank).Perm ((List.range s.sa.claims.length).map (· + 1)) → s.sa.claims.length ≤ 48 →
    (∀ e ∈ al, e.grade = .none → e = .blank) →
    (∀ e ∈ al, e.grade ≠ .none → ∃ o a, e.origin = some o ∧ o < 64 ∧ e.age = some a ∧ a / 1000 < c.alertLifetime) →
    c.alertLifetime < 65536 →
    numAt (s.segmentBytes c 0) 0 = c.pool ∧ numAt (s.segmentBytes c 0) 1 = q ∧
      rosterOfBytes (s.segmentBytes c 0) = r.map (fun e => { e with lastHeard := none, stranding := none }) ∧
      (s.segmentBytes c 1).map shareOfByte = sh ∧
      (claimsOfBytes (s.segmentBytes c 2) 0 4 1 ++ claimsOfBytes (s.segmentBytes c 3) 1 48 33).Perm s.sa.claims ∧
      alertsOfBytes c.alertLifetime (s.segmentBytes c 3) =
        al.map fun e => { e with age := e.age.map fun a => 1000 * (a / 1000) }

/-! ## Absence -/

/-- ABSENT and RECLAIM at a LINKED station: a LINKED station that ABSENT names becomes ABSENT, its shares STRANDED and
its claim-list entry gone, and the station itself falls back if it is named; an ABSENT one that RECLAIM names becomes
NONE and its stranded shares are returned. Stations not named keep their entries. The named stations, and the sender
of either frame, are pruned from the station's own PENDING ABSENT set, those that RECLAIM names from its PENDING
RECLAIM set, also from a next content that the own frame's acceptance makes PENDING; a set of which none is left
empties its slot. -/
def Obligations.AbsentAndReclaim : Prop :=
  ∀ (s : State) (c : Image) (b : FrameBody), TakesFrom s c b.sender.toNat → s.mu.lock = none →
    6 ≤ b.payload.length →
    (∃ t, exec (.absent b) s = .next t ∧
      (c.station ∉ stationsOf b.payload →
        t.mu.membership = .linked ∧
        (∀ n, n ∈ stationsOf b.payload → s.isLinked n = true →
          t.entryState n = .absent ∧ (t.entry n).dormant = false ∧ (t.entry n).lastHeard = none ∧
          (t.entry n).stranding = some (1000 * c.stranding) ∧ t.hasClaim n = false ∧ t.holdings n = []) ∧
        (∀ n, n ∉ stationsOf b.payload → n ≠ b.sender.toNat → t.entry n = s.entry n) ∧
        PrunedFrom .absent (b.sender.toNat :: stationsOf b.payload) (s.slot .absent) (t.slot .absent) ∧
        (∀ f set k, OwnFrom s c (bodyFrame b 1 0) .absent →
          (s.slot .absent).state = .inFlight f (some (.absent set)) k →
          PrunedFrom .absent (b.sender.toNat :: stationsOf b.payload)
            { state := .pending (.absent set), backoff := none, busy := 0 } (t.slot .absent)) ∧
        t.sa.curtail = s.sa.curtail ∧
        ∀ sh : List Share, s.sa.shares = some sh → ∃ sh' : List Share, t.sa.shares = some sh' ∧ sh'.length = sh.length ∧
          ∀ (i : Nat) (x : Share), sh[i]? = some x → sh'[i]? = some (match x with
            | Share.held n =>
              if n ∈ stationsOf b.payload ∧ s.isLinked n = true then Share.stranded n else x
            | _ => x)) ∧
      (c.station ∈ stationsOf b.payload →
        t.mu.membership = .fallback ∧ OffTheTables t ∧ inSet t.rs.latched .lineLost = true ∧ t.rs.queue = [] ∧
        t.mu.quiet = some (1000 * c.travel))) ∧
    (∃ t, exec (.reclaim b) s = .next t ∧ t.mu.membership = .linked ∧
      (∀ n, n ∈ stationsOf b.payload → s.entryState n = .absent → t.entryState n = .none) ∧
      (∀ n, n ∉ stationsOf b.payload → n ≠ b.sender.toNat → t.entry n = s.entry n) ∧
      PrunedFrom .absent [b.sender.toNat] (s.slot .absent) (t.slot .absent) ∧
      PrunedFrom .reclaim (stationsOf b.payload) (s.slot .reclaim) (t.slot .reclaim) ∧
      (∀ f set k, OwnFrom s c (bodyFrame b 1 1) .reclaim →
        (s.slot .reclaim).state = .inFlight f (some (.reclaim set)) k →
        PrunedFrom .reclaim (stationsOf b.payload)
          { state := .pending (.reclaim set), backoff := none, busy := 0 } (t.slot .reclaim)) ∧
      ∀ sh q, s.sa.shares = some sh → s.sa.curtail = some q →
        Redistributed q
          (fun _ x => match x with
            | .stranded n => decide (n ∈ stationsOf b.payload) && decide (s.entryState n = .absent)
            | _ => false)
          sh s.sa.claims t)

/-! ## Shares -/

/-- R9: the FREE shares, in ascending index, go to the list's stations in its order, each as often as it waits; the
list goes on waiting for what is left; shares left over stay FREE and every other share stays as it is. -/
def Obligations.AllocationRule : Prop :=
  ∀ (sh : List Share) (cl : List Claim), (∀ e ∈ cl, 1 ≤ e.remaining) →
    (allocate sh cl).1.length = sh.length ∧
      (∀ (i : Nat) (x : Share), sh[i]? = some x → x ≠ Share.free → (allocate sh cl).1[i]? = some x) ∧
      (((List.range sh.length).filter fun i => decide (sh[i]? = some Share.free)).filterMap
          fun i => (allocate sh cl).1[i]?) =
        (waitingShares cl ++ List.replicate sh.length Share.free).take (sh.count Share.free) ∧
      waitingShares (allocate sh cl).2 = (waitingShares cl).drop (sh.count Share.free) ∧
      ((allocate sh cl).2 ≠ [] → Share.free ∉ (allocate sh cl).1)

/-- CURTAIL at a LINKED station: a level above P has no effect; otherwise it is the new level, FREE shares at or above
it become WITHHELD, WITHHELD ones below it become FREE and are handed out, and the station's own shares at or above it
join its outgoing set. A tank station's CURTAIL has none of this. -/
def Obligations.CurtailFrame : Prop :=
  ∀ (s : State) (c : Image) (b : FrameBody) (sh : List Share), Hears s c → s.mu.membership = .linked →
    b.sender.toNat ≠ 0 → b.sender.toNat ≠ 63 → 1 ≤ b.payload.length → s.sa.shares = some sh → sh.length ≤ 64 →
    ∃ t, exec (.curtail b) s = .next t ∧ t.mu.membership = .linked ∧
      ((isTank b.sender.toNat = true ∨ c.pool < numAt b.payload 0) → t.tables = s.tables) ∧
      (isListener b.sender.toNat = true → numAt b.payload 0 ≤ c.pool →
        t.sa.curtail = some (numAt b.payload 0) ∧
        (∀ i, i ∈ t.holdings c.station → numAt b.payload 0 ≤ i → i ∈ t.sa.outgoing) ∧
        ∃ moved : List Share, moved.length = sh.length ∧
          (∀ (i : Nat) (x : Share), sh[i]? = some x → moved[i]? = some
            (if x = .free ∨ x = .withheld then
              (if i < numAt b.payload 0 then Share.free else .withheld) else x)) ∧
          ((∃ i, sh[i]? = some .withheld ∧ i < numAt b.payload 0) →
            t.sa.shares = some (allocate moved s.sa.claims).1 ∧ t.sa.claims = (allocate moved s.sa.claims).2) ∧
          ((¬ ∃ i, sh[i]? = some .withheld ∧ i < numAt b.payload 0) →
            t.sa.shares = some moved ∧ t.sa.claims = s.sa.claims))

/-- YIELD, RELEASE and WITHDRAW from a LINKED station at a LINKED station: the named shares that the sender holds are
returned; a WITHDRAW removes the sender's entry and lowers the ranks above it. -/
def Obligations.ReturnFrames : Prop :=
  ∀ (s : State) (c : Image) (b : FrameBody) (sh : List Share) (q : Nat), TakesFrom s c b.sender.toNat →
    s.sa.shares = some sh → s.sa.curtail = some q →
    (1 ≤ b.payload.length → ∃ t, exec (.yield b) s = .next t ∧ t.mu.membership = .linked ∧
      Redistributed q (fun i x => decide (i = numAt b.payload 0) && decide (x = .held b.sender.toNat))
        sh s.sa.claims t) ∧
    (8 ≤ b.payload.length → ∃ t, exec (.release b) s = .next t ∧ t.mu.membership = .linked ∧
      Redistributed q (fun i x => decide (i ∈ sharesOf b.payload) && decide (x = .held b.sender.toNat))
        sh s.sa.claims t) ∧
    (∃ t, exec (.withdraw b) s = .next t ∧ t.mu.membership = .linked ∧ t.sa.shares = some sh ∧
      t.sa.curtail = some q ∧ t.hasClaim b.sender.toNat = false ∧
      (s.hasClaim b.sender.toNat = false → t.sa.claims = s.sa.claims) ∧
      ∀ e, s.claimOf b.sender.toNat = some e →
        t.sa.claims = (s.sa.claims.filter fun x => !decide (x.claimant = b.sender.toNat)).map
          fun x => if e.rank < x.rank then { x with rank := x.rank - 1 } else x)

/-- CLAIM from a LINKED station at a LINKED station where no lock stands: the sender's roster urgency is that of the
key; of the clipped count, FREE shares are taken in ascending index, and what is wanting becomes its entry; the list
stands in its order. The sender is pruned from a PENDING ABSENT set. -/
def Obligations.ClaimFrame : Prop :=
  ∀ (s : State) (c : Image) (sub : BitVec 3) (b : FrameBody) (sh : List Share) (r : List RosterEntry),
    TakesFrom s c b.sender.toNat → s.mu.lock = none → s.sa.shares = some sh → 1 ≤ b.payload.length →
    s.mu.roster = some r → r.length = 48 →
    let n := b.sender.toNat
    let count := min (min (numAt b.payload 0) 8) (8 - (s.holdings n).length)
    ∃ t, exec (.claim sub b) s = .next t ∧ t.mu.membership = .linked ∧
      t.rosterUrgency n = 7 - sub.toNat ∧ (∀ m, m ≠ n → t.entry m = s.entry m) ∧
      PrunedFrom .absent [n] (s.slot .absent) (t.slot .absent) ∧
      (OwnFrom s c (bodyFrame b 3 sub.toNat) .claim → t.lc.spacing = some 250 ∧ t.lc.tally = 0) ∧
      t.sa.curtail = s.sa.curtail ∧
      (t.sa.claims.Pairwise fun x y => t.rosterUrgency y.claimant < t.rosterUrgency x.claimant ∨
        (t.rosterUrgency x.claimant = t.rosterUrgency y.claimant ∧ x.rank ≤ y.rank)) ∧
      (count = 0 → t.sa.shares = some sh ∧ t.sa.claims.Perm s.sa.claims) ∧
      (0 < count → s.hasClaim n = true → t.sa.shares = some sh ∧
        t.sa.claims.Perm (s.sa.claims.map fun e => if e.claimant = n then { e with remaining := count } else e)) ∧
      (0 < count → s.hasClaim n = false →
        (∃ sh' : List Share, t.sa.shares = some sh' ∧ sh'.length = sh.length ∧
          ∀ (i : Nat) (x : Share), sh[i]? = some x →
            sh'[i]? = some (if x = .free ∧ (sh.take i).count Share.free < count then Share.held n else x)) ∧
        (count ≤ sh.count Share.free → t.sa.claims.Perm s.sa.claims) ∧
        (sh.count Share.free < count → t.sa.claims.Perm
          ({ claimant := n, remaining := count - sh.count Share.free, rank := s.sa.claims.length + 1 } ::
            s.sa.claims)))

/-- R24: the yielder. -/
def Obligations.YieldRule : Prop :=
  ∀ s : State,
    (s.sa.claims = [] → s.yielder = none) ∧
    ∀ h rest, s.sa.claims = h :: rest →
      (∀ n, s.yielder = some n ↔
        (1 ≤ n ∧ n ≤ 48 ∧ s.isCandidate h.claimant (s.rosterUrgency h.claimant) n = true ∧
          ∀ m, 1 ≤ m → m ≤ 48 → s.isCandidate h.claimant (s.rosterUrgency h.claimant) m = true →
            s.rosterUrgency n < s.rosterUrgency m ∨ (s.rosterUrgency n = s.rosterUrgency m ∧ m ≤ n))) ∧
      ∀ u n, s.isCandidate h.claimant u n = true ↔
        n ≠ h.claimant ∧ s.entryState n = .linked ∧ s.holdings n ≠ [] ∧ s.rosterUrgency n + 2 ≤ u

/-- Every allocation frame, whatever its effect and its sender: at a LINKED station it ends a lock and sets the
joiner's entry to NONE, unless it is the station's own, and the responder cancels its TABLE slot, which is EMPTY after
it; in JOINING and LOADING it returns the station to LISTENING, with what it had loaded gone and the failure count as
it was. (That the own entry stays LINKED is the model's reading, log entry 46.) -/
def Obligations.AllocationFramesSpoil : Prop :=
  ∀ (s : State) (c : Image) (k : BitVec 3) (b : FrameBody) (i : Instr), i ∈ allocationCommands k b → Hears s c →
    b.sender.toNat ≠ 0 → b.sender.toNat ≠ 63 →
    ∃ t, exec i s = .next t ∧
      (∀ l, s.mu.membership = .linked → s.mu.lock = some l → t.mu.lock = none ∧
        (l.joiner ≠ c.station → t.entryState l.joiner = .none) ∧
        (l.responder = c.station → t.slotEmpty .table = true)) ∧
      (s.mu.membership = .joining ∨ s.mu.membership = .loading →
        t.mu.membership = .listening ∧ t.mu.roster = none ∧ t.sa.shares = none ∧ t.sa.claims = [] ∧
        t.mu.failures = s.mu.failures ∧ t.mu.joinRecord = [] ∧ t.mu.populated = false ∧
        t.mu.newlyPopulated = false ∧ t.mu.listen = some (2000 * c.presence))

/-- R3, R37: an allocation frame from a tank station whose entry is not LINKED moves no share and no claim at a LINKED
station, and changes no roster entry but the joiner's of a lock it ends; at a station that listens, has fallen back or
is isolated an allocation frame changes neither the tables nor the membership. (That an ABSENT and a RECLAIM from such
a sender are wholly not applied is the model's choice, log entry 14; that the own entry stays as it is where the
lock's joiner is this station, log entry 46.) -/
def Obligations.UnheededAllocationFrames : Prop :=
  ∀ (s : State) (c : Image) (k : BitVec 3) (b : FrameBody) (i : Instr), i ∈ allocationCommands k b → Hears s c →
    b.sender.toNat ≠ 0 → b.sender.toNat ≠ 63 →
    ∃ t, exec i s = .next t ∧
      (s.mu.membership = .linked → isTank b.sender.toNat = true → s.isLinked b.sender.toNat = false →
        t.tables = s.tables ∧ t.mu.membership = .linked ∧
        ∀ n, (∀ l, s.mu.lock = some l → n ≠ l.joiner) ∨ n = c.station → t.entry n = s.entry n) ∧
      (s.mu.membership = .listening ∨ s.mu.membership = .fallback ∨ s.mu.membership = .isolated →
        t.tables = s.tables ∧ t.mu.membership = s.mu.membership)

/-- R25, R27, R30, R31, R33: what the SA does of its own after an accepted frame. The yield rule's yielder writes
YIELD for the highest of its shares that is not outgoing; while the standing release mark stands every own share goes
out, and when none is left, with no entry and both slots EMPTY, the mark is cleared and a PARKED machine is IDLE; a
PARKED station whose list becomes non-empty releases all. A share leaves the outgoing set when an own YIELD or RELEASE
that names it is accepted; an own CLAIM accepted under the standing withdraw mark is followed by WITHDRAW. After every
accepted frame each own share that the YIELD or RELEASE slot names is outgoing, one that has come back to the station
too. (What counts as a change of a roster urgency, and that the share that comes back is outgoing again, are the
model's choices, log entries 33 and 32.) -/
def Obligations.TheStationsOwnShares : Prop :=
  (∀ (s before : State) (c : Image), s.mu.membership ≠ .linked → s.afterFrame before c = s) ∧
  (∀ (s before : State) (c : Image), s.mu.membership = .linked →
    let t := s.afterFrame before c
    let own := s.holdings c.station
    let out := fun j => j ∈ s.sa.outgoing ∨ (j ∈ own ∧ j ∈ s.namedShares)
    t.tables = s.tables ∧ t.member = s.member ∧
    (∀ j, j < 64 → (j ∈ s.sa.outgoing → j ∈ t.sa.outgoing) ∧ (j ∈ own → j ∈ s.namedShares → j ∈ t.sa.outgoing)) ∧
    ((before.sa.claims ≠ [] ∨ s.sa.claims = [] ∨ s.ts.drain ≠ .parked ∨ own = []) →
      (s.sa.releaseMark = false → tablesChanged before s = true → s.yielder = some c.station →
        s.slotEmpty .yield = true → ∀ i, i < 64 → i ∈ own → ¬ out i →
        (∀ j ∈ own, ¬ out j → j ≤ i) →
        (t.slot .yield).state = .pending (.yield i) ∧ t.ts = s.ts ∧ t.sa.releaseMark = false ∧
          ∀ j, j < 64 → (j ∈ t.sa.outgoing ↔ out j ∨ j = i)) ∧
      (s.sa.releaseMark = false → (tablesChanged before s = false ∨ s.yielder ≠ some c.station ∨
        s.slotEmpty .yield = false ∨ ∀ j ∈ own, out j) →
        t = { s with sa := { s.sa with outgoing := t.sa.outgoing } } ∧ (∀ j, j ∈ t.sa.outgoing ↔ out j) ∧
        ((∀ j ∈ own, j ∈ s.namedShares → j ∈ s.sa.outgoing) → t = s)) ∧
      (s.sa.releaseMark = true → (∀ j, j < 64 → j ∈ own → j ∈ t.sa.outgoing) ∧
        ((∃ j ∈ own, j ∉ s.sa.outgoing) → t.slotEmpty .release = false) ∧
        (own = [] ∧ s.hasClaim c.station = false ∧ s.slotEmpty .claim = true ∧ s.slotEmpty .release = true →
          t.sa.releaseMark = false ∧
          (s.ts.drain = .parked → t.ts.drain = .idle ∧ t.ts.parkTimer = none) ∧
          (s.ts.drain ≠ .parked → t.ts = s.ts)) ∧
        (own ≠ [] ∨ s.hasClaim c.station = true ∨ s.slotEmpty .claim = false ∨ s.slotEmpty .release = false →
          t.sa.releaseMark = true ∧ t.ts = s.ts))) ∧
    (before.sa.claims = [] → s.sa.claims ≠ [] → s.ts.drain = .parked → own ≠ [] →
      ReleasesAll c s t ∧ t.ts.drain = .parked ∧ t.ts.parkTimer = none)) ∧
  (∀ (s : State) (c : Image),
    (s.slotEmpty .release = true →
      ((s.releaseAll c).slot .release).state = .pending (.release (s.holdings c.station))) ∧
    ∀ old, (s.slot .release).state = .pending (.release old) →
      ∃ set, ((s.releaseAll c).slot .release).state = .pending (.release set) ∧
        ∀ j, j < 64 → (j ∈ set ↔ j ∈ old ∨ j ∈ s.holdings c.station)) ∧
  ∀ (s : State) (c : Image) (b : FrameBody), Hears s c → isTank c.station = true →
    (∀ i set id, (i, id, set) ∈
        [(Instr.yield b, SlotId.yield, [numAt b.payload 0]), (.release b, .release, sharesOf b.payload)] →
      (if id = .yield then 1 else 8) ≤ b.payload.length →
      OwnFrom s c (bodyFrame b 2 (if id = .yield then 0 else 1)) id →
      ∃ t, exec i s = .next t ∧ ∀ j ∈ set, j ∉ t.holdings c.station → j ∉ t.sa.outgoing) ∧
    (∀ sub : BitVec 3, OwnFrom s c (bodyFrame b 3 sub.toNat) .claim → s.flightCancelled .claim = true →
      s.sa.withdrawMark = true → s.mu.membership = .linked →
      ∃ u, exec (.claim sub b) s = .next (settle c s u) ∧ u.sa.withdrawMark = false ∧
        (u.hasClaim c.station = true → u.slotEmpty .withdraw = false)) ∧
    ∀ (k : BitVec 3) (i : Instr) (t : State), i ∈ Instr.status b :: .join b :: .dormant b :: allocationCommands k b →
      exec i s = .next t → t.mu.membership = .linked → (t.sa.shares ≠ s.sa.shares ∨ t.sa.claims ≠ s.sa.claims) →
      s.slotEmpty .yield = true → t.yielder = some c.station → (∀ j ∈ t.holdings c.station, j < 64) →
      (∃ j ∈ t.holdings c.station, j ∉ t.sa.outgoing) →
      ∃ y, (t.slot .yield).state.newest = some (.yield y) ∧ y ∈ t.holdings c.station ∧ y ∈ t.sa.outgoing ∧
        ∀ j ∈ t.holdings c.station, j ∉ t.sa.outgoing → j < y

/-! ## The drain machine -/

/-- R76 to R83: the drain machine on a kept sample at an ACTIVE station (SENSOR_REPLY), and on the SA's report at the
end of every command of a LINKED station: IDLE to WANTING with its CLAIM, the release of shares held in IDLE, WANTING
to DRAINING or IDLE, DRAINING to WANTING or PARKED, the judging of the list in PARKED, and the ways out of PARKED.
(When a machine that parked with an entry judges the list, and that the claim condition is tested on leaving PARKED,
are the model's choices, log entry 16.) -/
def Obligations.DrainMachine : Prop :=
  (∀ (s : State) (c : Image) (r : SensorReply) (ch tk : Channel), s.running = some c →
    s.ts.window.isSome = true → readReply r = some (ch, tk) → s.ac.activity = .active →
    ∃ u, exec (.sensorReply r) s = .next (settle c s u) ∧ u.tables = s.tables ∧ u.member = s.member ∧
      (tk.quality = .failed → u.ts.drain = .idle ∧ u.ts.valve = 0 ∧ u.ts.parkTimer = none ∧
        (s.holdings c.station ≠ [] → ReleasesAll c s u) ∧ Withdraws c s u) ∧
      ∀ l, tk.level = some l →
        (s.ts.drain = .idle →
          ((c.claimLevel ≤ l ∨ (s.srm.readiness = .storm ∧ c.drawdown < l)) → s.mu.membership = .linked →
            s.holdings c.station = [] →
            u.ts.drain = .wanting ∧ u.sa.releaseMark = false ∧ u.slotEmpty .claim = false ∧
            (s.slotInFlight .claim = false →
              (u.slot .claim).state = .pending (.claim u.ts.urgency c.maxHold))) ∧
          (¬ (c.claimLevel ≤ l ∨ (s.srm.readiness = .storm ∧ c.drawdown < l)) ∨ s.mu.membership ≠ .linked ∨
            s.holdings c.station ≠ [] → u.ts.drain = .idle ∧ u.slot .claim = s.slot .claim)) ∧
        (s.ts.drain = .wanting →
          (l ≤ c.tankEmpty → u.ts.drain = .idle ∧ Withdraws c s u) ∧
          (c.tankEmpty < l → u.ts.drain = .wanting ∧ u.slot .claim = s.slot .claim)) ∧
        (s.ts.drain = .draining →
          (l ≤ c.tankEmpty → u.ts.drain = .parked ∧ u.ts.valve = 0 ∧ u.ts.parkTimer = none ∧ Withdraws c s u) ∧
          (c.tankEmpty < l → u.ts.drain = .draining ∧ u.slot .claim = s.slot .claim)) ∧
        (s.ts.drain = .parked →
          (s.sa.releaseMark = false → c.claimLevel ≤ l → u.ts.drain = .draining ∧ u.ts.parkTimer = none ∧
            u.slot .claim = s.slot .claim) ∧
          (s.sa.releaseMark = true ∨ l < c.claimLevel →
            u.ts.drain = .parked ∧ u.ts.parkTimer = s.ts.parkTimer))) ∧
  ∀ (c : Image) (before s : State),
    let t := settle c before s
    let own := s.holdings c.station
    (s.mu.membership ≠ .linked → t.ts.drain = s.ts.drain) ∧
    (s.mu.membership = .linked →
      (s.ts.drain = .idle → own ≠ [] → t.ts.drain = .idle ∧
        (s.sa.releaseMark = false → ReleasesAll c s t)) ∧
      (s.ts.drain = .idle → own = [] → s.ac.activity = .active →
        (before.mu.membership ≠ .linked ∨ before.ac.activity ≠ .active ∨ before.holdings c.station ≠ [] ∨
          before.srm.readiness ≠ s.srm.readiness ∨ before.ts.drain = .parked) →
        (t.ts.drain = .wanting ↔ ∃ l, s.tankNow = some l ∧
          (c.claimLevel ≤ l ∨ (s.srm.readiness = .storm ∧ c.drawdown < l))) ∧
        (t.ts.drain ≠ .wanting → t.ts.drain = .idle) ∧
        (t.ts.drain = .wanting → t.slotEmpty .claim = false ∧ t.sa.releaseMark = false)) ∧
      (s.ts.drain = .wanting → own ≠ [] → t.ts.drain = .draining) ∧
      (s.ts.drain = .wanting → own = [] → t.ts.drain = .wanting ∧
        (s.hasClaim c.station = false → s.slotEmpty .claim = true → s.slotEmpty .withdraw = true →
          t.slotEmpty .claim = false)) ∧
      (s.ts.drain = .draining → own ≠ [] → t.ts.drain = .draining) ∧
      (s.ts.drain = .draining → own = [] → t.ts.drain = .wanting ∧
        (s.hasClaim c.station = false → t.slotEmpty .claim = false)) ∧
      (s.ts.drain = .parked → own = [] → s.sa.releaseMark = false →
        t.ts.drain ≠ .parked ∧ t.ts.parkTimer = none) ∧
      (s.ts.drain = .parked → own ≠ [] ∨ s.sa.releaseMark = true → t.ts.drain = .parked ∧
        (s.ts.parkJudged = true ∨ s.sa.releaseMark = true ∨ s.hasClaim c.station = true →
          t.ts.parkTimer = s.ts.parkTimer ∧ t.sa.releaseMark = s.sa.releaseMark) ∧
        (s.ts.parkJudged = false → s.sa.releaseMark = false → s.hasClaim c.station = false →
          (s.sa.claims ≠ [] ∨ c.park = 0 → ReleasesAll c s t) ∧
          (s.sa.claims = [] → c.park ≠ 0 → t.ts.parkTimer = some (1000 * c.park) ∧
            t.sa.releaseMark = false))))

/-! ## What the RU, the RS and the AC write of their own -/

/-- R92, R93, R94, R156 to R159: a change of the local grade writes ALERT and starts or stops the refresh timer; at
FALLBACK and RESTART, once the slots are empty, a grade the line has not heard and every pending notice are written
again; an opening writes NOTICE-START, a closing NOTICE-CLOSED, and a flag newly latched and enabled joins the news set
and writes NOTICE-CONDITION, and is marked as newly latched since the last offer (the model's mark for R158, log entry
45). (That a notice rewritten while its old frame is still on the line stays pending is the
model's choice, log entry 38.) -/
def Obligations.AlertsAndNoticesWritten : Prop :=
  (∀ (s : State) (c : Image) (i : Instr) (time : Nat), s.running = some c →
    (i = .minuteBoundary ∧ s.seconds.toNat % 60 = 0) ∨
      (i = .rainPulse time ∧ ∀ p, s.ru.chatter = some p → p + 1000 ≤ time) →
    ∃ u, exec i s = .next (settle c s u) ∧
      (u.ru.localGrade = s.ru.localGrade → u.slot .alert = s.slot .alert ∧ u.ru.refresh = s.ru.refresh) ∧
      (u.ru.localGrade ≠ s.ru.localGrade →
        (u.slot .alert).state.newest = some (.alert c.zone u.ru.localGrade) ∧
        (s.slotInFlight .alert = false → u.slotPending .alert = true) ∧
        u.ru.refresh = (if u.ru.localGrade = .none then none
          else if s.ru.localGrade = .none then some (1000 * c.alertRefresh) else s.ru.refresh))) ∧
  (∀ (s : State) (c : Image) (b : FrameBody) (i : Instr), Hears s c →
    (i = .silenceTimerExpiry ∧ s.mu.membership = .linked ∧ s.mu.silence.isSome = true) ∨
      (i = .restart b ∧ isListener b.sender.toNat = true ∧ b.addressee.toNat = c.station) →
    (∀ id ∈ noticeSlots, s.flightCancelled id = false) →
    ∃ t, exec i s = .next t ∧
      (t.slot .alert).state = (if s.ru.localGrade ≠ .none ∨ s.ru.localGrade ≠ s.ru.lastSent
        then .pending (.alert c.zone s.ru.localGrade) else .empty) ∧
      (∀ id ∈ [SlotId.noticeStart, .noticeClosed], (t.slot id).state =
        match s.pendingNotice id with
        | none => .empty
        | some content => .pending content) ∧
      (∀ content, s.pendingNotice .noticeCondition = some content → t.slotPending .noticeCondition = true) ∧
      ∀ id, id ≠ .alert → id ∉ noticeSlots → t.slot id = Slot.blank) ∧
  (∀ (s : State) (c : Image) (ch : Channel) (l : Nat), judgeSample c.crest ch s.ts.tide = .spilling l →
    s.sc.episode = .onset → c.onsetCount ≤ s.sc.onsetCounter + 1 →
    let t := s.spillSample c ch
    (c.noticeTarget = 0 → t.slot .noticeStart = s.slot .noticeStart) ∧
    (c.noticeTarget ≠ 0 → ∀ r, t.sc.record = some r →
      (t.slot .noticeStart).state.newest =
        some (.noticeStart c.noticeTarget r.episode r.start r.period r.stormPart.isSome r.sensor))) ∧
  (∀ (s : State) (c : Image) (r : SpillRecord), s.running = some c → s.sc.merge.isSome = true →
    s.sc.record = some r →
    ∃ u, exec .mergeTimerExpiry s = .next (settle c s u) ∧
      (c.noticeTarget = 0 → u.slot .noticeClosed = s.slot .noticeClosed) ∧
      (c.noticeTarget ≠ 0 → (u.slot .noticeClosed).state.newest = some (.noticeClosed c.noticeTarget
        (if s.rs.log.length < 32 ∨ c.logMode = .overwrite then some (s.rs.written.setWidth 16) else none) r))) ∧
  ∀ (s : State) (c : Image) (f : Flag),
    let t := s.latch c f
    (inSet s.rs.latched f = true → t = s) ∧
    (inSet s.rs.latched f = false →
      (∀ g, inSet t.rs.latched g = (inSet s.rs.latched g || decide (g = f))) ∧
      (c.noticeTarget = 0 ∨ inSet c.noticeMask f = false → t.rs.news = s.rs.news ∧ t.lc = s.lc) ∧
      (c.noticeTarget ≠ 0 → inSet c.noticeMask f = true →
        (∀ g, inSet t.rs.news g = (inSet s.rs.news g || decide (g = f))) ∧
        (∀ g, inSet t.lc.newsSince g = (inSet s.lc.newsSince g || decide (g = f))) ∧
        (t.slot .noticeCondition).state.newest =
          some (.noticeCondition c.noticeTarget t.rs.news t.rs.latched) ∧
        ∀ id, id ≠ .noticeCondition → t.slot id = s.slot id))

/-- R161, R162: Table 8-2; the dormancy delay starts and stops with its conditions, and a failed condition stops a
PENDING DORMANT and marks one in flight, through every step; a wake trigger marks one in flight and cancels it. R84,
R160, R167: through every step under the load rule (which CountRuleKept says every step keeps) a DORMANT or WAKING
station is LINKED with its drain machine IDLE (log entry 36). -/
def Obligations.DormancyDelayKept : Prop :=
  (∀ s t : State, DelayRule s → step s = .next t → DelayRule t) ∧
  (∀ s t : State, LoadRule s → RestRule s → step s = .next t → RestRule t) ∧
  (∀ (s : State) (c : Image), s.dormancyConditions c = true ↔
    s.mu.membership = .linked ∧ s.ts.drain = .idle ∧ s.holdings c.station = [] ∧ s.hasClaim c.station = false ∧
    s.ts.inlet = .shut ∧ s.srm.readiness = .quiet ∧ s.ru.localGrade = .none ∧ s.sc.episode = .clear ∧
    ∀ id, id ≠ .status → id ≠ .dormant → s.slotEmpty id = true) ∧
  (∀ s : State, s.enteringInFlight = true ↔
    s.slotInFlight .dormant = true ∧ (s.flightCancelled .dormant = false ∨ s.ac.wakeMark = true)) ∧
  ∀ (s : State) (c : Image) (time : Nat), s.running = some c → s.ac.activity = .active →
    s.enteringInFlight = true → (∀ p, s.ru.chatter = some p → p + 1000 ≤ time) →
    ∃ t, exec (.rainPulse time) s = .next t ∧ t.ac.activity = .active ∧ t.ac.wakeMark = true ∧
      t.flightCancelled .dormant = true

/-- R113, R196, R198, R193, R194: the lamp, the status line, the inlet gate and the valve lines, computed from the
state; the level of lamp and status line at so many ms after their pattern was taken up (which moment that is, is not
in State: log entry 24); and what all of them show in DOWN, from power-on and a reset-line pulse on and through every
step. -/
def Obligations.Outputs : Prop :=
  (∀ s : State,
    s.lampPattern = (if s.ts.tideLock = true then .fastFlash
      else match s.srm.readiness with
        | .quiet => .off
        | .storm => .steady
        | _ => .slowFlash) ∧
    (s.statusPattern = .down ↔ s.mu.membership = .down) ∧
    (s.statusPattern = .joining ↔
      s.mu.membership = .listening ∨ s.mu.membership = .joining ∨ s.mu.membership = .loading) ∧
    (s.statusPattern = .linked ↔ s.mu.membership = .linked) ∧
    (s.statusPattern = .fallenOut ↔ s.mu.membership = .fallback ∨ s.mu.membership = .isolated) ∧
    (s.inletOutput = true ↔ s.ts.inlet = .opened) ∧
    (s.ts.valve ≤ 8 → s.valveOutput.toNat = s.ts.valve)) ∧
  (∀ (s : State) (since : Nat),
    (s.lampPattern = .off → s.lampOutput since = false) ∧
    (s.lampPattern = .steady → s.lampOutput since = true) ∧
    (s.lampPattern = .slowFlash → (s.lampOutput since = true ↔ since % 2000 < 1000)) ∧
    (s.lampPattern = .fastFlash → (s.lampOutput since = true ↔ since % 500 < 250)) ∧
    (s.statusPattern = .down → (s.statusOutput since = true ↔ since % 2000 < 100)) ∧
    (s.statusPattern = .joining → (s.statusOutput since = true ↔ since % 1000 < 500)) ∧
    (s.statusPattern = .linked → s.statusOutput since = true) ∧
    (s.statusPattern = .fallenOut → (s.statusOutput since = true ↔ since % 2000 < 1900))) ∧
  (∀ s t : State, DownRule s → step s = .next t → DownRule t) ∧
  (∀ s : State, DownRule s → s.mu.membership = .down →
    (∀ since, s.lampOutput since = false) ∧ s.statusPattern = .down ∧ s.inletOutput = true ∧ s.valveOutput = 0) ∧
  (∀ (s : State) (c : Image), ValveRule s → HoldRule s → s.running = some c → s.ts.valve ≤ 8) ∧
  ∀ (s : State) (i : Instr), i = .powerOn ∨ i = .supplyBelowThreshold ∨ (i = .resetLinePulse ∧ s.supplyGood = true) →
    ∃ t, exec i s = .next t ∧ (∀ since, t.lampOutput since = false) ∧ t.statusPattern = .down ∧
      t.inletOutput = true ∧ t.valveOutput = 0

/-! ## Hearing -/

/-- RECORD, NOREC, COUNTS, CONDITIONS and the frames that no block applies: the sender's mark clears and its
last-heard timer restarts, the sender is pruned from a PENDING ABSENT set, the silence timer restarts and the presence
timer does not, a tank station's frame of an unlisted sub-kind of class 0, 4 or 5 sets the populated marks, and an own
reply empties its slot. (That a frame which bears the station's own number and is not its own frame restarts the
silence timer, and that such a frame sets the populated marks, are the model's choices, log entry 26.) -/
def Obligations.FramesThatAreOnlyHeard : Prop :=
  ∀ (s : State) (c : Image) (k : BitVec 3) (b : FrameBody) (i : Instr), i ∈ heardOnlyCommands k b → Hears s c →
    b.sender.toNat ≠ 0 → b.sender.toNat ≠ 63 →
    ∃ u, exec i s = .next (settle c s u) ∧
      (s.isLinked b.sender.toNat = true → (u.entry b.sender.toNat).dormant = false ∧
        (s.mu.membership = .linked → b.sender.toNat ≠ c.station →
          (u.entry b.sender.toNat).lastHeard = some (1000 * c.absence))) ∧
      (∀ n, n ≠ b.sender.toNat → u.entry n = s.entry n) ∧
      u.entryState b.sender.toNat = s.entryState b.sender.toNat ∧
      u.rosterUrgency b.sender.toNat = s.rosterUrgency b.sender.toNat ∧
      (s.flight = none → s.lc.orphan = none →
        u.mu.silence = (s.mu.silence.map fun _ => 1000 * c.silence) ∧ u.mu.presence = s.mu.presence) ∧
      (isTank b.sender.toNat = true → PrunedFrom .absent [b.sender.toNat] (s.slot .absent) (u.slot .absent)) ∧
      (i ∈ [Instr.unlistedSubKindFrame 0 k b, .unlistedSubKindFrame 4 k b, .unlistedSubKindFrame 5 k b] →
        isTank b.sender.toNat = true →
        (s.mu.membership = .listening → u.mu.populated = true) ∧
        (s.mu.membership = .joining → u.mu.newlyPopulated = true)) ∧
      (∀ j id f, (i, j) ∈ [(Instr.record b, 0), (.norec b, 1), (.counts b, 2), (.conditions b, 3)] →
        OwnFrom s c (bodyFrame b 7 j) id → (s.slot id).state = .inFlight f none false →
        u.slot id = Slot.blank ∧ u.lc.tally = 0) ∧
      u.mu.membership = s.mu.membership ∧ u.mu.lock = s.mu.lock ∧ u.tables = s.tables ∧ u.spills = s.spills ∧
      u.tank = s.tank ∧ u.weather = s.weather ∧ u.chip = s.chip

/-! ## ALERT -/

/-- ALERT from a tank station with a grade, for zone 1 to 15 (in bits 3 to 0 of its byte, whatever the others hold:
the model's choice, log entry 13): applied to the zone's entry or passed over by R96; for a heeded zone an alert event
and a wake trigger follow; an own one is the last sent grade. An ALERT that R96 gives no effect leaves the table. (For
a heeded zone Climbs fixes, and for another this statement keeps, the model's own mark of the instant at which the
step window started: the model's choice, log entry 41.) -/
def Obligations.AlertFrame : Prop :=
  ∀ (s : State) (c : Image) (sub : BitVec 3) (b : FrameBody), Hears s c → b.sender.toNat ≠ 0 →
    b.sender.toNat ≠ 63 → 1 ≤ b.payload.length →
    let zone := numAt b.payload 0 % 16
    let grade := gradeOf (3 - sub.toNat)
    ∃ t, exec (.alert sub b) s = .next t ∧ t.mu.membership = s.mu.membership ∧ t.tables = s.tables ∧
      t.books = s.books ∧ t.held = s.held ∧ (s.ac.activity ≠ .dormant → t.tank = s.tank) ∧
      t.ru.localGrade = s.ru.localGrade ∧ t.ru.ring = s.ru.ring ∧ t.ru.current = s.ru.current ∧
      (isListener b.sender.toNat = true ∨ zone = 0 ∨ 3 < sub.toNat → t.ru.alerts = s.ru.alerts) ∧
      (isTank b.sender.toNat = true → zone ≠ 0 → sub.toNat ≤ 3 →
        (∀ z, z ≠ zone → t.zoneEntry z = s.zoneEntry z) ∧
        (∀ l, s.ru.alerts = some l → l.length = 15 →
          t.zoneEntry zone =
            if (s.zoneEntry zone).grade = .none ∨ (s.zoneEntry zone).grade.code ≤ grade.code ∨
                (s.zoneEntry zone).origin = some b.sender.toNat then
              { grade := grade, origin := some b.sender.toNat,
                age := if grade = .none then none else some 0 }
            else s.zoneEntry zone) ∧
        (isHeeded c zone = true → Climbs c s t ∧
          (grade ≠ .none → s.ac.activity = .dormant → t.ac.activity = .waking)) ∧
        (isHeeded c zone = false → t.srm.readiness = s.srm.readiness ∧ t.srm.stepWindow = s.srm.stepWindow ∧
          t.srm.stepFresh = s.srm.stepFresh ∧ t.srm.trigger = s.srm.trigger ∧ t.sc = s.sc) ∧
        (OwnFrom s c (bodyFrame b 4 sub.toNat) .alert → t.ru.lastSent = grade ∧
          (s.ru.localGrade ≠ .none → t.ru.refresh = some (1000 * c.alertRefresh))))

/-! ## JOIN -/

/-- JOIN outside LINKED: the station's own takes it to JOINING; another station's goes into the record and starts the
burst hold; and one with the station's own number that is not its own isolates it, from LINKED too. -/
def Obligations.JoinHeardAndClash : Prop :=
  ∀ (s : State) (c : Image) (b : FrameBody), Hears s c → isTank b.sender.toNat = true → 1 ≤ b.payload.length →
    ∃ t, exec (.join b) s = .next t ∧
      (s.mu.membership = .listening ∨ s.mu.membership = .joining → OwnFrom s c (bodyFrame b 5 0) .join →
        t.mu.membership = .joining ∧ t.mu.joinWait = some 3000 ∧ t.mu.load = some 2000 ∧
        t.mu.joinRecord = s.mu.joinRecord ++ [c.station]) ∧
      (s.mu.membership = .listening ∨ s.mu.membership = .joining → Foreign s c (bodyFrame b 5 0) →
        b.sender.toNat ≠ c.station →
        t.mu.membership = s.mu.membership ∧ t.mu.burstHold = some 2000 ∧ t.tables = s.tables ∧
        t.mu.joinRecord = s.mu.joinRecord ++ [b.sender.toNat]) ∧
      (s.mu.membership ≠ .isolated → Foreign s c (bodyFrame b 5 0) → b.sender.toNat = c.station →
        t.mu.membership = .isolated ∧ OffTheTables t ∧ inSet t.rs.latched .duplicate = true ∧
        t.spills = s.spills) ∧
      (s.mu.membership = .loading ∨ s.mu.membership = .fallback ∨ s.mu.membership = .isolated →
        b.sender.toNat ≠ c.station → t.mu.membership = s.mu.membership ∧ t.tables = s.tables)

/-- JOIN at a LINKED station, another's or its own: ignored while a lock stands; otherwise the joiner's shares come
back and its claim goes if its entry was LINKED or ABSENT, its entry becomes JOINING, the lock begins, and the
lowest-numbered other LINKED station whose mark is clear, or the lowest-numbered other LINKED one, is the responder;
at the responder the burst starts. The joiner is pruned from a PENDING ABSENT set, under a standing lock too (as any
frame from it would do: log entry 34), and where no lock stands from a PENDING RECLAIM set. (That at the station's own
JOIN its own entry stays LINKED and untimed, and that the responder is another than the joiner there too, are the
model's reading, log entry 46.) -/
def Obligations.JoinAtALinkedStation : Prop :=
  ∀ (s : State) (c : Image) (b : FrameBody) (r : List RosterEntry) (sh : List Share) (q : Nat), Hears s c →
    s.mu.membership = .linked → isTank b.sender.toNat = true →
    b.sender.toNat ≠ c.station ∨ OwnFrom s c (bodyFrame b 5 0) .join → 1 ≤ b.payload.length →
    s.mu.roster = some r → r.length = 48 → s.sa.shares = some sh → s.sa.curtail = some q →
    ∃ u, exec (.join b) s = .next (settle c s u) ∧ u.mu.membership = .linked ∧
      (∀ n, n ≠ b.sender.toNat → u.entry n = s.entry n) ∧
      PrunedFrom .absent [b.sender.toNat] (s.slot .absent) (u.slot .absent) ∧
      (s.mu.lock.isSome = true → u.mu.lock = s.mu.lock ∧ u.tables = s.tables ∧
        u.entryState b.sender.toNat = s.entryState b.sender.toNat ∧
        ∀ set, (s.slot .reclaim).state = .pending (.reclaim set) → u.slot .reclaim = s.slot .reclaim) ∧
      (s.mu.lock = none →
        PrunedFrom .reclaim [b.sender.toNat] (s.slot .reclaim) (u.slot .reclaim) ∧
        (u.entry b.sender.toNat).dormant = false ∧
        (b.sender.toNat ≠ c.station → u.entryState b.sender.toNat = .joining ∧
          (u.entry b.sender.toNat).lastHeard = none ∧ (u.entry b.sender.toNat).stranding = none) ∧
        (b.sender.toNat = c.station → u.entryState c.station = s.entryState c.station ∧
          (u.entry c.station).lastHeard = (s.entry c.station).lastHeard ∧
          (u.entry c.station).stranding = (s.entry c.station).stranding) ∧
        (s.entryState b.sender.toNat = .linked ∨ s.entryState b.sender.toNat = .absent →
          Redistributed q
            (fun _ x => decide (x = .held b.sender.toNat) || decide (x = .stranded b.sender.toNat))
            sh (removeClaim b.sender.toNat s.sa.claims) u) ∧
        (s.entryState b.sender.toNat = .none ∨ s.entryState b.sender.toNat = .joining →
          u.tables = s.tables) ∧
        ∃ l, u.mu.lock = some l ∧ l.joiner = b.sender.toNat ∧
          (l.poolMatches = true ↔ numAt b.payload 0 = c.pool) ∧
          l.responder ≠ l.joiner ∧
          (∀ n, n ≠ l.joiner → u.isLinked n = true → (u.entry n).dormant = false →
            u.isLinked l.responder = true ∧ (u.entry l.responder).dormant = false ∧ l.responder ≤ n) ∧
          ((∀ n, n ≠ l.joiner → u.isLinked n = true → (u.entry n).dormant = true) →
            ∀ n, n ≠ l.joiner → u.isLinked n = true → u.isLinked l.responder = true ∧ l.responder ≤ n) ∧
          (l.responder = c.station → u.slotEmpty .table = false ∧
            (s.ac.activity = .dormant → u.ac.activity = .waking)))

/-! ## STATUS and DORMANT -/

/-- STATUS and DORMANT from a LINKED station, in LINKED and LOADING: a STATUS sets the sender's urgency and clears its
mark, a DORMANT sets its mark and leaves its urgency; the last-heard timer restarts against the limit of the mark, and
the sender is pruned from a PENDING ABSENT set. At a station that is LINKED after it, every accepted frame of a tank
station, of any class, so prunes its sender (with those it names, if it is an ABSENT: AbsentAndReclaim), and every own
one restarts the presence timer, with the length of the activity state the station is then in. An own STATUS while
DORMANT queues the re-assertion; an own DORMANT takes the station into DORMANT, or with the wake mark into WAKING, the
drain machine IDLE in both and a PENDING CLAIM gone. (That a machine which a sample took to WANTING during the flight
gives its claim up so is the model's reading, log entry 36.) -/
def Obligations.PresenceFrames : Prop :=
  (∀ (s : State) (c : Image) (segment : BitVec 2) (k : BitVec 3) (b : FrameBody) (i : Instr) (f : Frame),
    (i, f) ∈ tankFrameCommands segment k b → Hears s c → isTank b.sender.toNat = true →
    ∃ t, exec i s = .next t ∧ (t.mu.membership = .linked →
      ((s.arrival c f).own = true →
        t.mu.presence = some (1000 * if t.ac.activity = .dormant then c.dormantPresence else c.presence)) ∧
      (i ≠ .absent b → PrunedFrom .absent [b.sender.toNat] (s.slot .absent) (t.slot .absent)))) ∧
  ∀ (s : State) (c : Image) (b : FrameBody) (r : List RosterEntry), Hears s c →
    s.mu.membership = .linked ∨ s.mu.membership = .loading → isTank b.sender.toNat = true →
    s.mu.roster = some r → r.length = 48 → s.isLinked b.sender.toNat = true →
    (3 ≤ b.payload.length →
      ∃ u, exec (.status b) s = .next (settle c s u) ∧
        u.rosterUrgency b.sender.toNat = numAt b.payload 0 % 8 ∧ (u.entry b.sender.toNat).dormant = false ∧
        u.entryState b.sender.toNat = .linked ∧
        (s.mu.membership = .linked → b.sender.toNat ≠ c.station →
          (u.entry b.sender.toNat).lastHeard = some (1000 * c.absence)) ∧
        PrunedFrom .absent [b.sender.toNat] (s.slot .absent) (u.slot .absent) ∧
        (∀ n, n ≠ b.sender.toNat → u.entry n = s.entry n) ∧ u.sa.shares = s.sa.shares ∧
        u.sa.claims.Perm s.sa.claims ∧
        (u.sa.claims.Pairwise fun x y => u.rosterUrgency y.claimant < u.rosterUrgency x.claimant ∨
          (u.rosterUrgency x.claimant = u.rosterUrgency y.claimant ∧ x.rank ≤ y.rank)) ∧
        (OwnFrom s c (bodyFrame b 5 1) .status → s.ac.activity = .dormant → u.slotEmpty .dormant = false)) ∧
    ∃ u, exec (.dormant b) s = .next (settle c s u) ∧
      u.rosterUrgency b.sender.toNat = s.rosterUrgency b.sender.toNat ∧
      (u.entry b.sender.toNat).dormant = true ∧ u.entryState b.sender.toNat = .linked ∧
      (s.mu.membership = .linked → b.sender.toNat ≠ c.station →
        (u.entry b.sender.toNat).lastHeard = some (1000 * (3 * c.dormantPresence))) ∧
      PrunedFrom .absent [b.sender.toNat] (s.slot .absent) (u.slot .absent) ∧
      (∀ n, n ≠ b.sender.toNat → u.entry n = s.entry n) ∧ u.tables = s.tables ∧
      (OwnFrom s c (bodyFrame b 5 2) .dormant → s.mu.membership = .linked → s.ac.activity = .active →
        (s.ac.wakeMark = true ∨ s.flightCancelled .dormant = false → u.ts.drain = .idle ∧
          (s.ts.drain ≠ .idle → s.slotPending .claim = true → u.slotEmpty .claim = true)) ∧
        (s.ac.wakeMark = false → s.flightCancelled .dormant = false →
          u.ac.activity = .dormant ∧ u.ts.sampleTimer = some (1000 * c.dormantSample) ∧
          u.mu.presence = some (1000 * c.dormantPresence) ∧ (settle c s u).ts.urgency = 0) ∧
        (s.ac.wakeMark = true →
          u.ac.activity = .waking ∧ u.ac.recovery = some (1000 * c.wakeRecovery) ∧ u.ac.wakeMark = false ∧
          u.ts.sampleTimer = some (1000 * c.sampleInterval) ∧ u.slotEmpty .status = false))

/-! ## Queries and records -/

/-- QUERY from a listener to this station: with room it joins the queue and wakes a DORMANT station; at a full queue
this station drives BUSY and nothing is queued. In FALLBACK, or addressed elsewhere, it is not taken. (That at a full
queue nothing else happens either, not even the hearing of the frame, is the model's deduction, log entry 19.) -/
def Obligations.QueryFrame : Prop :=
  ∀ (s : State) (c : Image) (b : FrameBody), Hears s c → isListener b.sender.toNat = true →
    ∃ u, exec (.query b) s = .next (settle c s u) ∧
      (b.addressee.toNat = c.station → s.mu.membership ≠ .fallback → s.rs.queue.length < 4 →
        u.rs.queue = s.rs.queue ++ [{ requester := b.sender.toNat, kind := queryKindOf b.payload }] ∧
        u.lc.marks.busy = false ∧ (s.ac.activity = .dormant → u.ac.activity = .waking)) ∧
      (b.addressee.toNat = c.station → s.mu.membership ≠ .fallback → 4 ≤ s.rs.queue.length →
        u.rs.queue = s.rs.queue ∧ u.lc.marks.busy = true ∧ u.member = s.member ∧ u.ac.activity = s.ac.activity) ∧
      (b.addressee.toNat ≠ c.station ∨ s.mu.membership = .fallback →
        u.rs.queue = s.rs.queue ∧ u.lc.marks.busy = false ∧ u.ac.activity = s.ac.activity) ∧
      u.tables = s.tables ∧ u.spills = s.spills ∧ u.held = s.held ∧ (s.ac.activity ≠ .dormant → u.tank = s.tank) ∧
      u.weather = s.weather

/-- R143 to R147, R149: what the service of a request writes into the reply slots, a group's records from the named
sequence upward with wrap within the group; its end; and that every step leaves the service run as far as it goes. -/
def Obligations.RequestService : Prop :=
  (∀ s t : State, ServiceRule s → step s = .next t → ServiceRule t) ∧
  ∀ (s : State) (c : Image) (q : Request) (rest : List Request), s.rs.queue = q :: rest →
    (s.rs.serving = false → (∀ id ∈ replySlots, s.slot id = Slot.blank) →
      (s.serviceMove c).rs.serving = true ∧ (s.serviceMove c).rs.queue = s.rs.queue ∧
      (q.kind = .counts → ((s.serviceMove c).slot .reply0).state = .pending (.reply q.requester (.counts
        { total := s.sc.total, period := s.sc.period, periodCount := s.sc.periodCount,
          periodSeconds := s.sc.periodSeconds, written := s.rs.written, discarded := s.rs.discarded,
          overwritten := s.rs.overwritten, episode := s.sc.episode, seconds := s.seconds }))) ∧
      (q.kind = .conditions → ∃ standing,
        ((s.serviceMove c).slot .reply0).state = .pending (.reply q.requester (.conditions s.rs.latched standing)) ∧
        ∀ f, inSet standing f = s.standing c f) ∧
      (q.kind = .unknown → ∀ id ∈ replySlots, (s.serviceMove c).slotEmpty id = true) ∧
      (∀ n, q.kind = .records n → (∀ x ∈ s.rs.log, x.sequence ≠ n) →
        ∃ range, ((s.serviceMove c).slot .reply0).state = .pending (.reply q.requester (.norec n range)) ∧
          (s.rs.log = [] → range = none) ∧
          ∀ oldest newest, s.rs.log.head? = some oldest → s.rs.log.getLast? = some newest →
            range = some (oldest.sequence, newest.sequence)) ∧
      (∀ n, q.kind = .records n → (∃ x ∈ s.rs.log, x.sequence = n) →
        let group : List Half := (List.range 4).map fun j => BitVec.ofNat 16 (4 * (n.toNat / 4) + (n.toNat + j) % 4)
        let found := group.filterMap fun m => s.rs.log.find? fun x => decide (x.sequence = m)
        ∀ k id, replySlots[k]? = some id →
          (∀ y, found[k]? = some y → ((s.serviceMove c).slot id).state =
            .pending (.reply q.requester (.record k found.length y))) ∧
          (found.length ≤ k → (s.serviceMove c).slotEmpty id = true)) ∧
      ((q.kind = .counts ∨ q.kind = .conditions ∨ ∃ n, q.kind = .records n ∧ ∀ x ∈ s.rs.log, x.sequence ≠ n) →
        ∀ id ∈ [SlotId.reply1, .reply2, .reply3], (s.serviceMove c).slotEmpty id = true)) ∧
    (s.rs.serving = true → s.slotsEmpty replySlots = true →
      (s.serviceMove c).rs.serving = false ∧ (s.serviceMove c).rs.queue = rest) ∧
    (s.rs.serving = true → s.slotsEmpty replySlots = false → s.serviceMove c = s)

/-- R140: RECACK. -/
def Obligations.RecackFrame : Prop :=
  (∀ (s : State) (c : Image) (b : FrameBody), Hears s c → b.sender.toNat ≠ 0 → b.sender.toNat ≠ 63 →
    2 ≤ b.payload.length →
    ∃ t, exec (.recack b) s = .next t ∧ t.rs.written = s.rs.written ∧ t.rs.discarded = s.rs.discarded ∧
      t.rs.overwritten = s.rs.overwritten ∧
      (c.watermark ≤ t.rs.log.length → inSet t.rs.latched .logHigh = true) ∧
      (isListener b.sender.toNat = true → b.addressee.toNat = c.station →
        (∀ older x newer, s.rs.log = older ++ x :: newer → x.sequence = halfAt b.payload 0 →
          (∀ y ∈ older, y.sequence ≠ halfAt b.payload 0) →
          t.rs.log = newer ∧ inSet t.rs.latched .badAck = inSet s.rs.latched .badAck) ∧
        ((∀ y ∈ s.rs.log, y.sequence ≠ halfAt b.payload 0) →
          t.rs.log = s.rs.log ∧ inSet t.rs.latched .badAck = true)) ∧
      (isTank b.sender.toNat = true ∨ b.addressee.toNat ≠ c.station →
        t.rs.log = s.rs.log ∧ inSet t.rs.latched .badAck = inSet s.rs.latched .badAck) ∧
      t.sc = s.sc ∧ t.tank = s.tank ∧ t.tables = s.tables ∧ t.weather = s.weather ∧ t.ac.activity = s.ac.activity) ∧
  ∀ (s : State) (b : FrameBody), s.mu.membership = .down → exec (.recack b) s = .next s

/-- R131: PERIOD. -/
def Obligations.PeriodFrame : Prop :=
  (∀ (s : State) (c : Image) (b : FrameBody), Hears s c → b.sender.toNat ≠ 0 → b.sender.toNat ≠ 63 →
    ∃ t, exec (.period b) s = .next t ∧
      (isListener b.sender.toNat = true → b.addressee = 0 ∨ b.addressee.toNat = c.station →
        t.sc = { s.sc with period := s.sc.period + 1, periodCount := 0, periodSeconds := 0 }) ∧
      (isTank b.sender.toNat = true ∨ (b.addressee ≠ 0 ∧ b.addressee.toNat ≠ c.station) → t.sc = s.sc) ∧
      t.rs.log = s.rs.log ∧ t.tables = s.tables ∧ t.tank = s.tank ∧ t.weather = s.weather) ∧
  ∀ (s : State) (b : FrameBody), s.mu.membership = .down → exec (.period b) s = .next s

/-- CLEAR and an own NOTICE: a CLEAR clears the flags of its mask, and those whose cause stands are latched at its
end; if it clears a flag of a LINKED station that is not DORMANT, STATUS carries the result, also where every flag it
cleared latches again; a logged NOTICE-CLOSED marks its record; a NOTICE-CONDITION takes the flags it carried out of
the news set, but for those newly latched after its content was written (those since its offer: log entry 45). -/
def Obligations.ClearAndNoticeFrames : Prop :=
  ∀ (s : State) (c : Image) (b : FrameBody), Hears s c → b.sender.toNat ≠ 0 → b.sender.toNat ≠ 63 →
    (2 ≤ b.payload.length → ∃ t, exec (.clear b) s = .next t ∧ t.spills = s.spills ∧ t.tank = s.tank ∧
      t.tables = s.tables ∧ t.weather = s.weather ∧
      (isListener b.sender.toNat = true → b.addressee.toNat = c.station → ∀ f,
        inSet t.rs.latched f =
          ((inSet s.rs.latched f && !inSet (halfAt b.payload 0) f) || s.standing c f)) ∧
      (isListener b.sender.toNat = true → b.addressee.toNat = c.station →
        s.rs.latched &&& halfAt b.payload 0 ≠ 0 → s.mu.membership = .linked → s.ac.activity ≠ .dormant →
        (t.slot .status).state.newest = some (.status t.statusValues)) ∧
      (isTank b.sender.toNat = true ∨ b.addressee.toNat ≠ c.station → ∀ f,
        inSet t.rs.latched f = (inSet s.rs.latched f || s.standing c f))) ∧
    ∃ u, exec (.notice b) s = .next (settle c s u) ∧ u.sc = s.sc ∧ u.tank = s.tank ∧ u.tables = s.tables ∧
      u.weather = s.weather ∧ u.rs.written = s.rs.written ∧
      (Foreign s c (bodyFrame b 7 4) → u.rs.log = s.rs.log ∧ u.rs.news = s.rs.news) ∧
      ∀ id, OwnFrom s c (bodyFrame b 7 4) id →
        (numAt b.payload 0 = 0 → u.rs.log = s.rs.log ∧ u.rs.news = s.rs.news) ∧
        (numAt b.payload 0 = 1 → numAt b.payload 1 = 1 → 22 ≤ b.payload.length → u.rs.news = s.rs.news ∧
          u.rs.log = s.rs.log.map fun r =>
            if r.sequence = halfAt b.payload 2 ∧
                r.record.episode = BitVec.ofNat 32 (65536 * num16At b.payload 4 + num16At b.payload 6)
            then { r with announced := true } else r) ∧
        (numAt b.payload 0 = 2 → 5 ≤ b.payload.length → u.rs.log = s.rs.log ∧
          ∀ f, inSet u.rs.news f =
            (inSet s.rs.news f && (!inSet (halfAt b.payload 1) f || inSet s.lc.newsSince f)))

/-- RESTART: addressed to the station by a listener it takes it off the tables and to LISTENING with the restart hold
running, the records, the held values and the flags as they stand; any other changes no membership. (That a WAKING which
it ends makes no sample request and leaves the sample timer running is the model's choice between two sentences of R62,
log entry 43.) -/
def Obligations.RestartFrame : Prop :=
  ∀ (s : State) (c : Image) (b : FrameBody), Hears s c → b.sender.toNat ≠ 0 → b.sender.toNat ≠ 63 →
    ∃ t, exec (.restart b) s = .next t ∧ t.spills = s.spills ∧ t.tank = s.tank ∧
      (isListener b.sender.toNat = true → b.addressee.toNat = c.station →
        t.mu.membership = .listening ∧ OffTheTables t ∧ t.mu.failures = 0 ∧ t.rs.queue = [] ∧
        t.ru.alerts = none ∧ t.mu.restartHold = some (1000 * c.travel) ∧
        t.mu.listen = some (2000 * c.presence) ∧ t.mu.joinRecord = [] ∧ t.mu.populated = false ∧
        t.mu.quiet = none ∧ t.mu.presence = none ∧ t.mu.joinWait = none ∧ t.mu.load = none ∧
        t.lc.tally = 0 ∧ t.lc.spacing = none ∧ t.ru.localGrade = s.ru.localGrade ∧
        t.srm.readiness = s.srm.readiness ∧
        ∀ f, inSet t.rs.latched f = (inSet s.rs.latched f || s.standing c f)) ∧
      (isTank b.sender.toNat = true ∨ b.addressee.toNat ≠ c.station →
        t.mu.membership = s.mu.membership ∧ t.mu.failures = s.mu.failures ∧ t.tables = s.tables)

/-! ## Timers -/

/-- LISTEN_TIMER, RESTART_HOLD, BURST_HOLD, JOIN_WAIT and LOAD_TIMER expiries: with listening over and no hold running
JOIN is queued; the join wait decides by Table 2-3; the load timer fails a load. (That founding starts the presence
timer is the model's choice, log entry 15; and that a join wait and a load timer left running by a spoiled join decide
nothing outside JOINING and LOADING, log entry 23.) -/
def Obligations.JoiningTimers : Prop :=
  ∀ (s : State) (c : Image), s.running = some c →
    (s.mu.listen.isSome = true → ∃ t, exec .listenTimerExpiry s = .next t ∧ t.mu.listen = none ∧
      t.member = s.member ∧ t.tables = s.tables ∧
      (s.mu.membership = .listening → s.mu.restartHold = none → s.mu.burstHold = none →
        t.slotEmpty .join = false)) ∧
    (s.mu.restartHold.isSome = true → ∃ t, exec .restartHoldExpiry s = .next t ∧ t.mu.restartHold = none ∧
      t.member = s.member ∧ t.tables = s.tables ∧
      (s.mu.membership = .listening → s.mu.listen = none → s.mu.burstHold = none →
        t.slotEmpty .join = false)) ∧
    (s.mu.burstHold.isSome = true → ∃ t, exec .burstHoldExpiry s = .next t ∧ t.mu.burstHold = none ∧
      t.member = s.member ∧ t.tables = s.tables ∧
      (s.mu.membership = .listening → s.mu.listen = none → s.mu.restartHold = none →
        t.slotEmpty .join = false)) ∧
    (s.mu.joinWait.isSome = true → ∃ u, exec .joinWaitExpiry s = .next (settle c s u) ∧ u.mu.joinWait = none ∧
      (s.mu.membership ≠ .joining → u.member = s.member ∧ u.tables = s.tables) ∧
      (s.mu.membership = .joining → s.mu.populated = true →
        inSet u.rs.latched .joinFailed = true ∧ u.mu.failures = s.mu.failures + 1 ∧ u.sa.shares = none ∧
        u.mu.roster = none ∧
        u.mu.membership = (if s.mu.failures + 1 = 2 then .isolated else .listening)) ∧
      (s.mu.membership = .joining → s.mu.populated = false →
        s.mu.newlyPopulated = true ∨ s.mu.joinRecord.head? ≠ some c.station →
        u.mu.membership = .joining ∧ u.mu.joinRecord = [] ∧ u.mu.newlyPopulated = false ∧
        u.mu.populated = s.mu.newlyPopulated ∧ u.slotEmpty .join = false ∧ u.mu.failures = s.mu.failures) ∧
      (s.mu.membership = .joining → s.mu.populated = false → s.mu.newlyPopulated = false →
        s.mu.joinRecord.head? = some c.station → 1 ≤ c.station → c.station ≤ 48 →
        u.mu.membership = .linked ∧ u.sa.shares = some (List.replicate c.pool .free) ∧
        u.sa.curtail = some c.pool ∧ u.sa.claims = [] ∧ u.mu.failures = 0 ∧ u.mu.load = none ∧
        u.mu.presence = some (1000 * c.presence) ∧ u.slotEmpty .status = false ∧
        (RestRule s →
          ((settle c s u).slot .status).state.newest = some (.status (settle c s u).statusValues)) ∧
        u.entryState c.station = .linked ∧ u.rosterUrgency c.station = 0 ∧
        ∀ n, n ≠ c.station → u.entryState n = .none)) ∧
    (s.mu.load.isSome = true → ∃ u, exec .loadTimerExpiry s = .next (settle c s u) ∧
      (s.mu.membership ≠ .loading → u.mu.load = none ∧ u.member = s.member ∧ u.tables = s.tables) ∧
      (s.mu.membership = .loading →
        inSet u.rs.latched .joinFailed = true ∧ u.mu.failures = s.mu.failures + 1 ∧ u.sa.shares = none ∧
        u.mu.roster = none ∧
        u.mu.membership = (if s.mu.failures + 1 = 2 then .isolated else .listening)))

/-- LOCK_TIMER, LAST_HEARD, STRANDING_TIMER, SILENCE_TIMER, QUIET_TIMER and PRESENCE_TIMER expiries: at the first the
responder cancels its TABLE slot, at the second and third the station joins the ABSENT or RECLAIM set. (That a WAKING
which the silence expiry ends makes no sample request and leaves the sample timer running is the model's choice
between two sentences of R62, log entry 43; that the lock of this station's own JOIN, accepted while LINKED, leaves
its own entry LINKED as it ends, log entry 46.) -/
def Obligations.MembershipTimers : Prop :=
  ∀ (s : State) (c : Image), s.running = some c →
    (∀ l, s.mu.lock = some l → ∃ t, exec .lockTimerExpiry s = .next t ∧ t.mu.lock = none ∧
      (l.joiner ≠ c.station → t.entryState l.joiner = .none) ∧
      (l.responder = c.station → SlotCancelled (s.slot .table) (t.slot .table)) ∧
      (∀ n, n ≠ l.joiner ∨ n = c.station → t.entry n = s.entry n) ∧ t.tables = s.tables ∧
      t.mu.membership = s.mu.membership) ∧
    (∀ n, s.mu.membership = .linked → s.isLinked n = true → (s.entry n).lastHeard.isSome = true →
      ∃ u, exec (.lastHeardExpiry n) s = .next (settle c s u) ∧ (u.entry n).lastHeard = none ∧
        u.entryState n = .linked ∧ (∀ m, m ≠ n → u.entry m = s.entry m) ∧ u.tables = s.tables ∧
        (s.slotEmpty .absent = true → (u.slot .absent).state = .pending (.absent [n])) ∧
        (∀ f k, (s.slot .absent).state = .inFlight f none k →
          (u.slot .absent).state = .inFlight f (some (.absent [n])) k) ∧
        ∀ set, (s.slot .absent).state = .pending (.absent set) → n ≤ 48 →
          ∃ set', (u.slot .absent).state = .pending (.absent set') ∧
            ∀ m, m ≤ 48 → (m ∈ set' ↔ m ∈ set ∨ m = n)) ∧
    (∀ n, s.mu.membership = .linked → s.entryState n = .absent → (s.entry n).stranding.isSome = true →
      ∃ u, exec (.strandingTimerExpiry n) s = .next (settle c s u) ∧ (u.entry n).stranding = none ∧
        u.entryState n = .absent ∧ (∀ m, m ≠ n → u.entry m = s.entry m) ∧ u.tables = s.tables ∧
        (s.slotEmpty .reclaim = true → (u.slot .reclaim).state = .pending (.reclaim [n])) ∧
        (∀ f k, (s.slot .reclaim).state = .inFlight f none k →
          (u.slot .reclaim).state = .inFlight f (some (.reclaim [n])) k) ∧
        ∀ set, (s.slot .reclaim).state = .pending (.reclaim set) → n ≤ 48 →
          ∃ set', (u.slot .reclaim).state = .pending (.reclaim set') ∧
            ∀ m, m ≤ 48 → (m ∈ set' ↔ m ∈ set ∨ m = n)) ∧
    (s.mu.membership = .linked → s.mu.silence.isSome = true →
      ∃ t, exec .silenceTimerExpiry s = .next t ∧ t.mu.membership = .fallback ∧ OffTheTables t ∧
        inSet t.rs.latched .lineLost = true ∧ t.rs.queue = [] ∧ t.ru.alerts = none ∧
        t.mu.quiet = some (1000 * c.travel) ∧ t.lc.tally = 0 ∧ t.spills = s.spills ∧ t.tank = s.tank) ∧
    (s.mu.membership = .fallback → s.mu.quiet.isSome = true →
      ∃ t, exec .quietTimerExpiry s = .next t ∧ t.mu.membership = .listening ∧ t.mu.quiet = none ∧
        t.mu.listen = some (2000 * c.presence) ∧ t.mu.joinRecord = [] ∧ t.mu.populated = false ∧
        t.mu.failures = s.mu.failures ∧ t.tables = s.tables) ∧
    (s.mu.membership = .linked → s.mu.presence.isSome = true →
      ∃ u, exec .presenceTimerExpiry s = .next (settle c s u) ∧ u.slotEmpty .status = false ∧
        (s.slotEmpty .status = true → (u.slot .status).state = .pending (.status
          { urgency := s.ts.urgency, drain := s.ts.drain, inlet := s.ts.inlet, readiness := s.srm.readiness,
            latched := s.rs.latched })) ∧
        u.tables = s.tables ∧ u.member = s.member)

/-- REFRESH_TIMER, ALERT_AGE, STEP_WINDOW, CALM_TIMER, PARK_TIMER, DORMANCY_DELAY and WAKE_RECOVERY expiries. A
STEP_WINDOW expiry that follows the event which restarted the window, at the same instant, has no effect. (The mark of
that instant, which a second's tick and a step on an empty queue take away, is the model's own, log entry 41. That a
wake recovery which finds a reply window open makes no kept sample of it, the counts and the record staying as they
are, is the model's choice, log entry 17.) -/
def Obligations.BlockTimers : Prop :=
  ∀ (s : State) (c : Image), s.running = some c →
    (s.ru.refresh.isSome = true → ∃ u, exec .refreshTimerExpiry s = .next (settle c s u) ∧
      u.ru.refresh = some (1000 * c.alertRefresh) ∧
      (s.slotEmpty .alert = true ∨ s.slotPending .alert = true →
        (u.slot .alert).state = .pending (.alert c.zone s.ru.localGrade)) ∧
      u.srm = s.srm ∧ u.spills = s.spills ∧ u.tank = s.tank ∧ u.tables = s.tables ∧ u.member = s.member) ∧
    (∀ z, (s.zoneEntry z).age.isSome = true → ∃ t, exec (.alertAgeExpiry z) s = .next t ∧
      t.zoneEntry z = .blank ∧ (∀ y, y ≠ z → t.zoneEntry y = s.zoneEntry y) ∧
      (isHeeded c z = true → Climbs c s t) ∧
      (isHeeded c z = false → t.srm.readiness = s.srm.readiness ∧ t.srm.stepWindow = s.srm.stepWindow ∧
        t.srm.stepFresh = s.srm.stepFresh ∧ t.srm.trigger = s.srm.trigger ∧ t.sc = s.sc) ∧ t.books = s.books ∧ t.held = s.held ∧
      (s.ac.activity ≠ .dormant → t.tank = s.tank) ∧ t.tables = s.tables ∧ t.member = s.member) ∧
    (s.srm.stepFresh = true → exec .stepWindowExpiry s = .next s) ∧
    (s.srm.stepWindow.isSome = true → s.srm.stepFresh = false →
      s.srm.readiness = .watch ∨ s.srm.readiness = .armed →
      ∃ t, exec .stepWindowExpiry s = .next t ∧ t.srm.readiness = .quiet ∧ t.srm.stepWindow = none ∧
        t.ru = s.ru ∧ t.spills = s.spills ∧ t.tank = s.tank ∧ t.tables = s.tables ∧ t.member = s.member) ∧
    (s.srm.calm.isSome = true → s.srm.readiness = .storm →
      ∃ t, exec .calmTimerExpiry s = .next t ∧ t.srm.readiness = .quiet ∧ t.srm.trigger = none ∧
        t.srm.calm = none ∧ t.ru = s.ru ∧ t.spills = s.spills ∧ t.tank = s.tank ∧ t.tables = s.tables ∧
        t.member = s.member) ∧
    (s.ts.parkTimer.isSome = true → s.ts.drain = .parked →
      ∃ u, exec .parkTimerExpiry s = .next (settle c s u) ∧ u.sa.releaseMark = true ∧ u.ts.parkTimer = none ∧
        u.slotEmpty .release = false ∧ (∀ n, n < 64 → n ∈ s.holdings c.station → n ∈ u.sa.outgoing) ∧
        u.tables = s.tables ∧ u.member = s.member ∧ u.spills = s.spills ∧ u.tank = s.tank ∧
        u.weather = s.weather) ∧
    (s.ac.delay.isSome = true → s.ac.activity = .active →
      ∃ u, exec .dormancyDelayExpiry s = .next (settle c s u) ∧ u.slotEmpty .dormant = false ∧
        u.ac.activity = .active ∧ u.tables = s.tables ∧ u.member = s.member ∧ u.spills = s.spills ∧
        u.tank = s.tank ∧ u.weather = s.weather) ∧
    (s.ac.recovery.isSome = true → s.ac.activity = .waking →
      ∃ t, exec .wakeRecoveryExpiry s = .next t ∧ t.ac.activity = .active ∧ t.ac.recovery = none ∧
        t.ts.sampleTimer = some (1000 * c.sampleInterval) ∧ t.ts.window = some (500 * c.sampleInterval) ∧
        t.tables = s.tables ∧ t.member = s.member ∧ t.spills = s.spills ∧ t.weather = s.weather)

/-- A stopped timer does not expire; in DOWN nothing but supply, reset line, configuration, the tide input and
station seconds acts; a station that does not yet follow the line takes no frame; and without a frame of its own on the
line it has no outcome of one. -/
def Obligations.StoppedTimersAndDown : Prop :=
  (∀ (i : Instr) (s : State), s.mu.membership = .down → actsInDown i = false → exec i s = .next s) ∧
  (∀ (i : Instr) (s : State), s.lc.following = false → isFrameCommand i = true → exec i s = .next s) ∧
  (∀ (s : State) (found : SenderFindings) (i : Instr),
    i ∈ [Instr.lostArbitration, .ownFrameAborted found, .ownFrameBusy] →
    s.flight = none → s.lc.orphan = none → exec i s = .next s) ∧
  ∀ s : State,
    (s.mu.listen = none → exec .listenTimerExpiry s = .next s) ∧
    (s.mu.restartHold = none → exec .restartHoldExpiry s = .next s) ∧
    (s.mu.burstHold = none → exec .burstHoldExpiry s = .next s) ∧
    (s.mu.joinWait = none → exec .joinWaitExpiry s = .next s) ∧
    (s.mu.load = none → exec .loadTimerExpiry s = .next s) ∧
    (s.mu.lock = none → exec .lockTimerExpiry s = .next s) ∧
    (∀ n, (s.entry n).lastHeard = none → exec (.lastHeardExpiry n) s = .next s) ∧
    (∀ n, (s.entry n).stranding = none → exec (.strandingTimerExpiry n) s = .next s) ∧
    (s.mu.silence = none → exec .silenceTimerExpiry s = .next s) ∧
    (s.mu.quiet = none → exec .quietTimerExpiry s = .next s) ∧
    (s.mu.presence = none → exec .presenceTimerExpiry s = .next s) ∧
    (s.ru.refresh = none → exec .refreshTimerExpiry s = .next s) ∧
    (∀ z, (s.zoneEntry z).age = none → exec (.alertAgeExpiry z) s = .next s) ∧
    (s.srm.stepWindow = none → exec .stepWindowExpiry s = .next s) ∧
    (s.srm.calm = none → exec .calmTimerExpiry s = .next s) ∧
    (s.ts.parkTimer = none → exec .parkTimerExpiry s = .next s) ∧
    (s.ac.delay = none → exec .dormancyDelayExpiry s = .next s) ∧
    (s.ac.recovery = none → exec .wakeRecoveryExpiry s = .next s) ∧
    (s.ts.sampleTimer = none → exec .sampleTimerExpiry s = .next s) ∧
    (s.ts.window = none → exec .replyWindowClose s = .next s) ∧
    (s.sc.merge = none → exec .mergeTimerExpiry s = .next s) ∧
    (s.lc.spacing = none → exec .claimSpacingExpiry s = .next s) ∧
    (∀ id, (s.slot id).backoff = none → exec (.busyBackoffExpiry id) s = .next s)
end

