-- ==== Sys2Proof/Laws/State.lean ====
section
/-! SUPPORT. What each block update does to each field of State, and what a slot update does to each slot. -/

namespace Sys2Proof.Machine

open Sys2Proof

section
variable (s : State) (f : ClState → ClState)

@[simp] theorem mapCl_supplyGood : (s.mapCl f).supplyGood = s.supplyGood := rfl
@[simp] theorem mapCl_resetHeld : (s.mapCl f).resetHeld = s.resetHeld := rfl
@[simp] theorem mapCl_tidePin : (s.mapCl f).tidePin = s.tidePin := rfl
@[simp] theorem mapCl_seconds : (s.mapCl f).seconds = s.seconds := rfl
@[simp] theorem mapCl_cl : (s.mapCl f).cl = f s.cl := rfl
@[simp] theorem mapCl_lc : (s.mapCl f).lc = s.lc := rfl
@[simp] theorem mapCl_mu : (s.mapCl f).mu = s.mu := rfl
@[simp] theorem mapCl_sa : (s.mapCl f).sa = s.sa := rfl
@[simp] theorem mapCl_ts : (s.mapCl f).ts = s.ts := rfl
@[simp] theorem mapCl_ru : (s.mapCl f).ru = s.ru := rfl
@[simp] theorem mapCl_srm : (s.mapCl f).srm = s.srm := rfl
@[simp] theorem mapCl_sc : (s.mapCl f).sc = s.sc := rfl
@[simp] theorem mapCl_rs : (s.mapCl f).rs = s.rs := rfl
@[simp] theorem mapCl_ac : (s.mapCl f).ac = s.ac := rfl
@[simp] theorem mapCl_freeUsed : (s.mapCl f).freeUsed = s.freeUsed := rfl
@[simp] theorem mapCl_pending : (s.mapCl f).pending = s.pending := rfl

end

section
variable (s : State) (f : LcState → LcState)

@[simp] theorem mapLc_supplyGood : (s.mapLc f).supplyGood = s.supplyGood := rfl
@[simp] theorem mapLc_resetHeld : (s.mapLc f).resetHeld = s.resetHeld := rfl
@[simp] theorem mapLc_tidePin : (s.mapLc f).tidePin = s.tidePin := rfl
@[simp] theorem mapLc_seconds : (s.mapLc f).seconds = s.seconds := rfl
@[simp] theorem mapLc_cl : (s.mapLc f).cl = s.cl := rfl
@[simp] theorem mapLc_lc : (s.mapLc f).lc = f s.lc := rfl
@[simp] theorem mapLc_mu : (s.mapLc f).mu = s.mu := rfl
@[simp] theorem mapLc_sa : (s.mapLc f).sa = s.sa := rfl
@[simp] theorem mapLc_ts : (s.mapLc f).ts = s.ts := rfl
@[simp] theorem mapLc_ru : (s.mapLc f).ru = s.ru := rfl
@[simp] theorem mapLc_srm : (s.mapLc f).srm = s.srm := rfl
@[simp] theorem mapLc_sc : (s.mapLc f).sc = s.sc := rfl
@[simp] theorem mapLc_rs : (s.mapLc f).rs = s.rs := rfl
@[simp] theorem mapLc_ac : (s.mapLc f).ac = s.ac := rfl
@[simp] theorem mapLc_freeUsed : (s.mapLc f).freeUsed = s.freeUsed := rfl
@[simp] theorem mapLc_pending : (s.mapLc f).pending = s.pending := rfl

end

section
variable (s : State) (f : MuState → MuState)

@[simp] theorem mapMu_supplyGood : (s.mapMu f).supplyGood = s.supplyGood := rfl
@[simp] theorem mapMu_resetHeld : (s.mapMu f).resetHeld = s.resetHeld := rfl
@[simp] theorem mapMu_tidePin : (s.mapMu f).tidePin = s.tidePin := rfl
@[simp] theorem mapMu_seconds : (s.mapMu f).seconds = s.seconds := rfl
@[simp] theorem mapMu_cl : (s.mapMu f).cl = s.cl := rfl
@[simp] theorem mapMu_lc : (s.mapMu f).lc = s.lc := rfl
@[simp] theorem mapMu_mu : (s.mapMu f).mu = f s.mu := rfl
@[simp] theorem mapMu_sa : (s.mapMu f).sa = s.sa := rfl
@[simp] theorem mapMu_ts : (s.mapMu f).ts = s.ts := rfl
@[simp] theorem mapMu_ru : (s.mapMu f).ru = s.ru := rfl
@[simp] theorem mapMu_srm : (s.mapMu f).srm = s.srm := rfl
@[simp] theorem mapMu_sc : (s.mapMu f).sc = s.sc := rfl
@[simp] theorem mapMu_rs : (s.mapMu f).rs = s.rs := rfl
@[simp] theorem mapMu_ac : (s.mapMu f).ac = s.ac := rfl
@[simp] theorem mapMu_freeUsed : (s.mapMu f).freeUsed = s.freeUsed := rfl
@[simp] theorem mapMu_pending : (s.mapMu f).pending = s.pending := rfl

end

section
variable (s : State) (f : SaState → SaState)

@[simp] theorem mapSa_supplyGood : (s.mapSa f).supplyGood = s.supplyGood := rfl
@[simp] theorem mapSa_resetHeld : (s.mapSa f).resetHeld = s.resetHeld := rfl
@[simp] theorem mapSa_tidePin : (s.mapSa f).tidePin = s.tidePin := rfl
@[simp] theorem mapSa_seconds : (s.mapSa f).seconds = s.seconds := rfl
@[simp] theorem mapSa_cl : (s.mapSa f).cl = s.cl := rfl
@[simp] theorem mapSa_lc : (s.mapSa f).lc = s.lc := rfl
@[simp] theorem mapSa_mu : (s.mapSa f).mu = s.mu := rfl
@[simp] theorem mapSa_sa : (s.mapSa f).sa = f s.sa := rfl
@[simp] theorem mapSa_ts : (s.mapSa f).ts = s.ts := rfl
@[simp] theorem mapSa_ru : (s.mapSa f).ru = s.ru := rfl
@[simp] theorem mapSa_srm : (s.mapSa f).srm = s.srm := rfl
@[simp] theorem mapSa_sc : (s.mapSa f).sc = s.sc := rfl
@[simp] theorem mapSa_rs : (s.mapSa f).rs = s.rs := rfl
@[simp] theorem mapSa_ac : (s.mapSa f).ac = s.ac := rfl
@[simp] theorem mapSa_freeUsed : (s.mapSa f).freeUsed = s.freeUsed := rfl
@[simp] theorem mapSa_pending : (s.mapSa f).pending = s.pending := rfl

end

section
variable (s : State) (f : TsState → TsState)

@[simp] theorem mapTs_supplyGood : (s.mapTs f).supplyGood = s.supplyGood := rfl
@[simp] theorem mapTs_resetHeld : (s.mapTs f).resetHeld = s.resetHeld := rfl
@[simp] theorem mapTs_tidePin : (s.mapTs f).tidePin = s.tidePin := rfl
@[simp] theorem mapTs_seconds : (s.mapTs f).seconds = s.seconds := rfl
@[simp] theorem mapTs_cl : (s.mapTs f).cl = s.cl := rfl
@[simp] theorem mapTs_lc : (s.mapTs f).lc = s.lc := rfl
@[simp] theorem mapTs_mu : (s.mapTs f).mu = s.mu := rfl
@[simp] theorem mapTs_sa : (s.mapTs f).sa = s.sa := rfl
@[simp] theorem mapTs_ts : (s.mapTs f).ts = f s.ts := rfl
@[simp] theorem mapTs_ru : (s.mapTs f).ru = s.ru := rfl
@[simp] theorem mapTs_srm : (s.mapTs f).srm = s.srm := rfl
@[simp] theorem mapTs_sc : (s.mapTs f).sc = s.sc := rfl
@[simp] theorem mapTs_rs : (s.mapTs f).rs = s.rs := rfl
@[simp] theorem mapTs_ac : (s.mapTs f).ac = s.ac := rfl
@[simp] theorem mapTs_freeUsed : (s.mapTs f).freeUsed = s.freeUsed := rfl
@[simp] theorem mapTs_pending : (s.mapTs f).pending = s.pending := rfl

end

section
variable (s : State) (f : RuState → RuState)

@[simp] theorem mapRu_supplyGood : (s.mapRu f).supplyGood = s.supplyGood := rfl
@[simp] theorem mapRu_resetHeld : (s.mapRu f).resetHeld = s.resetHeld := rfl
@[simp] theorem mapRu_tidePin : (s.mapRu f).tidePin = s.tidePin := rfl
@[simp] theorem mapRu_seconds : (s.mapRu f).seconds = s.seconds := rfl
@[simp] theorem mapRu_cl : (s.mapRu f).cl = s.cl := rfl
@[simp] theorem mapRu_lc : (s.mapRu f).lc = s.lc := rfl
@[simp] theorem mapRu_mu : (s.mapRu f).mu = s.mu := rfl
@[simp] theorem mapRu_sa : (s.mapRu f).sa = s.sa := rfl
@[simp] theorem mapRu_ts : (s.mapRu f).ts = s.ts := rfl
@[simp] theorem mapRu_ru : (s.mapRu f).ru = f s.ru := rfl
@[simp] theorem mapRu_srm : (s.mapRu f).srm = s.srm := rfl
@[simp] theorem mapRu_sc : (s.mapRu f).sc = s.sc := rfl
@[simp] theorem mapRu_rs : (s.mapRu f).rs = s.rs := rfl
@[simp] theorem mapRu_ac : (s.mapRu f).ac = s.ac := rfl
@[simp] theorem mapRu_freeUsed : (s.mapRu f).freeUsed = s.freeUsed := rfl
@[simp] theorem mapRu_pending : (s.mapRu f).pending = s.pending := rfl

end

section
variable (s : State) (f : SrmState → SrmState)

@[simp] theorem mapSrm_supplyGood : (s.mapSrm f).supplyGood = s.supplyGood := rfl
@[simp] theorem mapSrm_resetHeld : (s.mapSrm f).resetHeld = s.resetHeld := rfl
@[simp] theorem mapSrm_tidePin : (s.mapSrm f).tidePin = s.tidePin := rfl
@[simp] theorem mapSrm_seconds : (s.mapSrm f).seconds = s.seconds := rfl
@[simp] theorem mapSrm_cl : (s.mapSrm f).cl = s.cl := rfl
@[simp] theorem mapSrm_lc : (s.mapSrm f).lc = s.lc := rfl
@[simp] theorem mapSrm_mu : (s.mapSrm f).mu = s.mu := rfl
@[simp] theorem mapSrm_sa : (s.mapSrm f).sa = s.sa := rfl
@[simp] theorem mapSrm_ts : (s.mapSrm f).ts = s.ts := rfl
@[simp] theorem mapSrm_ru : (s.mapSrm f).ru = s.ru := rfl
@[simp] theorem mapSrm_srm : (s.mapSrm f).srm = f s.srm := rfl
@[simp] theorem mapSrm_sc : (s.mapSrm f).sc = s.sc := rfl
@[simp] theorem mapSrm_rs : (s.mapSrm f).rs = s.rs := rfl
@[simp] theorem mapSrm_ac : (s.mapSrm f).ac = s.ac := rfl
@[simp] theorem mapSrm_freeUsed : (s.mapSrm f).freeUsed = s.freeUsed := rfl
@[simp] theorem mapSrm_pending : (s.mapSrm f).pending = s.pending := rfl

end

section
variable (s : State) (f : ScState → ScState)

@[simp] theorem mapSc_supplyGood : (s.mapSc f).supplyGood = s.supplyGood := rfl
@[simp] theorem mapSc_resetHeld : (s.mapSc f).resetHeld = s.resetHeld := rfl
@[simp] theorem mapSc_tidePin : (s.mapSc f).tidePin = s.tidePin := rfl
@[simp] theorem mapSc_seconds : (s.mapSc f).seconds = s.seconds := rfl
@[simp] theorem mapSc_cl : (s.mapSc f).cl = s.cl := rfl
@[simp] theorem mapSc_lc : (s.mapSc f).lc = s.lc := rfl
@[simp] theorem mapSc_mu : (s.mapSc f).mu = s.mu := rfl
@[simp] theorem mapSc_sa : (s.mapSc f).sa = s.sa := rfl
@[simp] theorem mapSc_ts : (s.mapSc f).ts = s.ts := rfl
@[simp] theorem mapSc_ru : (s.mapSc f).ru = s.ru := rfl
@[simp] theorem mapSc_srm : (s.mapSc f).srm = s.srm := rfl
@[simp] theorem mapSc_sc : (s.mapSc f).sc = f s.sc := rfl
@[simp] theorem mapSc_rs : (s.mapSc f).rs = s.rs := rfl
@[simp] theorem mapSc_ac : (s.mapSc f).ac = s.ac := rfl
@[simp] theorem mapSc_freeUsed : (s.mapSc f).freeUsed = s.freeUsed := rfl
@[simp] theorem mapSc_pending : (s.mapSc f).pending = s.pending := rfl

end

section
variable (s : State) (f : RsState → RsState)

@[simp] theorem mapRs_supplyGood : (s.mapRs f).supplyGood = s.supplyGood := rfl
@[simp] theorem mapRs_resetHeld : (s.mapRs f).resetHeld = s.resetHeld := rfl
@[simp] theorem mapRs_tidePin : (s.mapRs f).tidePin = s.tidePin := rfl
@[simp] theorem mapRs_seconds : (s.mapRs f).seconds = s.seconds := rfl
@[simp] theorem mapRs_cl : (s.mapRs f).cl = s.cl := rfl
@[simp] theorem mapRs_lc : (s.mapRs f).lc = s.lc := rfl
@[simp] theorem mapRs_mu : (s.mapRs f).mu = s.mu := rfl
@[simp] theorem mapRs_sa : (s.mapRs f).sa = s.sa := rfl
@[simp] theorem mapRs_ts : (s.mapRs f).ts = s.ts := rfl
@[simp] theorem mapRs_ru : (s.mapRs f).ru = s.ru := rfl
@[simp] theorem mapRs_srm : (s.mapRs f).srm = s.srm := rfl
@[simp] theorem mapRs_sc : (s.mapRs f).sc = s.sc := rfl
@[simp] theorem mapRs_rs : (s.mapRs f).rs = f s.rs := rfl
@[simp] theorem mapRs_ac : (s.mapRs f).ac = s.ac := rfl
@[simp] theorem mapRs_freeUsed : (s.mapRs f).freeUsed = s.freeUsed := rfl
@[simp] theorem mapRs_pending : (s.mapRs f).pending = s.pending := rfl

end

section
variable (s : State) (f : AcState → AcState)

@[simp] theorem mapAc_supplyGood : (s.mapAc f).supplyGood = s.supplyGood := rfl
@[simp] theorem mapAc_resetHeld : (s.mapAc f).resetHeld = s.resetHeld := rfl
@[simp] theorem mapAc_tidePin : (s.mapAc f).tidePin = s.tidePin := rfl
@[simp] theorem mapAc_seconds : (s.mapAc f).seconds = s.seconds := rfl
@[simp] theorem mapAc_cl : (s.mapAc f).cl = s.cl := rfl
@[simp] theorem mapAc_lc : (s.mapAc f).lc = s.lc := rfl
@[simp] theorem mapAc_mu : (s.mapAc f).mu = s.mu := rfl
@[simp] theorem mapAc_sa : (s.mapAc f).sa = s.sa := rfl
@[simp] theorem mapAc_ts : (s.mapAc f).ts = s.ts := rfl
@[simp] theorem mapAc_ru : (s.mapAc f).ru = s.ru := rfl
@[simp] theorem mapAc_srm : (s.mapAc f).srm = s.srm := rfl
@[simp] theorem mapAc_sc : (s.mapAc f).sc = s.sc := rfl
@[simp] theorem mapAc_rs : (s.mapAc f).rs = s.rs := rfl
@[simp] theorem mapAc_ac : (s.mapAc f).ac = f s.ac := rfl
@[simp] theorem mapAc_freeUsed : (s.mapAc f).freeUsed = s.freeUsed := rfl
@[simp] theorem mapAc_pending : (s.mapAc f).pending = s.pending := rfl

end

/-! ## Folds -/

/-- A fold of steps that each keep a view keeps it. -/
theorem foldl_keeps {α β γ : Type} (g : β → γ) (f : β → α → β) (h : ∀ t x, g (f t x) = g t) (l : List α)
    (s : β) : g (l.foldl f s) = g s := by
  induction l generalizing s with
  | nil => rfl
  | cons x l ih => exact (ih (f s x)).trans (h s x)

/-! ## Slots -/

/-- Reading the slot just set. -/
@[simp] theorem Slots_get_set_same (t : Slots) (x : Slot) (i : SlotId) : (t.set x i).get i = x := by
  cases i <;> rfl

/-- Setting one slot leaves the others. -/
theorem Slots_get_set_other (t : Slots) (x : Slot) {i j : SlotId} (h : i ≠ j) :
    (t.set x i).get j = t.get j := by
  cases i <;> cases j <;> first | rfl | exact absurd rfl h

@[simp] theorem setSlot_slot_same (s : State) (i : SlotId) (x : Slot) : (s.setSlot i x).slot i = x :=
  Slots_get_set_same s.lc.slots x i

theorem setSlot_slot_other (s : State) (x : Slot) {i j : SlotId} (h : i ≠ j) :
    (s.setSlot i x).slot j = s.slot j :=
  Slots_get_set_other s.lc.slots x h

/-- A slot update leaves the LC's other fields. -/
theorem setSlot_lc (s : State) (i : SlotId) (x : Slot) :
    (s.setSlot i x).lc = { s.lc with slots := s.lc.slots.set x i } := rfl

@[simp] theorem slot_blank (i : SlotId) : Slots.blank.get i = Slot.blank := by cases i <;> rfl

@[simp] theorem setSlot_supplyGood (s : State) (i : SlotId) (x : Slot) : (s.setSlot i x).supplyGood = s.supplyGood := rfl
@[simp] theorem setSlot_resetHeld (s : State) (i : SlotId) (x : Slot) : (s.setSlot i x).resetHeld = s.resetHeld := rfl
@[simp] theorem setSlot_tidePin (s : State) (i : SlotId) (x : Slot) : (s.setSlot i x).tidePin = s.tidePin := rfl
@[simp] theorem setSlot_seconds (s : State) (i : SlotId) (x : Slot) : (s.setSlot i x).seconds = s.seconds := rfl
@[simp] theorem setSlot_cl (s : State) (i : SlotId) (x : Slot) : (s.setSlot i x).cl = s.cl := rfl
@[simp] theorem setSlot_mu (s : State) (i : SlotId) (x : Slot) : (s.setSlot i x).mu = s.mu := rfl
@[simp] theorem setSlot_sa (s : State) (i : SlotId) (x : Slot) : (s.setSlot i x).sa = s.sa := rfl
@[simp] theorem setSlot_ts (s : State) (i : SlotId) (x : Slot) : (s.setSlot i x).ts = s.ts := rfl
@[simp] theorem setSlot_ru (s : State) (i : SlotId) (x : Slot) : (s.setSlot i x).ru = s.ru := rfl
@[simp] theorem setSlot_srm (s : State) (i : SlotId) (x : Slot) : (s.setSlot i x).srm = s.srm := rfl
@[simp] theorem setSlot_sc (s : State) (i : SlotId) (x : Slot) : (s.setSlot i x).sc = s.sc := rfl
@[simp] theorem setSlot_rs (s : State) (i : SlotId) (x : Slot) : (s.setSlot i x).rs = s.rs := rfl
@[simp] theorem setSlot_ac (s : State) (i : SlotId) (x : Slot) : (s.setSlot i x).ac = s.ac := rfl
@[simp] theorem setSlot_freeUsed (s : State) (i : SlotId) (x : Slot) : (s.setSlot i x).freeUsed = s.freeUsed := rfl
@[simp] theorem setSlot_pending (s : State) (i : SlotId) (x : Slot) : (s.setSlot i x).pending = s.pending := rfl

end Sys2Proof.Machine
end

