-- ==== Sys2Proof/Laws/Settle.lean ====
section
/-! SUPPORT. What the end of a command leaves alone: settle changes the slots and what the blocks report from
them, and nothing else. -/

namespace Sys2Proof.Machine

open Sys2Proof

/-- A state less the fields that settle may change. -/
def State.frozen (s : State) : State :=
  { s with
    lc := { s.lc with slots := .blank, idle := false, newsSince := 0 }
    mu := { s.mu with silence := none }
    sa := { s.sa with outgoing := [], releaseMark := false, withdrawMark := false }
    ts := { s.ts with urgency := 0, drain := .idle, parkTimer := none, parkJudged := false, valve := 0 }
    srm := { s.srm with calm := none }
    rs := { s.rs with latched := 0, news := 0, queue := [], serving := false }
    ac := { s.ac with delay := none, wakeMark := false }
    freeUsed := 0 }

theorem setSlot_frozen (s : State) (i : SlotId) (x : Slot) : (s.setSlot i x).frozen = s.frozen := rfl
theorem writeSlot_frozen (s : State) (i : SlotId) (c : Content) : (s.writeSlot i c).frozen = s.frozen := rfl
theorem cancelSlot_frozen (s : State) (i : SlotId) : (s.cancelSlot i).frozen = s.frozen := rfl

theorem recomputeUrgency_frozen (s : State) (c : Image) : (s.recomputeUrgency c).frozen = s.frozen := rfl

theorem releaseShares_frozen (s : State) (l : List Nat) : (s.releaseShares l).frozen = s.frozen := rfl
theorem releaseAll_frozen (s : State) (c : Image) : (s.releaseAll c).frozen = s.frozen := rfl
theorem askClaim_frozen (s : State) (c : Image) : (s.askClaim c).frozen = s.frozen := rfl
theorem stopDrain_frozen (s : State) : s.stopDrain.frozen = s.frozen := rfl

theorem judgeParked_frozen (s : State) (c : Image) : (s.judgeParked c).frozen = s.frozen := by
  unfold State.judgeParked
  repeat' split
  all_goals rfl

theorem drainReport_frozen (s : State) (c : Image) : (s.drainReport c).frozen = s.frozen := by
  unfold State.drainReport
  dsimp only
  repeat' split
  all_goals first | rfl | exact judgeParked_frozen s c

theorem testClaim_frozen (s : State) (c : Image) : (s.testClaim c).frozen = s.frozen := by
  unfold State.testClaim
  split <;> rfl

theorem drainStep_frozen (s b : State) (c : Image) : (s.drainStep b c).frozen = s.frozen := by
  unfold State.drainStep
  dsimp only
  repeat' split
  · rw [testClaim_frozen, drainReport_frozen]
  · exact drainReport_frozen s c
  · rfl

theorem setValve_frozen (s : State) (c : Image) : (s.setValve c).frozen = s.frozen := rfl

theorem latch_frozen (s : State) (c : Image) (f : Flag) : (s.latch c f).frozen = s.frozen := by
  unfold State.latch
  dsimp only
  repeat' split
  all_goals rfl

theorem latchIfStanding_frozen (s : State) (c : Image) (f : Flag) :
    (s.latchIfStanding c f).frozen = s.frozen := by
  unfold State.latchIfStanding
  split
  · exact latch_frozen s c f
  · rfl

theorem latchStanding_frozen (s : State) (c : Image) : (s.latchStanding c).frozen = s.frozen := by
  unfold State.latchStanding
  simp only [latchIfStanding_frozen]

theorem controlCalm_frozen (s : State) (c : Image) : (s.controlCalm c).frozen = s.frozen := by
  unfold State.controlCalm
  repeat' split
  all_goals rfl

theorem watchSilence_frozen (s : State) (c : Image) : (s.watchSilence c).frozen = s.frozen := rfl

theorem writeJoinIfDue_frozen (s : State) (c : Image) : (s.writeJoinIfDue c).frozen = s.frozen := by
  unfold State.writeJoinIfDue
  split <;> rfl

theorem writeReplies_frozen (s : State) (n : Nat) (ids : List SlotId) (rs : List Reply) :
    (s.writeReplies n ids rs).frozen = s.frozen := by
  induction ids generalizing s rs with
  | nil => cases rs <;> rfl
  | cons id ids ih =>
    cases rs with
    | nil => rfl
    | cons r rs => exact (ih (s.writeSlot id (.reply n r)) rs).trans (writeSlot_frozen ..)

theorem mapRs_service_frozen (s : State) (q : List Request) (b : Bool) :
    (s.mapRs fun r => { r with queue := q, serving := b }).frozen = s.frozen := rfl

theorem serviceMove_frozen (s : State) (c : Image) : (s.serviceMove c).frozen = s.frozen := by
  unfold State.serviceMove
  repeat' split
  · rfl
  · rfl
  · rfl
  · exact writeReplies_frozen s ..

theorem serviceMoves_frozen (s : State) (c : Image) (n : Nat) : (s.serviceMoves c n).frozen = s.frozen := by
  induction n generalizing s with
  | zero => rfl
  | succ n ih => exact (ih (s.serviceMove c)).trans (serviceMove_frozen s c)

theorem runService_frozen (s : State) (c : Image) : (s.runService c).frozen = s.frozen :=
  serviceMoves_frozen s c _

theorem statusOnChange_frozen (s b : State) : (s.statusOnChange b).frozen = s.frozen := by
  unfold State.statusOnChange State.statusForChange
  (repeat' split) <;> rfl

theorem watchDormancy_frozen (s : State) (c : Image) : (s.watchDormancy c).frozen = s.frozen := by
  unfold State.watchDormancy
  dsimp only
  repeat' split
  all_goals rfl

theorem startFlight_frozen (s : State) (c : Image) (id : SlotId) : (s.startFlight c id).frozen = s.frozen := by
  unfold State.startFlight
  split <;> rfl

theorem offerIfStillIdle_frozen (s : State) (c : Image) (id : SlotId) :
    (s.offerIfStillIdle c id).frozen = s.frozen := by
  unfold State.offerIfStillIdle
  split
  · exact startFlight_frozen ..
  · rfl

theorem offer_frozen (s : State) (c : Image) (fresh : Bool) : (s.offer c fresh).frozen = s.frozen := by
  unfold State.offer
  repeat' split
  · rfl
  · exact startFlight_frozen ..
  · exact offerIfStillIdle_frozen ..
  · rfl

theorem settleBlocks_frozen (c : Image) (b s : State) : (settleBlocks c b s).frozen = s.frozen := by
  unfold settleBlocks
  simp only [watchDormancy_frozen, statusOnChange_frozen, runService_frozen, writeJoinIfDue_frozen,
    watchSilence_frozen, controlCalm_frozen, latchStanding_frozen, setValve_frozen, drainStep_frozen,
    recomputeUrgency_frozen]

/-- The end of a command leaves everything but the slots, the reports made from them, and the line's idleness. -/
theorem settle_frozen (c : Image) (b s : State) : (settle c b s).frozen = s.frozen :=
  (offer_frozen _ c _).trans (settleBlocks_frozen c b s)

/-! ## One field at a time -/

/-- Two states alike but for what settle may change agree on everything read from the rest. -/
theorem eq_of_frozen {α : Type} {t s : State} (g : State → α) (hg : ∀ x : State, g x.frozen = g x)
    (h : t.frozen = s.frozen) : g t = g s := by
  rw [← hg t, ← hg s, h]

section
variable (c : Image) (b s : State)

@[simp] theorem settle_supplyGood : (settle c b s).supplyGood = s.supplyGood :=
  eq_of_frozen (·.supplyGood) (fun _ => rfl) (settle_frozen c b s)
@[simp] theorem settle_resetHeld : (settle c b s).resetHeld = s.resetHeld :=
  eq_of_frozen (·.resetHeld) (fun _ => rfl) (settle_frozen c b s)
@[simp] theorem settle_tidePin : (settle c b s).tidePin = s.tidePin :=
  eq_of_frozen (·.tidePin) (fun _ => rfl) (settle_frozen c b s)
@[simp] theorem settle_seconds : (settle c b s).seconds = s.seconds :=
  eq_of_frozen (·.seconds) (fun _ => rfl) (settle_frozen c b s)
@[simp] theorem settle_cl : (settle c b s).cl = s.cl :=
  eq_of_frozen (·.cl) (fun _ => rfl) (settle_frozen c b s)
@[simp] theorem settle_ru : (settle c b s).ru = s.ru :=
  eq_of_frozen (·.ru) (fun _ => rfl) (settle_frozen c b s)
@[simp] theorem settle_sc : (settle c b s).sc = s.sc :=
  eq_of_frozen (·.sc) (fun _ => rfl) (settle_frozen c b s)
@[simp] theorem settle_pending : (settle c b s).pending = s.pending :=
  eq_of_frozen (·.pending) (fun _ => rfl) (settle_frozen c b s)
@[simp] theorem settle_orphan : (settle c b s).lc.orphan = s.lc.orphan :=
  eq_of_frozen (·.lc.orphan) (fun _ => rfl) (settle_frozen c b s)
@[simp] theorem settle_spacing : (settle c b s).lc.spacing = s.lc.spacing :=
  eq_of_frozen (·.lc.spacing) (fun _ => rfl) (settle_frozen c b s)
@[simp] theorem settle_tally : (settle c b s).lc.tally = s.lc.tally :=
  eq_of_frozen (·.lc.tally) (fun _ => rfl) (settle_frozen c b s)
@[simp] theorem settle_following : (settle c b s).lc.following = s.lc.following :=
  eq_of_frozen (·.lc.following) (fun _ => rfl) (settle_frozen c b s)
@[simp] theorem settle_marks : (settle c b s).lc.marks = s.lc.marks :=
  eq_of_frozen (·.lc.marks) (fun _ => rfl) (settle_frozen c b s)
@[simp] theorem settle_membership : (settle c b s).mu.membership = s.mu.membership :=
  eq_of_frozen (·.mu.membership) (fun _ => rfl) (settle_frozen c b s)
@[simp] theorem settle_roster : (settle c b s).mu.roster = s.mu.roster :=
  eq_of_frozen (·.mu.roster) (fun _ => rfl) (settle_frozen c b s)
@[simp] theorem settle_lock : (settle c b s).mu.lock = s.mu.lock :=
  eq_of_frozen (·.mu.lock) (fun _ => rfl) (settle_frozen c b s)
@[simp] theorem settle_failures : (settle c b s).mu.failures = s.mu.failures :=
  eq_of_frozen (·.mu.failures) (fun _ => rfl) (settle_frozen c b s)
@[simp] theorem settle_joinRecord : (settle c b s).mu.joinRecord = s.mu.joinRecord :=
  eq_of_frozen (·.mu.joinRecord) (fun _ => rfl) (settle_frozen c b s)
@[simp] theorem settle_populated : (settle c b s).mu.populated = s.mu.populated :=
  eq_of_frozen (·.mu.populated) (fun _ => rfl) (settle_frozen c b s)
@[simp] theorem settle_newlyPopulated : (settle c b s).mu.newlyPopulated = s.mu.newlyPopulated :=
  eq_of_frozen (·.mu.newlyPopulated) (fun _ => rfl) (settle_frozen c b s)
@[simp] theorem settle_nextSegment : (settle c b s).mu.nextSegment = s.mu.nextSegment :=
  eq_of_frozen (·.mu.nextSegment) (fun _ => rfl) (settle_frozen c b s)
@[simp] theorem settle_listen : (settle c b s).mu.listen = s.mu.listen :=
  eq_of_frozen (·.mu.listen) (fun _ => rfl) (settle_frozen c b s)
@[simp] theorem settle_restartHold : (settle c b s).mu.restartHold = s.mu.restartHold :=
  eq_of_frozen (·.mu.restartHold) (fun _ => rfl) (settle_frozen c b s)
@[simp] theorem settle_burstHold : (settle c b s).mu.burstHold = s.mu.burstHold :=
  eq_of_frozen (·.mu.burstHold) (fun _ => rfl) (settle_frozen c b s)
@[simp] theorem settle_joinWait : (settle c b s).mu.joinWait = s.mu.joinWait :=
  eq_of_frozen (·.mu.joinWait) (fun _ => rfl) (settle_frozen c b s)
@[simp] theorem settle_load : (settle c b s).mu.load = s.mu.load :=
  eq_of_frozen (·.mu.load) (fun _ => rfl) (settle_frozen c b s)
@[simp] theorem settle_presence : (settle c b s).mu.presence = s.mu.presence :=
  eq_of_frozen (·.mu.presence) (fun _ => rfl) (settle_frozen c b s)
@[simp] theorem settle_quiet : (settle c b s).mu.quiet = s.mu.quiet :=
  eq_of_frozen (·.mu.quiet) (fun _ => rfl) (settle_frozen c b s)
@[simp] theorem settle_shares : (settle c b s).sa.shares = s.sa.shares :=
  eq_of_frozen (·.sa.shares) (fun _ => rfl) (settle_frozen c b s)
@[simp] theorem settle_curtail : (settle c b s).sa.curtail = s.sa.curtail :=
  eq_of_frozen (·.sa.curtail) (fun _ => rfl) (settle_frozen c b s)
@[simp] theorem settle_claims : (settle c b s).sa.claims = s.sa.claims :=
  eq_of_frozen (·.sa.claims) (fun _ => rfl) (settle_frozen c b s)
@[simp] theorem settle_sampleTimer : (settle c b s).ts.sampleTimer = s.ts.sampleTimer :=
  eq_of_frozen (·.ts.sampleTimer) (fun _ => rfl) (settle_frozen c b s)
@[simp] theorem settle_window : (settle c b s).ts.window = s.ts.window :=
  eq_of_frozen (·.ts.window) (fun _ => rfl) (settle_frozen c b s)
@[simp] theorem settle_chamberLevel : (settle c b s).ts.chamberLevel = s.ts.chamberLevel :=
  eq_of_frozen (·.ts.chamberLevel) (fun _ => rfl) (settle_frozen c b s)
@[simp] theorem settle_chamberQuality : (settle c b s).ts.chamberQuality = s.ts.chamberQuality :=
  eq_of_frozen (·.ts.chamberQuality) (fun _ => rfl) (settle_frozen c b s)
@[simp] theorem settle_tankLevel : (settle c b s).ts.tankLevel = s.ts.tankLevel :=
  eq_of_frozen (·.ts.tankLevel) (fun _ => rfl) (settle_frozen c b s)
@[simp] theorem settle_tankQuality : (settle c b s).ts.tankQuality = s.ts.tankQuality :=
  eq_of_frozen (·.ts.tankQuality) (fun _ => rfl) (settle_frozen c b s)
@[simp] theorem settle_tide : (settle c b s).ts.tide = s.ts.tide :=
  eq_of_frozen (·.ts.tide) (fun _ => rfl) (settle_frozen c b s)
@[simp] theorem settle_tideStable : (settle c b s).ts.tideStable = s.ts.tideStable :=
  eq_of_frozen (·.ts.tideStable) (fun _ => rfl) (settle_frozen c b s)
@[simp] theorem settle_tideLock : (settle c b s).ts.tideLock = s.ts.tideLock :=
  eq_of_frozen (·.ts.tideLock) (fun _ => rfl) (settle_frozen c b s)
@[simp] theorem settle_inlet : (settle c b s).ts.inlet = s.ts.inlet :=
  eq_of_frozen (·.ts.inlet) (fun _ => rfl) (settle_frozen c b s)
@[simp] theorem settle_readiness : (settle c b s).srm.readiness = s.srm.readiness :=
  eq_of_frozen (·.srm.readiness) (fun _ => rfl) (settle_frozen c b s)
@[simp] theorem settle_stepWindow : (settle c b s).srm.stepWindow = s.srm.stepWindow :=
  eq_of_frozen (·.srm.stepWindow) (fun _ => rfl) (settle_frozen c b s)
@[simp] theorem settle_stepFresh : (settle c b s).srm.stepFresh = s.srm.stepFresh :=
  eq_of_frozen (·.srm.stepFresh) (fun _ => rfl) (settle_frozen c b s)
@[simp] theorem settle_trigger : (settle c b s).srm.trigger = s.srm.trigger :=
  eq_of_frozen (·.srm.trigger) (fun _ => rfl) (settle_frozen c b s)
@[simp] theorem settle_log : (settle c b s).rs.log = s.rs.log :=
  eq_of_frozen (·.rs.log) (fun _ => rfl) (settle_frozen c b s)
@[simp] theorem settle_written : (settle c b s).rs.written = s.rs.written :=
  eq_of_frozen (·.rs.written) (fun _ => rfl) (settle_frozen c b s)
@[simp] theorem settle_discarded : (settle c b s).rs.discarded = s.rs.discarded :=
  eq_of_frozen (·.rs.discarded) (fun _ => rfl) (settle_frozen c b s)
@[simp] theorem settle_overwritten : (settle c b s).rs.overwritten = s.rs.overwritten :=
  eq_of_frozen (·.rs.overwritten) (fun _ => rfl) (settle_frozen c b s)
@[simp] theorem settle_activity : (settle c b s).ac.activity = s.ac.activity :=
  eq_of_frozen (·.ac.activity) (fun _ => rfl) (settle_frozen c b s)
@[simp] theorem settle_recovery : (settle c b s).ac.recovery = s.ac.recovery :=
  eq_of_frozen (·.ac.recovery) (fun _ => rfl) (settle_frozen c b s)

end

end Sys2Proof.Machine
end

