-- ==== Sys2Proof/Laws/KeepsBooks.lean ====
section
/-! SUPPORT. The operations that leave the counts and the log as they were: one line each. -/

namespace Sys2Proof.Machine

open Sys2Proof

set_option linter.unusedTactic false
set_option linter.unnecessarySeqFocus false
set_option linter.unreachableTactic false

@[simp] theorem mapCl_books (s : State) (f : ClState → ClState) :
    (s.mapCl f).books = s.books := rfl

@[simp] theorem mapLc_books (s : State) (f : LcState → LcState) :
    (s.mapLc f).books = s.books := rfl

@[simp] theorem mapMu_books (s : State) (f : MuState → MuState) :
    (s.mapMu f).books = s.books := rfl

@[simp] theorem mapSa_books (s : State) (f : SaState → SaState) :
    (s.mapSa f).books = s.books := rfl

@[simp] theorem mapTs_books (s : State) (f : TsState → TsState) :
    (s.mapTs f).books = s.books := rfl

@[simp] theorem mapRu_books (s : State) (f : RuState → RuState) :
    (s.mapRu f).books = s.books := rfl

@[simp] theorem mapSrm_books (s : State) (f : SrmState → SrmState) :
    (s.mapSrm f).books = s.books := rfl

@[simp] theorem mapSc_books (s : State) (f : ScState → ScState)
    (h0 : ∀ x, (f x).total = x.total) (h1 : ∀ x, (f x).episode = x.episode) (h2 : ∀ x, (f x).record.isSome = x.record.isSome) :
    (s.mapSc f).books = s.books := by
  simp [State.books, h0, h1, h2]

@[simp] theorem mapRs_books (s : State) (f : RsState → RsState)
    (h0 : ∀ x, (f x).log = x.log) (h1 : ∀ x, (f x).written = x.written) (h2 : ∀ x, (f x).discarded = x.discarded) (h3 : ∀ x, (f x).overwritten = x.overwritten) :
    (s.mapRs f).books = s.books := by
  simp [State.books, h0, h1, h2, h3]

@[simp] theorem mapAc_books (s : State) (f : AcState → AcState) :
    (s.mapAc f).books = s.books := rfl

@[simp] theorem settle_books (c : Image) (b s : State) : (settle c b s).books = s.books := by
  simp [State.books]

@[simp] theorem setSlot_books (s : State) (id : SlotId) (x : Slot) :
    (s.setSlot id x).books = s.books := by
  unfold State.setSlot; (try dsimp only); (repeat' split) <;> first | with_reducible rfl | simp

@[simp] theorem writeSlot_books (s : State) (id : SlotId) (c : Content) :
    (s.writeSlot id c).books = s.books := by
  unfold State.writeSlot; (try dsimp only); (repeat' split) <;> first | with_reducible rfl | simp

@[simp] theorem cancelSlot_books (s : State) (id : SlotId) :
    (s.cancelSlot id).books = s.books := by
  unfold State.cancelSlot; (try dsimp only); (repeat' split) <;> first | with_reducible rfl | simp

@[simp] theorem pruneSlot_books (s : State) (id : SlotId) (stations : List Nat) :
    (s.pruneSlot id stations).books = s.books := by
  unfold State.pruneSlot; (try dsimp only); (repeat' split) <;> first | with_reducible rfl | simp

@[simp] theorem mapEntry_books (s : State) (n : Nat) (f : RosterEntry → RosterEntry) :
    (s.mapEntry n f).books = s.books := by
  unfold State.mapEntry; (try dsimp only); (repeat' split) <;> first | with_reducible rfl | simp

@[simp] theorem clearEntry_books (s : State) (n : Nat) :
    (s.clearEntry n).books = s.books := by
  unfold State.clearEntry; (try dsimp only); (repeat' split) <;> first | with_reducible rfl | simp

@[simp] theorem reorderClaims_books (s : State)  :
    (s.reorderClaims).books = s.books := by
  unfold State.reorderClaims; (try dsimp only); (repeat' split) <;> first | with_reducible rfl | simp

@[simp] theorem writeNotice_books (s : State) (c : Image) (id : SlotId) (content : Content) :
    (s.writeNotice c id content).books = s.books := by
  unfold State.writeNotice; (try dsimp only); (repeat' split) <;> first | with_reducible rfl | simp

@[simp] theorem joinNews_books (s : State) (f : Flag) :
    (s.joinNews f).books = s.books := rfl

@[simp] theorem latch_books (s : State) (c : Image) (f : Flag) :
    (s.latch c f).books = s.books := by
  unfold State.latch; (try dsimp only); (repeat' split) <;> first | with_reducible rfl | simp

@[simp] theorem latchIfStanding_books (s : State) (c : Image) (f : Flag) :
    (s.latchIfStanding c f).books = s.books := by
  unfold State.latchIfStanding; (try dsimp only); (repeat' split) <;> first | with_reducible rfl | simp

@[simp] theorem latchStanding_books (s : State) (c : Image) :
    (s.latchStanding c).books = s.books := by
  unfold State.latchStanding; (try dsimp only); (repeat' split) <;> first | with_reducible rfl | simp

@[simp] theorem writeStatus_books (s : State)  :
    (s.writeStatus).books = s.books := by
  unfold State.writeStatus; (try dsimp only); (repeat' split) <;> first | with_reducible rfl | simp

@[simp] theorem statusForChange_books (s : State)  :
    (s.statusForChange).books = s.books := by
  unfold State.statusForChange; (try dsimp only); (repeat' split) <;> first | with_reducible rfl | simp

@[simp] theorem writeReplies_books (s : State) (n : Nat) (ids : List SlotId) (rs : List Reply) :
    (s.writeReplies n ids rs).books = s.books := by
  induction ids generalizing s rs with
  | nil => cases rs <;> rfl
  | cons id ids ih =>
    cases rs with
    | nil => rfl
    | cons r rs => simp only [State.writeReplies, ih, writeSlot_books]

@[simp] theorem serviceMove_books (s : State) (c : Image) :
    (s.serviceMove c).books = s.books := by
  unfold State.serviceMove; (try dsimp only); (repeat' split) <;> first | with_reducible rfl | simp

@[simp] theorem serviceMoves_books (s : State) (c : Image) (n : Nat) :
    (s.serviceMoves c n).books = s.books := by
  induction n generalizing s with
  | zero => rfl
  | succ n ih => simp only [State.serviceMoves, ih, serviceMove_books]

@[simp] theorem runService_books (s : State) (c : Image) :
    (s.runService c).books = s.books := by
  unfold State.runService; (try dsimp only); (repeat' split) <;> first | with_reducible rfl | simp

@[simp] theorem mapRecord_books (s : State) (f : SpillRecord → SpillRecord) :
    (s.mapRecord f).books = s.books := by
  unfold State.mapRecord; (try dsimp only); (repeat' split) <;> first | with_reducible rfl | simp

@[simp] theorem unknownSample_books (s : State)  :
    (s.unknownSample).books = s.books := by
  unfold State.unknownSample; (try dsimp only); (repeat' split) <;> first | with_reducible rfl | simp

@[simp] theorem stormFlag_books (s : State)  :
    (s.stormFlag).books = s.books := by
  unfold State.stormFlag; (try dsimp only); (repeat' split) <;> first | with_reducible rfl | simp

@[simp] theorem newPeriod_books (s : State)  :
    (s.newPeriod).books = s.books := by
  unfold State.newPeriod; (try dsimp only); (repeat' split) <;> first | with_reducible rfl | simp

@[simp] theorem releaseShares_books (s : State) (set : List Nat) :
    (s.releaseShares set).books = s.books := by
  unfold State.releaseShares; (try dsimp only); (repeat' split) <;> first | with_reducible rfl | simp

@[simp] theorem releaseAll_books (s : State) (c : Image) :
    (s.releaseAll c).books = s.books := by
  unfold State.releaseAll; (try dsimp only); (repeat' split) <;> first | with_reducible rfl | simp

@[simp] theorem wantToClaim_books (s : State) (c : Image) (urgency : Nat) :
    (s.wantToClaim c urgency).books = s.books := by
  unfold State.wantToClaim; (try dsimp only); (repeat' split) <;> first | with_reducible rfl | simp

@[simp] theorem requestWithdraw_books (s : State) (c : Image) :
    (s.requestWithdraw c).books = s.books := by
  unfold State.requestWithdraw; (try dsimp only); (repeat' split) <;> first | with_reducible rfl | simp

@[simp] theorem dropOutgoing_books (s : State) (set : List Nat) :
    (s.dropOutgoing set).books = s.books := by
  unfold State.dropOutgoing; (try dsimp only); (repeat' split) <;> first | with_reducible rfl | simp

@[simp] theorem voidShares_books (s : State)  :
    (s.voidShares).books = s.books := by
  unfold State.voidShares; (try dsimp only); (repeat' split) <;> first | with_reducible rfl | simp

@[simp] theorem foundShares_books (s : State) (c : Image) :
    (s.foundShares c).books = s.books := by
  unfold State.foundShares; (try dsimp only); (repeat' split) <;> first | with_reducible rfl | simp

@[simp] theorem returnWhere_books (s : State) (p : Nat → Share → Bool) :
    (s.returnWhere p).books = s.books := by
  unfold State.returnWhere; (try dsimp only); (repeat' split) <;> first | with_reducible rfl | simp

@[simp] theorem dropClaim_books (s : State) (n : Nat) :
    (s.dropClaim n).books = s.books := by
  unfold State.dropClaim; (try dsimp only); (repeat' split) <;> first | with_reducible rfl | simp

@[simp] theorem setUrgency_books (s : State) (n urgency : Nat) :
    (s.setUrgency n urgency).books = s.books := by
  unfold State.setUrgency; (try dsimp only); (repeat' split) <;> first | with_reducible rfl | simp

@[simp] theorem claimShares_books (s : State) (n count : Nat) :
    (s.claimShares n count).books = s.books := by
  unfold State.claimShares; (try dsimp only); (repeat' split) <;> first | with_reducible rfl | simp

@[simp] theorem takeClaim_books (s : State) (n urgency field : Nat) :
    (s.takeClaim n urgency field).books = s.books := by
  unfold State.takeClaim; (try dsimp only); (repeat' split) <;> first | with_reducible rfl | simp

@[simp] theorem takeRelease_books (s : State) (n : Nat) (set : List Nat) :
    (s.takeRelease n set).books = s.books := by
  unfold State.takeRelease; (try dsimp only); (repeat' split) <;> first | with_reducible rfl | simp

@[simp] theorem takeYield_books (s : State) (n share : Nat) :
    (s.takeYield n share).books = s.books := by
  unfold State.takeYield; (try dsimp only); (repeat' split) <;> first | with_reducible rfl | simp

@[simp] theorem takeCurtail_books (s : State) (c : Image) (q : Nat) :
    (s.takeCurtail c q).books = s.books := by
  unfold State.takeCurtail; (try dsimp only); (repeat' split) <;> first | with_reducible rfl | simp

@[simp] theorem strand_books (s : State) (n : Nat) :
    (s.strand n).books = s.books := by
  unfold State.strand; (try dsimp only); (repeat' split) <;> first | with_reducible rfl | simp

@[simp] theorem reclaimShares_books (s : State) (stations : List Nat) :
    (s.reclaimShares stations).books = s.books := by
  unfold State.reclaimShares; (try dsimp only); (repeat' split) <;> first | with_reducible rfl | simp

@[simp] theorem rejoinShares_books (s : State) (n : Nat) :
    (s.rejoinShares n).books = s.books := by
  unfold State.rejoinShares; (try dsimp only); (repeat' split) <;> first | with_reducible rfl | simp

@[simp] theorem yieldIfNamed_books (s : State) (c : Image) :
    (s.yieldIfNamed c).books = s.books := by
  unfold State.yieldIfNamed; (try dsimp only); (repeat' split) <;> first | with_reducible rfl | simp

@[simp] theorem curtailRelease_books (s : State) (c : Image) (q : Nat) :
    (s.curtailRelease c q).books = s.books := by
  unfold State.curtailRelease; (try dsimp only); (repeat' split) <;> first | with_reducible rfl | simp

@[simp] theorem releaseArrivals_books (s : State) (c : Image) :
    (s.releaseArrivals c).books = s.books := by
  unfold State.releaseArrivals; (try dsimp only); (repeat' split) <;> first | with_reducible rfl | simp

@[simp] theorem rejoinOutgoing_books (s : State) (c : Image) :
    (s.rejoinOutgoing c).books = s.books := by
  unfold State.rejoinOutgoing; (try dsimp only); (repeat' split) <;> first | with_reducible rfl | simp

@[simp] theorem parkingRelease_books (s : State) (c : Image) :
    (s.parkingRelease c).books = s.books := by
  unfold State.parkingRelease; (try dsimp only); (repeat' split) <;> first | with_reducible rfl | simp

@[simp] theorem drawFree_books (s : State)  :
    (s.drawFree).books = s.books := by
  rfl

@[simp] theorem yieldAndPark_books (s before : State) (c : Image) :
    (s.yieldAndPark before c).books = s.books := by
  unfold State.yieldAndPark; (try dsimp only); (repeat' split) <;> first | with_reducible rfl | simp

@[simp] theorem completeRelease_books (s : State) (c : Image) :
    (s.completeRelease c).books = s.books := by
  unfold State.completeRelease; (try dsimp only); (repeat' split) <;> first | with_reducible rfl | simp

@[simp] theorem afterFrame_books (s before : State) (c : Image) :
    (s.afterFrame before c).books = s.books := by
  unfold State.afterFrame; (try dsimp only); (repeat' split) <;> first | with_reducible rfl | simp

@[simp] theorem holdSample_books (s : State) (chamber tank : Channel) :
    (s.holdSample chamber tank).books = s.books := by
  unfold State.holdSample; (try dsimp only); (repeat' split) <;> first | with_reducible rfl | simp

@[simp] theorem evaluateTideLock_books (s : State) (c : Image) :
    (s.evaluateTideLock c).books = s.books := by
  unfold State.evaluateTideLock; (try dsimp only); (repeat' split) <;> first | with_reducible rfl | simp

@[simp] theorem recomputeUrgency_books (s : State) (c : Image) :
    (s.recomputeUrgency c).books = s.books := by
  unfold State.recomputeUrgency; (try dsimp only); (repeat' split) <;> first | with_reducible rfl | simp

@[simp] theorem inletSample_books (s : State) (c : Image) (chamber : Channel) :
    (s.inletSample c chamber).books = s.books := by
  unfold State.inletSample; (try dsimp only); (repeat' split) <;> first | with_reducible rfl | simp

@[simp] theorem setDrain_books (s : State) (d : Drain) :
    (s.setDrain d).books = s.books := by
  unfold State.setDrain; (try dsimp only); (repeat' split) <;> first | with_reducible rfl | simp

@[simp] theorem stopDrain_books (s : State)  :
    (s.stopDrain).books = s.books := by
  unfold State.stopDrain; (try dsimp only); (repeat' split) <;> first | with_reducible rfl | simp

@[simp] theorem askClaim_books (s : State) (c : Image) :
    (s.askClaim c).books = s.books := by
  unfold State.askClaim; (try dsimp only); (repeat' split) <;> first | with_reducible rfl | simp

@[simp] theorem testClaim_books (s : State) (c : Image) :
    (s.testClaim c).books = s.books := by
  unfold State.testClaim; (try dsimp only); (repeat' split) <;> first | with_reducible rfl | simp

@[simp] theorem withdrawIfOut_books (s : State) (c : Image) :
    (s.withdrawIfOut c).books = s.books := by
  unfold State.withdrawIfOut; (try dsimp only); (repeat' split) <;> first | with_reducible rfl | simp

@[simp] theorem failedTank_books (s : State) (c : Image) :
    (s.failedTank c).books = s.books := by
  unfold State.failedTank; (try dsimp only); (repeat' split) <;> first | with_reducible rfl | simp

@[simp] theorem park_books (s : State) (c : Image) :
    (s.park c).books = s.books := by
  unfold State.park; (try dsimp only); (repeat' split) <;> first | with_reducible rfl | simp

@[simp] theorem drainSample_books (s : State) (c : Image) :
    (s.drainSample c).books = s.books := by
  unfold State.drainSample; (try dsimp only); (repeat' split) <;> first | with_reducible rfl | simp

@[simp] theorem judgeParked_books (s : State) (c : Image) :
    (s.judgeParked c).books = s.books := by
  unfold State.judgeParked; (try dsimp only); (repeat' split) <;> first | with_reducible rfl | simp

@[simp] theorem drainReport_books (s : State) (c : Image) :
    (s.drainReport c).books = s.books := by
  unfold State.drainReport; (try dsimp only); (repeat' split) <;> first | with_reducible rfl | simp

@[simp] theorem drainStep_books (s before : State) (c : Image) :
    (s.drainStep before c).books = s.books := by
  unfold State.drainStep; (try dsimp only); (repeat' split) <;> first | with_reducible rfl | simp

@[simp] theorem setValve_books (s : State) (c : Image) :
    (s.setValve c).books = s.books := by
  unfold State.setValve; (try dsimp only); (repeat' split) <;> first | with_reducible rfl | simp

@[simp] theorem markWake_books (s : State)  :
    (s.markWake).books = s.books := by
  unfold State.markWake; (try dsimp only); (repeat' split) <;> first | with_reducible rfl | simp

@[simp] theorem restDrain_books (s : State) (c : Image) :
    (s.restDrain c).books = s.books := by
  unfold State.restDrain; (try dsimp only); (repeat' split) <;> first | with_reducible rfl | simp

@[simp] theorem enterDormant_books (s : State) (c : Image) :
    (s.enterDormant c).books = s.books := by
  unfold State.enterDormant; (try dsimp only); (repeat' split) <;> first | with_reducible rfl | simp

@[simp] theorem enterWaking_books (s : State) (c : Image) :
    (s.enterWaking c).books = s.books := by
  unfold State.enterWaking; (try dsimp only); (repeat' split) <;> first | with_reducible rfl | simp

@[simp] theorem wakeTrigger_books (s : State) (c : Image) :
    (s.wakeTrigger c).books = s.books := by
  unfold State.wakeTrigger; (try dsimp only); (repeat' split) <;> first | with_reducible rfl | simp

@[simp] theorem watchDormancy_books (s : State) (c : Image) :
    (s.watchDormancy c).books = s.books := by
  unfold State.watchDormancy; (try dsimp only); (repeat' split) <;> first | with_reducible rfl | simp

@[simp] theorem resetActivity_books (s : State)  :
    (s.resetActivity).books = s.books := by
  unfold State.resetActivity; (try dsimp only); (repeat' split) <;> first | with_reducible rfl | simp

@[simp] theorem writeAlert_books (s : State) (c : Image) :
    (s.writeAlert c).books = s.books := by
  unfold State.writeAlert; (try dsimp only); (repeat' split) <;> first | with_reducible rfl | simp

@[simp] theorem evaluateLocal_books (s : State) (c : Image) :
    (s.evaluateLocal c).books = s.books := by
  unfold State.evaluateLocal; (try dsimp only); (repeat' split) <;> first | with_reducible rfl | simp

@[simp] theorem rewriteAlert_books (s : State) (c : Image) :
    (s.rewriteAlert c).books = s.books := by
  unfold State.rewriteAlert; (try dsimp only); (repeat' split) <;> first | with_reducible rfl | simp

@[simp] theorem completeBucket_books (s : State)  :
    (s.completeBucket).books = s.books := by
  unfold State.completeBucket; (try dsimp only); (repeat' split) <;> first | with_reducible rfl | simp

@[simp] theorem mapZone_books (s : State) (zone : Nat) (f : ZoneEntry → ZoneEntry) :
    (s.mapZone zone f).books = s.books := by
  unfold State.mapZone; (try dsimp only); (repeat' split) <;> first | with_reducible rfl | simp

@[simp] theorem validateAlerts_books (s : State)  :
    (s.validateAlerts).books = s.books := by
  unfold State.validateAlerts; (try dsimp only); (repeat' split) <;> first | with_reducible rfl | simp

@[simp] theorem voidAlerts_books (s : State)  :
    (s.voidAlerts).books = s.books := by
  unfold State.voidAlerts; (try dsimp only); (repeat' split) <;> first | with_reducible rfl | simp

@[simp] theorem ageAlerts_books (s : State)  :
    (s.ageAlerts).books = s.books := by
  unfold State.ageAlerts; (try dsimp only); (repeat' split) <;> first | with_reducible rfl | simp

@[simp] theorem ageWindow_books (s : State)  :
    (s.ageWindow).books = s.books := by
  unfold State.ageWindow; (try dsimp only); (repeat' split) <;> first | with_reducible rfl | simp

@[simp] theorem readinessEvent_books (s : State) (c : Image) (g : Grade) (source : Option Nat) :
    (s.readinessEvent c g source).books = s.books := by
  unfold State.readinessEvent; (try dsimp only); (repeat' split) <;> first | with_reducible rfl | simp

@[simp] theorem alertEvent_books (s : State) (c : Image) :
    (s.alertEvent c).books = s.books := by
  unfold State.alertEvent; (try dsimp only); (repeat' split) <;> first | with_reducible rfl | simp

@[simp] theorem controlCalm_books (s : State) (c : Image) :
    (s.controlCalm c).books = s.books := by
  unfold State.controlCalm; (try dsimp only); (repeat' split) <;> first | with_reducible rfl | simp

@[simp] theorem emptySlot_books (s : State) (c : Image) (id : SlotId) :
    (s.emptySlot c id).books = s.books := by
  unfold State.emptySlot; (try dsimp only); (repeat' split) <;> first | with_reducible rfl | simp

@[simp] theorem emptySlots_books (s : State) (c : Image) (ids : List SlotId) :
    (s.emptySlots c ids).books = s.books := by
  exact foldl_keeps (fun x => x.books) _ (fun t id => emptySlot_books t c id) ids s

@[simp] theorem emptyAll_books (s : State) (c : Image) :
    (s.emptyAll c).books = s.books := by
  unfold State.emptyAll; (try dsimp only); (repeat' split) <;> first | with_reducible rfl | simp

@[simp] theorem rewriteNotices_books (s old : State)  :
    (s.rewriteNotices old).books = s.books := by
  refine foldl_keeps (fun x => x.books) _ (fun t id => ?_) noticeSlots s
  try dsimp only
  split <;> simp

@[simp] theorem leaveTables_books (s : State)  :
    (s.leaveTables).books = s.books := by
  unfold State.leaveTables; (try dsimp only); (repeat' split) <;> first | with_reducible rfl | simp

@[simp] theorem emptyQueue_books (s : State)  :
    (s.emptyQueue).books = s.books := by
  unfold State.emptyQueue; (try dsimp only); (repeat' split) <;> first | with_reducible rfl | simp

@[simp] theorem setMembership_books (s : State) (m : Membership) :
    (s.setMembership m).books = s.books := by
  unfold State.setMembership; (try dsimp only); (repeat' split) <;> first | with_reducible rfl | simp

@[simp] theorem enterFallback_books (s : State) (c : Image) :
    (s.enterFallback c).books = s.books := by
  unfold State.enterFallback; (try dsimp only); (repeat' split) <;> first | with_reducible rfl | simp

@[simp] theorem enterIsolated_books (s : State) (c : Image) :
    (s.enterIsolated c).books = s.books := by
  unfold State.enterIsolated; (try dsimp only); (repeat' split) <;> first | with_reducible rfl | simp

@[simp] theorem enterListening_books (s : State) (c : Image) (hold : Bool) :
    (s.enterListening c hold).books = s.books := by
  unfold State.enterListening; (try dsimp only); (repeat' split) <;> first | with_reducible rfl | simp

@[simp] theorem takeRestart_books (s : State) (c : Image) :
    (s.takeRestart c).books = s.books := by
  unfold State.takeRestart; (try dsimp only); (repeat' split) <;> first | with_reducible rfl | simp

@[simp] theorem discardLoad_books (s : State)  :
    (s.discardLoad).books = s.books := by
  unfold State.discardLoad; (try dsimp only); (repeat' split) <;> first | with_reducible rfl | simp

@[simp] theorem spoilJoin_books (s : State) (c : Image) :
    (s.spoilJoin c).books = s.books := by
  unfold State.spoilJoin; (try dsimp only); (repeat' split) <;> first | with_reducible rfl | simp

@[simp] theorem failJoin_books (s : State) (c : Image) :
    (s.failJoin c).books = s.books := by
  unfold State.failJoin; (try dsimp only); (repeat' split) <;> first | with_reducible rfl | simp

@[simp] theorem isolateFor_books (s : State) (c : Image) (f : Flag) :
    (s.isolateFor c f).books = s.books := by
  unfold State.isolateFor; (try dsimp only); (repeat' split) <;> first | with_reducible rfl | simp

@[simp] theorem enterLinked_books (s : State) (c : Image) :
    (s.enterLinked c).books = s.books := by
  unfold State.enterLinked; (try dsimp only); (repeat' split) <;> first | with_reducible rfl | simp

@[simp] theorem found_books (s : State) (c : Image) :
    (s.found c).books = s.books := by
  unfold State.found; (try dsimp only); (repeat' split) <;> first | with_reducible rfl | simp

@[simp] theorem linkLoaded_books (s : State) (c : Image) :
    (s.linkLoaded c).books = s.books := by
  unfold State.linkLoaded; (try dsimp only); (repeat' split) <;> first | with_reducible rfl | simp

@[simp] theorem endLock_books (s : State) (c : Image) :
    (s.endLock c).books = s.books := by
  unfold State.endLock; (try dsimp only); (repeat' split) <;> first | with_reducible rfl | simp

@[simp] theorem spoil_books (s : State) (c : Image) :
    (s.spoil c).books = s.books := by
  unfold State.spoil; (try dsimp only); (repeat' split) <;> first | with_reducible rfl | simp

@[simp] theorem watchSilence_books (s : State) (c : Image) :
    (s.watchSilence c).books = s.books := by
  unfold State.watchSilence; (try dsimp only); (repeat' split) <;> first | with_reducible rfl | simp

@[simp] theorem writeJoinIfDue_books (s : State) (c : Image) :
    (s.writeJoinIfDue c).books = s.books := by
  unfold State.writeJoinIfDue; (try dsimp only); (repeat' split) <;> first | with_reducible rfl | simp

@[simp] theorem startFlight_books (s : State) (c : Image) (id : SlotId) :
    (s.startFlight c id).books = s.books := by
  unfold State.startFlight; (try dsimp only); (repeat' split) <;> first | with_reducible rfl | simp

@[simp] theorem offerIfStillIdle_books (s : State) (c : Image) (id : SlotId) :
    (s.offerIfStillIdle c id).books = s.books := by
  unfold State.offerIfStillIdle; (try dsimp only); (repeat' split) <;> first | with_reducible rfl | simp

@[simp] theorem offer_books (s : State) (c : Image) (fresh : Bool) :
    (s.offer c fresh).books = s.books := by
  unfold State.offer; (try dsimp only); (repeat' split) <;> first | with_reducible rfl | simp

@[simp] theorem statusOnChange_books (s before : State)  :
    (s.statusOnChange before).books = s.books := by
  unfold State.statusOnChange; (try dsimp only); (repeat' split) <;> first | with_reducible rfl | simp

@[simp] theorem endField_books (s : State) (marks : Marks) :
    (s.endField marks).books = s.books := by
  unfold State.endField; (try dsimp only); (repeat' split) <;> first | with_reducible rfl | simp

@[simp] theorem reportEmptied_books (s : State) (id : SlotId) :
    (s.reportEmptied id).books = s.books := by
  unfold State.reportEmptied; (try dsimp only); (repeat' split) <;> first | with_reducible rfl | simp

@[simp] theorem failFlight_books (s : State)  :
    (s.failFlight).books = s.books := by
  unfold State.failFlight; (try dsimp only); (repeat' split) <;> first | with_reducible rfl | simp

@[simp] theorem bookkeep_books (s : State) (a : Arrival) :
    (s.bookkeep a).books = s.books := by
  unfold State.bookkeep; (try dsimp only); (repeat' split) <;> first | with_reducible rfl | simp

@[simp] theorem hearEntry_books (s : State) (c : Image) (n : Nat) :
    (s.hearEntry c n).books = s.books := by
  unfold State.hearEntry; (try dsimp only); (repeat' split) <;> first | with_reducible rfl | simp

@[simp] theorem hearSilence_books (s : State) (c : Image) (a : Arrival) :
    (s.hearSilence c a).books = s.books := by
  unfold State.hearSilence; (try dsimp only); (repeat' split) <;> first | with_reducible rfl | simp

@[simp] theorem hearPopulated_books (s : State) (f : Frame) :
    (s.hearPopulated f).books = s.books := by
  unfold State.hearPopulated; (try dsimp only); (repeat' split) <;> first | with_reducible rfl | simp

@[simp] theorem hear_books (s : State) (c : Image) (a : Arrival) (f : Frame) :
    (s.hear c a f).books = s.books := by
  unfold State.hear; (try dsimp only); (repeat' split) <;> first | with_reducible rfl | simp

@[simp] theorem restartPresence_books (s : State) (c : Image) (a : Arrival) :
    (s.restartPresence c a).books = s.books := by
  unfold State.restartPresence; (try dsimp only); (repeat' split) <;> first | with_reducible rfl | simp

@[simp] theorem concluded_books (s : State) (c : Image) (f : Frame) :
    (s.concluded c f).books = s.books := by
  unfold State.concluded; (try dsimp only); (repeat' split) <;> first | with_reducible rfl | simp

@[simp] theorem heardFrame_books (s : State) (c : Image) (f : Frame) :
    (s.heardFrame c f).books = s.books := by
  unfold State.heardFrame; (try dsimp only); (repeat' split) <;> first | with_reducible rfl | simp

@[simp] theorem ownerDone_books (s : State) (c : Image) (a : Arrival) (f : Frame) :
    (s.ownerDone c a f).books = s.books := by
  unfold State.ownerDone; (try dsimp only); (repeat' split) <;> first | with_reducible rfl | simp

@[simp] theorem request_books (s : State) (seconds : Nat) :
    (s.request seconds).books = s.books := by
  unfold State.request; (try dsimp only); (repeat' split) <;> first | with_reducible rfl | simp

@[simp] theorem goodLoad_books (s : State) (c : Image) :
    (s.goodLoad c).books = s.books := by
  unfold State.goodLoad; (try dsimp only); (repeat' split) <;> first | with_reducible rfl | simp

@[simp] theorem badLoad_books (s : State)  :
    (s.badLoad).books = s.books := by
  unfold State.badLoad; (try dsimp only); (repeat' split) <;> first | with_reducible rfl | simp

@[simp] theorem failedAttempt_books (s : State)  :
    (s.failedAttempt).books = s.books := by
  unfold State.failedAttempt; (try dsimp only); (repeat' split) <;> first | with_reducible rfl | simp

@[simp] theorem readAttempt_books (s : State) (read : ReadAttempt) :
    (s.readAttempt read).books = s.books := by
  unfold State.readAttempt; (try dsimp only); (repeat' split) <;> first | with_reducible rfl | simp

@[simp] theorem localEvent_books (s : State) (c : Image) :
    (s.localEvent c).books = s.books := by
  unfold State.localEvent; (try dsimp only); (repeat' split) <;> first | with_reducible rfl | simp

@[simp] theorem countPulse_books (s : State) (c : Image) (time : Nat) :
    (s.countPulse c time).books = s.books := by
  unfold State.countPulse; (try dsimp only); (repeat' split) <;> first | with_reducible rfl | simp

@[simp] theorem timeTide_books (s : State) (level : Tide) :
    (s.timeTide level).books = s.books := by
  unfold State.timeTide; (try dsimp only); (repeat' split) <;> first | with_reducible rfl | simp

@[simp] theorem keepValues_books (s : State) (c : Image) (chamber tank : Channel) :
    (s.keepValues c chamber tank).books = s.books := by
  unfold State.keepValues; (try dsimp only); (repeat' split) <;> first | with_reducible rfl | simp

@[simp] theorem lineBusy_books (s : State)  :
    (s.lineBusy).books = s.books := by
  unfold State.lineBusy; (try dsimp only); (repeat' split) <;> first | with_reducible rfl | simp

@[simp] theorem lineFault_books (s : State) (c : Image) :
    (s.lineFault c).books = s.books := by
  unfold State.lineFault; (try dsimp only); (repeat' split) <;> first | with_reducible rfl | simp

@[simp] theorem abortOwn_books (s : State) (c : Image) :
    (s.abortOwn c).books = s.books := by
  unfold State.abortOwn; (try dsimp only); (repeat' split) <;> first | with_reducible rfl | simp

@[simp] theorem busyOwn_books (s : State)  :
    (s.busyOwn).books = s.books := by
  unfold State.busyOwn; (try dsimp only); (repeat' split) <;> first | with_reducible rfl | simp

@[simp] theorem hearBurst_books (s : State) (c : Image) (segment : Nat) (f : Frame) :
    (s.hearBurst c segment f).books = s.books := by
  unfold State.hearBurst; (try dsimp only); (repeat' split) <;> first | with_reducible rfl | simp

@[simp] theorem enterLoading_books (s : State) (payload : List Byte) :
    (s.enterLoading payload).books = s.books := by
  unfold State.enterLoading; (try dsimp only); (repeat' split) <;> first | with_reducible rfl | simp

@[simp] theorem takeSegment0_books (s : State) (c : Image) (f : Frame) :
    (s.takeSegment0 c f).books = s.books := by
  unfold State.takeSegment0; (try dsimp only); (repeat' split) <;> first | with_reducible rfl | simp

@[simp] theorem loadClaims_books (s : State) (claims : List Claim) :
    (s.loadClaims claims).books = s.books := by
  unfold State.loadClaims; (try dsimp only); (repeat' split) <;> first | with_reducible rfl | simp

@[simp] theorem loadSegment_books (s : State) (c : Image) (segment : Nat) (payload : List Byte) :
    (s.loadSegment c segment payload).books = s.books := by
  unfold State.loadSegment; (try dsimp only); (repeat' split) <;> first | with_reducible rfl | simp

@[simp] theorem takeSegment_books (s : State) (c : Image) (segment : Nat) (f : Frame) :
    (s.takeSegment c segment f).books = s.books := by
  unfold State.takeSegment; (try dsimp only); (repeat' split) <;> first | with_reducible rfl | simp

@[simp] theorem finalSegment_books (s : State) (c : Image) (l : Lock) :
    (s.finalSegment c l).books = s.books := by
  unfold State.finalSegment; (try dsimp only); (repeat' split) <;> first | with_reducible rfl | simp

@[simp] theorem nextBurst_books (s : State) (c : Image) (a : Arrival) (segment : Nat) (l : Lock) :
    (s.nextBurst c a segment l).books = s.books := by
  unfold State.nextBurst; (try dsimp only); (repeat' split) <;> first | with_reducible rfl | simp

@[simp] theorem burstAtLinked_books (s : State) (c : Image) (a : Arrival) (segment : Nat) (f : Frame) :
    (s.burstAtLinked c a segment f).books = s.books := by
  unfold State.burstAtLinked; (try dsimp only); (repeat' split) <;> first | with_reducible rfl | simp

@[simp] theorem takeTable_books (s : State) (c : Image) (a : Arrival) (segment : Nat) (f : Frame) :
    (s.takeTable c a segment f).books = s.books := by
  unfold State.takeTable; (try dsimp only); (repeat' split) <;> first | with_reducible rfl | simp

@[simp] theorem declareAbsent_books (s : State) (c : Image) (n : Nat) :
    (s.declareAbsent c n).books = s.books := by
  unfold State.declareAbsent; (try dsimp only); (repeat' split) <;> first | with_reducible rfl | simp

@[simp] theorem takeAbsent_books (s : State) (c : Image) (named : List Nat) :
    (s.takeAbsent c named).books = s.books := by
  unfold State.takeAbsent
  have h := foldl_keeps (fun x => x.books) (fun t n => t.declareAbsent c n) (fun t n => by simp) (named.filter s.isLinked) s
  dsimp only at h ⊢
  split <;> simp [h]

@[simp] theorem takeReclaim_books (s : State) (named : List Nat) :
    (s.takeReclaim named).books = s.books := by
  unfold State.takeReclaim
  have h := foldl_keeps (fun x => x.books) (fun t n => t.clearEntry n) (fun t n => by simp) (named.filter fun n => decide (s.entryState n = .absent)) (s.reclaimShares (named.filter fun n => decide (s.entryState n = .absent)))
  dsimp only at h ⊢
  simp [h]

@[simp] theorem takeCurtailFrame_books (s : State) (c : Image) (q : Nat) :
    (s.takeCurtailFrame c q).books = s.books := by
  unfold State.takeCurtailFrame; (try dsimp only); (repeat' split) <;> first | with_reducible rfl | simp

@[simp] theorem settleOutgoing_books (s : State) (a : Arrival) (set : List Nat) :
    (s.settleOutgoing a set).books = s.books := by
  unfold State.settleOutgoing; (try dsimp only); (repeat' split) <;> first | with_reducible rfl | simp

@[simp] theorem lateWithdraw_books (s : State) (c : Image) (a : Arrival) :
    (s.lateWithdraw c a).books = s.books := by
  unfold State.lateWithdraw; (try dsimp only); (repeat' split) <;> first | with_reducible rfl | simp

@[simp] theorem ownAlert_books (s : State) (c : Image) (g : Grade) :
    (s.ownAlert c g).books = s.books := by
  unfold State.ownAlert; (try dsimp only); (repeat' split) <;> first | with_reducible rfl | simp

@[simp] theorem heedAlert_books (s : State) (c : Image) (g : Grade) :
    (s.heedAlert c g).books = s.books := by
  unfold State.heedAlert; (try dsimp only); (repeat' split) <;> first | with_reducible rfl | simp

@[simp] theorem takeAlert_books (s : State) (c : Image) (a : Arrival) (origin zone : Nat) (g : Grade) :
    (s.takeAlert c a origin zone g).books = s.books := by
  unfold State.takeAlert; (try dsimp only); (repeat' split) <;> first | with_reducible rfl | simp

@[simp] theorem recordJoin_books (s : State) (n : Nat) :
    (s.recordJoin n).books = s.books := by
  unfold State.recordJoin; (try dsimp only); (repeat' split) <;> first | with_reducible rfl | simp

@[simp] theorem enterJoining_books (s : State) (c : Image) :
    (s.enterJoining c).books = s.books := by
  unfold State.enterJoining; (try dsimp only); (repeat' split) <;> first | with_reducible rfl | simp

@[simp] theorem hearJoin_books (s : State) (n : Nat) :
    (s.hearJoin n).books = s.books := by
  unfold State.hearJoin; (try dsimp only); (repeat' split) <;> first | with_reducible rfl | simp

@[simp] theorem startBurst_books (s : State) (c : Image) (l : Lock) :
    (s.startBurst c l).books = s.books := by
  unfold State.startBurst; (try dsimp only); (repeat' split) <;> first | with_reducible rfl | simp

@[simp] theorem markJoiner_books (s : State) (c : Image) (n : Nat) :
    (s.markJoiner c n).books = s.books := by
  unfold State.markJoiner; (try dsimp only); (repeat' split) <;> first | with_reducible rfl | simp

@[simp] theorem beginLock_books (s : State) (c : Image) (n pool : Nat) :
    (s.beginLock c n pool).books = s.books := by
  unfold State.beginLock; (try dsimp only); (repeat' split) <;> first | with_reducible rfl | simp

@[simp] theorem joinAtLinked_books (s : State) (c : Image) (n pool : Nat) :
    (s.joinAtLinked c n pool).books = s.books := by
  unfold State.joinAtLinked; (try dsimp only); (repeat' split) <;> first | with_reducible rfl | simp

@[simp] theorem takeJoin_books (s : State) (c : Image) (a : Arrival) (n pool : Nat) :
    (s.takeJoin c a n pool).books = s.books := by
  unfold State.takeJoin; (try dsimp only); (repeat' split) <;> first | with_reducible rfl | simp

@[simp] theorem takeStatus_books (s : State) (n urgency : Nat) :
    (s.takeStatus n urgency).books = s.books := by
  unfold State.takeStatus; (try dsimp only); (repeat' split) <;> first | with_reducible rfl | simp

@[simp] theorem reassert_books (s : State) (a : Arrival) :
    (s.reassert a).books = s.books := by
  unfold State.reassert; (try dsimp only); (repeat' split) <;> first | with_reducible rfl | simp

@[simp] theorem markDormant_books (s : State) (c : Image) (n : Nat) :
    (s.markDormant c n).books = s.books := by
  unfold State.markDormant; (try dsimp only); (repeat' split) <;> first | with_reducible rfl | simp

@[simp] theorem ownDormant_books (s : State) (c : Image) (a : Arrival) :
    (s.ownDormant c a).books = s.books := by
  unfold State.ownDormant; (try dsimp only); (repeat' split) <;> first | with_reducible rfl | simp

@[simp] theorem takeQuery_books (s : State) (c : Image) (f : Frame) :
    (s.takeQuery c f).books = s.books := by
  unfold State.takeQuery; (try dsimp only); (repeat' split) <;> first | with_reducible rfl | simp

@[simp] theorem turnAway_books (s : State)  :
    (s.turnAway).books = s.books := by
  unfold State.turnAway; (try dsimp only); (repeat' split) <;> first | with_reducible rfl | simp

@[simp] theorem clearFlags_books (s : State) (mask : FlagSet) :
    (s.clearFlags mask).books = s.books := by
  unfold State.clearFlags; (try dsimp only); (repeat' split) <;> first | with_reducible rfl | simp

@[simp] theorem takeClear_books (s : State) (c : Image) (mask : FlagSet) :
    (s.takeClear c mask).books = s.books := by
  unfold State.takeClear; (try dsimp only); (repeat' split) <;> first | with_reducible rfl | simp

@[simp] theorem requeueJoin_books (s : State) (c : Image) :
    (s.requeueJoin c).books = s.books := by
  unfold State.requeueJoin; (try dsimp only); (repeat' split) <;> first | with_reducible rfl | simp

@[simp] theorem judgeJoin_books (s : State) (c : Image) :
    (s.judgeJoin c).books = s.books := by
  unfold State.judgeJoin; (try dsimp only); (repeat' split) <;> first | with_reducible rfl | simp

@[simp] theorem recover_books (s : State) (c : Image) :
    (s.recover c).books = s.books := by
  unfold State.recover; (try dsimp only); (repeat' split) <;> first | with_reducible rfl | simp

end Sys2Proof.Machine
end

