-- ==== Sys2Proof/Laws/KeepsChip.lean ====
section
/-! SUPPORT. The operations that leave supply, inputs, station seconds, configuration and the queue of commands as they were: one line each. -/

namespace Sys2Proof.Machine

open Sys2Proof

set_option linter.unusedTactic false
set_option linter.unnecessarySeqFocus false
set_option linter.unreachableTactic false

@[simp] theorem mapLc_chip (s : State) (f : LcState → LcState) :
    (s.mapLc f).chip = s.chip := rfl

@[simp] theorem mapMu_chip (s : State) (f : MuState → MuState) :
    (s.mapMu f).chip = s.chip := rfl

@[simp] theorem mapSa_chip (s : State) (f : SaState → SaState) :
    (s.mapSa f).chip = s.chip := rfl

@[simp] theorem mapTs_chip (s : State) (f : TsState → TsState) :
    (s.mapTs f).chip = s.chip := rfl

@[simp] theorem mapRu_chip (s : State) (f : RuState → RuState) :
    (s.mapRu f).chip = s.chip := rfl

@[simp] theorem mapSrm_chip (s : State) (f : SrmState → SrmState) :
    (s.mapSrm f).chip = s.chip := rfl

@[simp] theorem mapSc_chip (s : State) (f : ScState → ScState) :
    (s.mapSc f).chip = s.chip := rfl

@[simp] theorem mapRs_chip (s : State) (f : RsState → RsState) :
    (s.mapRs f).chip = s.chip := rfl

@[simp] theorem mapAc_chip (s : State) (f : AcState → AcState) :
    (s.mapAc f).chip = s.chip := rfl

@[simp] theorem settle_chip (c : Image) (b s : State) : (settle c b s).chip = s.chip := by
  simp [State.chip]

@[simp] theorem setSlot_chip (s : State) (id : SlotId) (x : Slot) :
    (s.setSlot id x).chip = s.chip := by
  unfold State.setSlot; (try dsimp only); (repeat' split) <;> first | with_reducible rfl | simp

@[simp] theorem writeSlot_chip (s : State) (id : SlotId) (c : Content) :
    (s.writeSlot id c).chip = s.chip := by
  unfold State.writeSlot; (try dsimp only); (repeat' split) <;> first | with_reducible rfl | simp

@[simp] theorem cancelSlot_chip (s : State) (id : SlotId) :
    (s.cancelSlot id).chip = s.chip := by
  unfold State.cancelSlot; (try dsimp only); (repeat' split) <;> first | with_reducible rfl | simp

@[simp] theorem pruneSlot_chip (s : State) (id : SlotId) (stations : List Nat) :
    (s.pruneSlot id stations).chip = s.chip := by
  unfold State.pruneSlot; (try dsimp only); (repeat' split) <;> first | with_reducible rfl | simp

@[simp] theorem mapEntry_chip (s : State) (n : Nat) (f : RosterEntry → RosterEntry) :
    (s.mapEntry n f).chip = s.chip := by
  unfold State.mapEntry; (try dsimp only); (repeat' split) <;> first | with_reducible rfl | simp

@[simp] theorem clearEntry_chip (s : State) (n : Nat) :
    (s.clearEntry n).chip = s.chip := by
  unfold State.clearEntry; (try dsimp only); (repeat' split) <;> first | with_reducible rfl | simp

@[simp] theorem reorderClaims_chip (s : State)  :
    (s.reorderClaims).chip = s.chip := by
  unfold State.reorderClaims; (try dsimp only); (repeat' split) <;> first | with_reducible rfl | simp

@[simp] theorem writeNotice_chip (s : State) (c : Image) (id : SlotId) (content : Content) :
    (s.writeNotice c id content).chip = s.chip := by
  unfold State.writeNotice; (try dsimp only); (repeat' split) <;> first | with_reducible rfl | simp

@[simp] theorem joinNews_chip (s : State) (f : Flag) :
    (s.joinNews f).chip = s.chip := rfl

@[simp] theorem latch_chip (s : State) (c : Image) (f : Flag) :
    (s.latch c f).chip = s.chip := by
  unfold State.latch; (try dsimp only); (repeat' split) <;> first | with_reducible rfl | simp

@[simp] theorem latchIfStanding_chip (s : State) (c : Image) (f : Flag) :
    (s.latchIfStanding c f).chip = s.chip := by
  unfold State.latchIfStanding; (try dsimp only); (repeat' split) <;> first | with_reducible rfl | simp

@[simp] theorem latchStanding_chip (s : State) (c : Image) :
    (s.latchStanding c).chip = s.chip := by
  unfold State.latchStanding; (try dsimp only); (repeat' split) <;> first | with_reducible rfl | simp

@[simp] theorem writeStatus_chip (s : State)  :
    (s.writeStatus).chip = s.chip := by
  unfold State.writeStatus; (try dsimp only); (repeat' split) <;> first | with_reducible rfl | simp

@[simp] theorem statusForChange_chip (s : State)  :
    (s.statusForChange).chip = s.chip := by
  unfold State.statusForChange; (try dsimp only); (repeat' split) <;> first | with_reducible rfl | simp

@[simp] theorem writeRecord_chip (s : State) (c : Image) (r : SpillRecord) :
    (s.writeRecord c r).chip = s.chip := by
  unfold State.writeRecord; (try dsimp only); (repeat' split) <;> first | with_reducible rfl | simp

@[simp] theorem takeRecord_chip (s : State) (c : Image) (r : SpillRecord) :
    (s.takeRecord c r).chip = s.chip := by
  unfold State.takeRecord; (try dsimp only); (repeat' split) <;> first | with_reducible rfl | simp

@[simp] theorem acknowledge_chip (s : State) (c : Image) (sequence : Half) :
    (s.acknowledge c sequence).chip = s.chip := by
  unfold State.acknowledge; (try dsimp only); (repeat' split) <;> first | with_reducible rfl | simp

@[simp] theorem writeReplies_chip (s : State) (n : Nat) (ids : List SlotId) (rs : List Reply) :
    (s.writeReplies n ids rs).chip = s.chip := by
  induction ids generalizing s rs with
  | nil => cases rs <;> rfl
  | cons id ids ih =>
    cases rs with
    | nil => rfl
    | cons r rs => simp only [State.writeReplies, ih, writeSlot_chip]

@[simp] theorem serviceMove_chip (s : State) (c : Image) :
    (s.serviceMove c).chip = s.chip := by
  unfold State.serviceMove; (try dsimp only); (repeat' split) <;> first | with_reducible rfl | simp

@[simp] theorem serviceMoves_chip (s : State) (c : Image) (n : Nat) :
    (s.serviceMoves c n).chip = s.chip := by
  induction n generalizing s with
  | zero => rfl
  | succ n ih => simp only [State.serviceMoves, ih, serviceMove_chip]

@[simp] theorem runService_chip (s : State) (c : Image) :
    (s.runService c).chip = s.chip := by
  unfold State.runService; (try dsimp only); (repeat' split) <;> first | with_reducible rfl | simp

@[simp] theorem mapRecord_chip (s : State) (f : SpillRecord → SpillRecord) :
    (s.mapRecord f).chip = s.chip := by
  unfold State.mapRecord; (try dsimp only); (repeat' split) <;> first | with_reducible rfl | simp

@[simp] theorem openEpisode_chip (s : State) (c : Image) :
    (s.openEpisode c).chip = s.chip := by
  unfold State.openEpisode; (try dsimp only); (repeat' split) <;> first | with_reducible rfl | simp

@[simp] theorem closeEpisode_chip (s : State) (c : Image) :
    (s.closeEpisode c).chip = s.chip := by
  unfold State.closeEpisode; (try dsimp only); (repeat' split) <;> first | with_reducible rfl | simp

@[simp] theorem onsetSample_chip (s : State) (c : Image) (level : Nat) (suspect : Bool) :
    (s.onsetSample c level suspect).chip = s.chip := by
  unfold State.onsetSample; (try dsimp only); (repeat' split) <;> first | with_reducible rfl | simp

@[simp] theorem accrueSample_chip (s : State) (c : Image) (level : Nat) (suspect : Bool) :
    (s.accrueSample c level suspect).chip = s.chip := by
  unfold State.accrueSample; (try dsimp only); (repeat' split) <;> first | with_reducible rfl | simp

@[simp] theorem enterMergeWait_chip (s : State) (c : Image) :
    (s.enterMergeWait c).chip = s.chip := by
  unfold State.enterMergeWait; (try dsimp only); (repeat' split) <;> first | with_reducible rfl | simp

@[simp] theorem settleSample_chip (s : State) (c : Image) :
    (s.settleSample c).chip = s.chip := by
  unfold State.settleSample; (try dsimp only); (repeat' split) <;> first | with_reducible rfl | simp

@[simp] theorem spillingSample_chip (s : State) (c : Image) (level : Nat) (suspect : Bool) :
    (s.spillingSample c level suspect).chip = s.chip := by
  unfold State.spillingSample; (try dsimp only); (repeat' split) <;> first | with_reducible rfl | simp

@[simp] theorem nonSpillingSample_chip (s : State) (c : Image) (level : Nat) (suspect tideLocked : Bool) :
    (s.nonSpillingSample c level suspect tideLocked).chip = s.chip := by
  unfold State.nonSpillingSample; (try dsimp only); (repeat' split) <;> first | with_reducible rfl | simp

@[simp] theorem unknownSample_chip (s : State)  :
    (s.unknownSample).chip = s.chip := by
  unfold State.unknownSample; (try dsimp only); (repeat' split) <;> first | with_reducible rfl | simp

@[simp] theorem spillSample_chip (s : State) (c : Image) (chamber : Channel) :
    (s.spillSample c chamber).chip = s.chip := by
  unfold State.spillSample; (try dsimp only); (repeat' split) <;> first | with_reducible rfl | simp

@[simp] theorem stormFlag_chip (s : State)  :
    (s.stormFlag).chip = s.chip := by
  unfold State.stormFlag; (try dsimp only); (repeat' split) <;> first | with_reducible rfl | simp

@[simp] theorem cutEpisode_chip (s : State) (c : Image) :
    (s.cutEpisode c).chip = s.chip := by
  unfold State.cutEpisode; (try dsimp only); (repeat' split) <;> first | with_reducible rfl | simp

@[simp] theorem newPeriod_chip (s : State)  :
    (s.newPeriod).chip = s.chip := by
  unfold State.newPeriod; (try dsimp only); (repeat' split) <;> first | with_reducible rfl | simp

@[simp] theorem releaseShares_chip (s : State) (set : List Nat) :
    (s.releaseShares set).chip = s.chip := by
  unfold State.releaseShares; (try dsimp only); (repeat' split) <;> first | with_reducible rfl | simp

@[simp] theorem releaseAll_chip (s : State) (c : Image) :
    (s.releaseAll c).chip = s.chip := by
  unfold State.releaseAll; (try dsimp only); (repeat' split) <;> first | with_reducible rfl | simp

@[simp] theorem wantToClaim_chip (s : State) (c : Image) (urgency : Nat) :
    (s.wantToClaim c urgency).chip = s.chip := by
  unfold State.wantToClaim; (try dsimp only); (repeat' split) <;> first | with_reducible rfl | simp

@[simp] theorem requestWithdraw_chip (s : State) (c : Image) :
    (s.requestWithdraw c).chip = s.chip := by
  unfold State.requestWithdraw; (try dsimp only); (repeat' split) <;> first | with_reducible rfl | simp

@[simp] theorem dropOutgoing_chip (s : State) (set : List Nat) :
    (s.dropOutgoing set).chip = s.chip := by
  unfold State.dropOutgoing; (try dsimp only); (repeat' split) <;> first | with_reducible rfl | simp

@[simp] theorem voidShares_chip (s : State)  :
    (s.voidShares).chip = s.chip := by
  unfold State.voidShares; (try dsimp only); (repeat' split) <;> first | with_reducible rfl | simp

@[simp] theorem foundShares_chip (s : State) (c : Image) :
    (s.foundShares c).chip = s.chip := by
  unfold State.foundShares; (try dsimp only); (repeat' split) <;> first | with_reducible rfl | simp

@[simp] theorem returnWhere_chip (s : State) (p : Nat → Share → Bool) :
    (s.returnWhere p).chip = s.chip := by
  unfold State.returnWhere; (try dsimp only); (repeat' split) <;> first | with_reducible rfl | simp

@[simp] theorem dropClaim_chip (s : State) (n : Nat) :
    (s.dropClaim n).chip = s.chip := by
  unfold State.dropClaim; (try dsimp only); (repeat' split) <;> first | with_reducible rfl | simp

@[simp] theorem setUrgency_chip (s : State) (n urgency : Nat) :
    (s.setUrgency n urgency).chip = s.chip := by
  unfold State.setUrgency; (try dsimp only); (repeat' split) <;> first | with_reducible rfl | simp

@[simp] theorem claimShares_chip (s : State) (n count : Nat) :
    (s.claimShares n count).chip = s.chip := by
  unfold State.claimShares; (try dsimp only); (repeat' split) <;> first | with_reducible rfl | simp

@[simp] theorem takeClaim_chip (s : State) (n urgency field : Nat) :
    (s.takeClaim n urgency field).chip = s.chip := by
  unfold State.takeClaim; (try dsimp only); (repeat' split) <;> first | with_reducible rfl | simp

@[simp] theorem takeRelease_chip (s : State) (n : Nat) (set : List Nat) :
    (s.takeRelease n set).chip = s.chip := by
  unfold State.takeRelease; (try dsimp only); (repeat' split) <;> first | with_reducible rfl | simp

@[simp] theorem takeYield_chip (s : State) (n share : Nat) :
    (s.takeYield n share).chip = s.chip := by
  unfold State.takeYield; (try dsimp only); (repeat' split) <;> first | with_reducible rfl | simp

@[simp] theorem takeCurtail_chip (s : State) (c : Image) (q : Nat) :
    (s.takeCurtail c q).chip = s.chip := by
  unfold State.takeCurtail; (try dsimp only); (repeat' split) <;> first | with_reducible rfl | simp

@[simp] theorem strand_chip (s : State) (n : Nat) :
    (s.strand n).chip = s.chip := by
  unfold State.strand; (try dsimp only); (repeat' split) <;> first | with_reducible rfl | simp

@[simp] theorem reclaimShares_chip (s : State) (stations : List Nat) :
    (s.reclaimShares stations).chip = s.chip := by
  unfold State.reclaimShares; (try dsimp only); (repeat' split) <;> first | with_reducible rfl | simp

@[simp] theorem rejoinShares_chip (s : State) (n : Nat) :
    (s.rejoinShares n).chip = s.chip := by
  unfold State.rejoinShares; (try dsimp only); (repeat' split) <;> first | with_reducible rfl | simp

@[simp] theorem yieldIfNamed_chip (s : State) (c : Image) :
    (s.yieldIfNamed c).chip = s.chip := by
  unfold State.yieldIfNamed; (try dsimp only); (repeat' split) <;> first | with_reducible rfl | simp

@[simp] theorem curtailRelease_chip (s : State) (c : Image) (q : Nat) :
    (s.curtailRelease c q).chip = s.chip := by
  unfold State.curtailRelease; (try dsimp only); (repeat' split) <;> first | with_reducible rfl | simp

@[simp] theorem releaseArrivals_chip (s : State) (c : Image) :
    (s.releaseArrivals c).chip = s.chip := by
  unfold State.releaseArrivals; (try dsimp only); (repeat' split) <;> first | with_reducible rfl | simp

@[simp] theorem rejoinOutgoing_chip (s : State) (c : Image) :
    (s.rejoinOutgoing c).chip = s.chip := by
  unfold State.rejoinOutgoing; (try dsimp only); (repeat' split) <;> first | with_reducible rfl | simp

@[simp] theorem parkingRelease_chip (s : State) (c : Image) :
    (s.parkingRelease c).chip = s.chip := by
  unfold State.parkingRelease; (try dsimp only); (repeat' split) <;> first | with_reducible rfl | simp

@[simp] theorem drawFree_chip (s : State)  :
    (s.drawFree).chip = s.chip := by
  rfl

@[simp] theorem yieldAndPark_chip (s before : State) (c : Image) :
    (s.yieldAndPark before c).chip = s.chip := by
  unfold State.yieldAndPark; (try dsimp only); (repeat' split) <;> first | with_reducible rfl | simp

@[simp] theorem completeRelease_chip (s : State) (c : Image) :
    (s.completeRelease c).chip = s.chip := by
  unfold State.completeRelease; (try dsimp only); (repeat' split) <;> first | with_reducible rfl | simp

@[simp] theorem afterFrame_chip (s before : State) (c : Image) :
    (s.afterFrame before c).chip = s.chip := by
  unfold State.afterFrame; (try dsimp only); (repeat' split) <;> first | with_reducible rfl | simp

@[simp] theorem holdSample_chip (s : State) (chamber tank : Channel) :
    (s.holdSample chamber tank).chip = s.chip := by
  unfold State.holdSample; (try dsimp only); (repeat' split) <;> first | with_reducible rfl | simp

@[simp] theorem evaluateTideLock_chip (s : State) (c : Image) :
    (s.evaluateTideLock c).chip = s.chip := by
  unfold State.evaluateTideLock; (try dsimp only); (repeat' split) <;> first | with_reducible rfl | simp

@[simp] theorem recomputeUrgency_chip (s : State) (c : Image) :
    (s.recomputeUrgency c).chip = s.chip := by
  unfold State.recomputeUrgency; (try dsimp only); (repeat' split) <;> first | with_reducible rfl | simp

@[simp] theorem inletSample_chip (s : State) (c : Image) (chamber : Channel) :
    (s.inletSample c chamber).chip = s.chip := by
  unfold State.inletSample; (try dsimp only); (repeat' split) <;> first | with_reducible rfl | simp

@[simp] theorem setDrain_chip (s : State) (d : Drain) :
    (s.setDrain d).chip = s.chip := by
  unfold State.setDrain; (try dsimp only); (repeat' split) <;> first | with_reducible rfl | simp

@[simp] theorem stopDrain_chip (s : State)  :
    (s.stopDrain).chip = s.chip := by
  unfold State.stopDrain; (try dsimp only); (repeat' split) <;> first | with_reducible rfl | simp

@[simp] theorem askClaim_chip (s : State) (c : Image) :
    (s.askClaim c).chip = s.chip := by
  unfold State.askClaim; (try dsimp only); (repeat' split) <;> first | with_reducible rfl | simp

@[simp] theorem testClaim_chip (s : State) (c : Image) :
    (s.testClaim c).chip = s.chip := by
  unfold State.testClaim; (try dsimp only); (repeat' split) <;> first | with_reducible rfl | simp

@[simp] theorem withdrawIfOut_chip (s : State) (c : Image) :
    (s.withdrawIfOut c).chip = s.chip := by
  unfold State.withdrawIfOut; (try dsimp only); (repeat' split) <;> first | with_reducible rfl | simp

@[simp] theorem failedTank_chip (s : State) (c : Image) :
    (s.failedTank c).chip = s.chip := by
  unfold State.failedTank; (try dsimp only); (repeat' split) <;> first | with_reducible rfl | simp

@[simp] theorem park_chip (s : State) (c : Image) :
    (s.park c).chip = s.chip := by
  unfold State.park; (try dsimp only); (repeat' split) <;> first | with_reducible rfl | simp

@[simp] theorem drainSample_chip (s : State) (c : Image) :
    (s.drainSample c).chip = s.chip := by
  unfold State.drainSample; (try dsimp only); (repeat' split) <;> first | with_reducible rfl | simp

@[simp] theorem judgeParked_chip (s : State) (c : Image) :
    (s.judgeParked c).chip = s.chip := by
  unfold State.judgeParked; (try dsimp only); (repeat' split) <;> first | with_reducible rfl | simp

@[simp] theorem drainReport_chip (s : State) (c : Image) :
    (s.drainReport c).chip = s.chip := by
  unfold State.drainReport; (try dsimp only); (repeat' split) <;> first | with_reducible rfl | simp

@[simp] theorem drainStep_chip (s before : State) (c : Image) :
    (s.drainStep before c).chip = s.chip := by
  unfold State.drainStep; (try dsimp only); (repeat' split) <;> first | with_reducible rfl | simp

@[simp] theorem setValve_chip (s : State) (c : Image) :
    (s.setValve c).chip = s.chip := by
  unfold State.setValve; (try dsimp only); (repeat' split) <;> first | with_reducible rfl | simp

@[simp] theorem markWake_chip (s : State)  :
    (s.markWake).chip = s.chip := by
  unfold State.markWake; (try dsimp only); (repeat' split) <;> first | with_reducible rfl | simp

@[simp] theorem restDrain_chip (s : State) (c : Image) :
    (s.restDrain c).chip = s.chip := by
  unfold State.restDrain; (try dsimp only); (repeat' split) <;> first | with_reducible rfl | simp

@[simp] theorem enterDormant_chip (s : State) (c : Image) :
    (s.enterDormant c).chip = s.chip := by
  unfold State.enterDormant; (try dsimp only); (repeat' split) <;> first | with_reducible rfl | simp

@[simp] theorem enterWaking_chip (s : State) (c : Image) :
    (s.enterWaking c).chip = s.chip := by
  unfold State.enterWaking; (try dsimp only); (repeat' split) <;> first | with_reducible rfl | simp

@[simp] theorem wakeTrigger_chip (s : State) (c : Image) :
    (s.wakeTrigger c).chip = s.chip := by
  unfold State.wakeTrigger; (try dsimp only); (repeat' split) <;> first | with_reducible rfl | simp

@[simp] theorem watchDormancy_chip (s : State) (c : Image) :
    (s.watchDormancy c).chip = s.chip := by
  unfold State.watchDormancy; (try dsimp only); (repeat' split) <;> first | with_reducible rfl | simp

@[simp] theorem resetActivity_chip (s : State)  :
    (s.resetActivity).chip = s.chip := by
  unfold State.resetActivity; (try dsimp only); (repeat' split) <;> first | with_reducible rfl | simp

@[simp] theorem writeAlert_chip (s : State) (c : Image) :
    (s.writeAlert c).chip = s.chip := by
  unfold State.writeAlert; (try dsimp only); (repeat' split) <;> first | with_reducible rfl | simp

@[simp] theorem evaluateLocal_chip (s : State) (c : Image) :
    (s.evaluateLocal c).chip = s.chip := by
  unfold State.evaluateLocal; (try dsimp only); (repeat' split) <;> first | with_reducible rfl | simp

@[simp] theorem rewriteAlert_chip (s : State) (c : Image) :
    (s.rewriteAlert c).chip = s.chip := by
  unfold State.rewriteAlert; (try dsimp only); (repeat' split) <;> first | with_reducible rfl | simp

@[simp] theorem completeBucket_chip (s : State)  :
    (s.completeBucket).chip = s.chip := by
  unfold State.completeBucket; (try dsimp only); (repeat' split) <;> first | with_reducible rfl | simp

@[simp] theorem mapZone_chip (s : State) (zone : Nat) (f : ZoneEntry → ZoneEntry) :
    (s.mapZone zone f).chip = s.chip := by
  unfold State.mapZone; (try dsimp only); (repeat' split) <;> first | with_reducible rfl | simp

@[simp] theorem validateAlerts_chip (s : State)  :
    (s.validateAlerts).chip = s.chip := by
  unfold State.validateAlerts; (try dsimp only); (repeat' split) <;> first | with_reducible rfl | simp

@[simp] theorem voidAlerts_chip (s : State)  :
    (s.voidAlerts).chip = s.chip := by
  unfold State.voidAlerts; (try dsimp only); (repeat' split) <;> first | with_reducible rfl | simp

@[simp] theorem ageAlerts_chip (s : State)  :
    (s.ageAlerts).chip = s.chip := by
  unfold State.ageAlerts; (try dsimp only); (repeat' split) <;> first | with_reducible rfl | simp

@[simp] theorem ageWindow_chip (s : State)  :
    (s.ageWindow).chip = s.chip := by
  unfold State.ageWindow; (try dsimp only); (repeat' split) <;> first | with_reducible rfl | simp

@[simp] theorem readinessEvent_chip (s : State) (c : Image) (g : Grade) (source : Option Nat) :
    (s.readinessEvent c g source).chip = s.chip := by
  unfold State.readinessEvent; (try dsimp only); (repeat' split) <;> first | with_reducible rfl | simp

@[simp] theorem alertEvent_chip (s : State) (c : Image) :
    (s.alertEvent c).chip = s.chip := by
  unfold State.alertEvent; (try dsimp only); (repeat' split) <;> first | with_reducible rfl | simp

@[simp] theorem controlCalm_chip (s : State) (c : Image) :
    (s.controlCalm c).chip = s.chip := by
  unfold State.controlCalm; (try dsimp only); (repeat' split) <;> first | with_reducible rfl | simp

@[simp] theorem emptySlot_chip (s : State) (c : Image) (id : SlotId) :
    (s.emptySlot c id).chip = s.chip := by
  unfold State.emptySlot; (try dsimp only); (repeat' split) <;> first | with_reducible rfl | simp

@[simp] theorem emptySlots_chip (s : State) (c : Image) (ids : List SlotId) :
    (s.emptySlots c ids).chip = s.chip := by
  exact foldl_keeps (fun x => x.chip) _ (fun t id => emptySlot_chip t c id) ids s

@[simp] theorem emptyAll_chip (s : State) (c : Image) :
    (s.emptyAll c).chip = s.chip := by
  unfold State.emptyAll; (try dsimp only); (repeat' split) <;> first | with_reducible rfl | simp

@[simp] theorem rewriteNotices_chip (s old : State)  :
    (s.rewriteNotices old).chip = s.chip := by
  refine foldl_keeps (fun x => x.chip) _ (fun t id => ?_) noticeSlots s
  try dsimp only
  split <;> simp

@[simp] theorem leaveTables_chip (s : State)  :
    (s.leaveTables).chip = s.chip := by
  unfold State.leaveTables; (try dsimp only); (repeat' split) <;> first | with_reducible rfl | simp

@[simp] theorem emptyQueue_chip (s : State)  :
    (s.emptyQueue).chip = s.chip := by
  unfold State.emptyQueue; (try dsimp only); (repeat' split) <;> first | with_reducible rfl | simp

@[simp] theorem setMembership_chip (s : State) (m : Membership) :
    (s.setMembership m).chip = s.chip := by
  unfold State.setMembership; (try dsimp only); (repeat' split) <;> first | with_reducible rfl | simp

@[simp] theorem enterFallback_chip (s : State) (c : Image) :
    (s.enterFallback c).chip = s.chip := by
  unfold State.enterFallback; (try dsimp only); (repeat' split) <;> first | with_reducible rfl | simp

@[simp] theorem enterIsolated_chip (s : State) (c : Image) :
    (s.enterIsolated c).chip = s.chip := by
  unfold State.enterIsolated; (try dsimp only); (repeat' split) <;> first | with_reducible rfl | simp

@[simp] theorem enterListening_chip (s : State) (c : Image) (hold : Bool) :
    (s.enterListening c hold).chip = s.chip := by
  unfold State.enterListening; (try dsimp only); (repeat' split) <;> first | with_reducible rfl | simp

@[simp] theorem takeRestart_chip (s : State) (c : Image) :
    (s.takeRestart c).chip = s.chip := by
  unfold State.takeRestart; (try dsimp only); (repeat' split) <;> first | with_reducible rfl | simp

@[simp] theorem discardLoad_chip (s : State)  :
    (s.discardLoad).chip = s.chip := by
  unfold State.discardLoad; (try dsimp only); (repeat' split) <;> first | with_reducible rfl | simp

@[simp] theorem spoilJoin_chip (s : State) (c : Image) :
    (s.spoilJoin c).chip = s.chip := by
  unfold State.spoilJoin; (try dsimp only); (repeat' split) <;> first | with_reducible rfl | simp

@[simp] theorem failJoin_chip (s : State) (c : Image) :
    (s.failJoin c).chip = s.chip := by
  unfold State.failJoin; (try dsimp only); (repeat' split) <;> first | with_reducible rfl | simp

@[simp] theorem isolateFor_chip (s : State) (c : Image) (f : Flag) :
    (s.isolateFor c f).chip = s.chip := by
  unfold State.isolateFor; (try dsimp only); (repeat' split) <;> first | with_reducible rfl | simp

@[simp] theorem enterLinked_chip (s : State) (c : Image) :
    (s.enterLinked c).chip = s.chip := by
  unfold State.enterLinked; (try dsimp only); (repeat' split) <;> first | with_reducible rfl | simp

@[simp] theorem found_chip (s : State) (c : Image) :
    (s.found c).chip = s.chip := by
  unfold State.found; (try dsimp only); (repeat' split) <;> first | with_reducible rfl | simp

@[simp] theorem linkLoaded_chip (s : State) (c : Image) :
    (s.linkLoaded c).chip = s.chip := by
  unfold State.linkLoaded; (try dsimp only); (repeat' split) <;> first | with_reducible rfl | simp

@[simp] theorem endLock_chip (s : State) (c : Image) :
    (s.endLock c).chip = s.chip := by
  unfold State.endLock; (try dsimp only); (repeat' split) <;> first | with_reducible rfl | simp

@[simp] theorem spoil_chip (s : State) (c : Image) :
    (s.spoil c).chip = s.chip := by
  unfold State.spoil; (try dsimp only); (repeat' split) <;> first | with_reducible rfl | simp

@[simp] theorem watchSilence_chip (s : State) (c : Image) :
    (s.watchSilence c).chip = s.chip := by
  unfold State.watchSilence; (try dsimp only); (repeat' split) <;> first | with_reducible rfl | simp

@[simp] theorem writeJoinIfDue_chip (s : State) (c : Image) :
    (s.writeJoinIfDue c).chip = s.chip := by
  unfold State.writeJoinIfDue; (try dsimp only); (repeat' split) <;> first | with_reducible rfl | simp

@[simp] theorem startFlight_chip (s : State) (c : Image) (id : SlotId) :
    (s.startFlight c id).chip = s.chip := by
  unfold State.startFlight; (try dsimp only); (repeat' split) <;> first | with_reducible rfl | simp

@[simp] theorem offerIfStillIdle_chip (s : State) (c : Image) (id : SlotId) :
    (s.offerIfStillIdle c id).chip = s.chip := by
  unfold State.offerIfStillIdle; (try dsimp only); (repeat' split) <;> first | with_reducible rfl | simp

@[simp] theorem offer_chip (s : State) (c : Image) (fresh : Bool) :
    (s.offer c fresh).chip = s.chip := by
  unfold State.offer; (try dsimp only); (repeat' split) <;> first | with_reducible rfl | simp

@[simp] theorem statusOnChange_chip (s before : State)  :
    (s.statusOnChange before).chip = s.chip := by
  unfold State.statusOnChange; (try dsimp only); (repeat' split) <;> first | with_reducible rfl | simp

@[simp] theorem endField_chip (s : State) (marks : Marks) :
    (s.endField marks).chip = s.chip := by
  unfold State.endField; (try dsimp only); (repeat' split) <;> first | with_reducible rfl | simp

@[simp] theorem reportEmptied_chip (s : State) (id : SlotId) :
    (s.reportEmptied id).chip = s.chip := by
  unfold State.reportEmptied; (try dsimp only); (repeat' split) <;> first | with_reducible rfl | simp

@[simp] theorem failFlight_chip (s : State)  :
    (s.failFlight).chip = s.chip := by
  unfold State.failFlight; (try dsimp only); (repeat' split) <;> first | with_reducible rfl | simp

@[simp] theorem bookkeep_chip (s : State) (a : Arrival) :
    (s.bookkeep a).chip = s.chip := by
  unfold State.bookkeep; (try dsimp only); (repeat' split) <;> first | with_reducible rfl | simp

@[simp] theorem hearEntry_chip (s : State) (c : Image) (n : Nat) :
    (s.hearEntry c n).chip = s.chip := by
  unfold State.hearEntry; (try dsimp only); (repeat' split) <;> first | with_reducible rfl | simp

@[simp] theorem hearSilence_chip (s : State) (c : Image) (a : Arrival) :
    (s.hearSilence c a).chip = s.chip := by
  unfold State.hearSilence; (try dsimp only); (repeat' split) <;> first | with_reducible rfl | simp

@[simp] theorem hearPopulated_chip (s : State) (f : Frame) :
    (s.hearPopulated f).chip = s.chip := by
  unfold State.hearPopulated; (try dsimp only); (repeat' split) <;> first | with_reducible rfl | simp

@[simp] theorem hear_chip (s : State) (c : Image) (a : Arrival) (f : Frame) :
    (s.hear c a f).chip = s.chip := by
  unfold State.hear; (try dsimp only); (repeat' split) <;> first | with_reducible rfl | simp

@[simp] theorem restartPresence_chip (s : State) (c : Image) (a : Arrival) :
    (s.restartPresence c a).chip = s.chip := by
  unfold State.restartPresence; (try dsimp only); (repeat' split) <;> first | with_reducible rfl | simp

@[simp] theorem concluded_chip (s : State) (c : Image) (f : Frame) :
    (s.concluded c f).chip = s.chip := by
  unfold State.concluded; (try dsimp only); (repeat' split) <;> first | with_reducible rfl | simp

@[simp] theorem heardFrame_chip (s : State) (c : Image) (f : Frame) :
    (s.heardFrame c f).chip = s.chip := by
  unfold State.heardFrame; (try dsimp only); (repeat' split) <;> first | with_reducible rfl | simp

@[simp] theorem ownerDone_chip (s : State) (c : Image) (a : Arrival) (f : Frame) :
    (s.ownerDone c a f).chip = s.chip := by
  unfold State.ownerDone; (try dsimp only); (repeat' split) <;> first | with_reducible rfl | simp

@[simp] theorem cutAtPulse_chip (s : State)  :
    (s.cutAtPulse).chip = s.chip := by
  unfold State.cutAtPulse; (try dsimp only); (repeat' split) <;> first | with_reducible rfl | simp

@[simp] theorem request_chip (s : State) (seconds : Nat) :
    (s.request seconds).chip = s.chip := by
  unfold State.request; (try dsimp only); (repeat' split) <;> first | with_reducible rfl | simp

@[simp] theorem localEvent_chip (s : State) (c : Image) :
    (s.localEvent c).chip = s.chip := by
  unfold State.localEvent; (try dsimp only); (repeat' split) <;> first | with_reducible rfl | simp

@[simp] theorem countPulse_chip (s : State) (c : Image) (time : Nat) :
    (s.countPulse c time).chip = s.chip := by
  unfold State.countPulse; (try dsimp only); (repeat' split) <;> first | with_reducible rfl | simp

@[simp] theorem timeTide_chip (s : State) (level : Tide) :
    (s.timeTide level).chip = s.chip := by
  unfold State.timeTide; (try dsimp only); (repeat' split) <;> first | with_reducible rfl | simp

@[simp] theorem keepValues_chip (s : State) (c : Image) (chamber tank : Channel) :
    (s.keepValues c chamber tank).chip = s.chip := by
  unfold State.keepValues; (try dsimp only); (repeat' split) <;> first | with_reducible rfl | simp

@[simp] theorem keepSample_chip (s : State) (c : Image) (chamber tank : Channel) :
    (s.keepSample c chamber tank).chip = s.chip := by
  unfold State.keepSample; (try dsimp only); (repeat' split) <;> first | with_reducible rfl | simp

@[simp] theorem makeSample_chip (s : State) (c : Image) (chamber tank : Channel) :
    (s.makeSample c chamber tank).chip = s.chip := by
  unfold State.makeSample; (try dsimp only); (repeat' split) <;> first | with_reducible rfl | simp

@[simp] theorem emptySample_chip (s : State) (c : Image) :
    (s.emptySample c).chip = s.chip := by
  unfold State.emptySample; (try dsimp only); (repeat' split) <;> first | with_reducible rfl | simp

@[simp] theorem lineBusy_chip (s : State)  :
    (s.lineBusy).chip = s.chip := by
  unfold State.lineBusy; (try dsimp only); (repeat' split) <;> first | with_reducible rfl | simp

@[simp] theorem lineFault_chip (s : State) (c : Image) :
    (s.lineFault c).chip = s.chip := by
  unfold State.lineFault; (try dsimp only); (repeat' split) <;> first | with_reducible rfl | simp

@[simp] theorem abortOwn_chip (s : State) (c : Image) :
    (s.abortOwn c).chip = s.chip := by
  unfold State.abortOwn; (try dsimp only); (repeat' split) <;> first | with_reducible rfl | simp

@[simp] theorem busyOwn_chip (s : State)  :
    (s.busyOwn).chip = s.chip := by
  unfold State.busyOwn; (try dsimp only); (repeat' split) <;> first | with_reducible rfl | simp

@[simp] theorem hearBurst_chip (s : State) (c : Image) (segment : Nat) (f : Frame) :
    (s.hearBurst c segment f).chip = s.chip := by
  unfold State.hearBurst; (try dsimp only); (repeat' split) <;> first | with_reducible rfl | simp

@[simp] theorem enterLoading_chip (s : State) (payload : List Byte) :
    (s.enterLoading payload).chip = s.chip := by
  unfold State.enterLoading; (try dsimp only); (repeat' split) <;> first | with_reducible rfl | simp

@[simp] theorem takeSegment0_chip (s : State) (c : Image) (f : Frame) :
    (s.takeSegment0 c f).chip = s.chip := by
  unfold State.takeSegment0; (try dsimp only); (repeat' split) <;> first | with_reducible rfl | simp

@[simp] theorem loadClaims_chip (s : State) (claims : List Claim) :
    (s.loadClaims claims).chip = s.chip := by
  unfold State.loadClaims; (try dsimp only); (repeat' split) <;> first | with_reducible rfl | simp

@[simp] theorem loadSegment_chip (s : State) (c : Image) (segment : Nat) (payload : List Byte) :
    (s.loadSegment c segment payload).chip = s.chip := by
  unfold State.loadSegment; (try dsimp only); (repeat' split) <;> first | with_reducible rfl | simp

@[simp] theorem takeSegment_chip (s : State) (c : Image) (segment : Nat) (f : Frame) :
    (s.takeSegment c segment f).chip = s.chip := by
  unfold State.takeSegment; (try dsimp only); (repeat' split) <;> first | with_reducible rfl | simp

@[simp] theorem finalSegment_chip (s : State) (c : Image) (l : Lock) :
    (s.finalSegment c l).chip = s.chip := by
  unfold State.finalSegment; (try dsimp only); (repeat' split) <;> first | with_reducible rfl | simp

@[simp] theorem nextBurst_chip (s : State) (c : Image) (a : Arrival) (segment : Nat) (l : Lock) :
    (s.nextBurst c a segment l).chip = s.chip := by
  unfold State.nextBurst; (try dsimp only); (repeat' split) <;> first | with_reducible rfl | simp

@[simp] theorem burstAtLinked_chip (s : State) (c : Image) (a : Arrival) (segment : Nat) (f : Frame) :
    (s.burstAtLinked c a segment f).chip = s.chip := by
  unfold State.burstAtLinked; (try dsimp only); (repeat' split) <;> first | with_reducible rfl | simp

@[simp] theorem takeTable_chip (s : State) (c : Image) (a : Arrival) (segment : Nat) (f : Frame) :
    (s.takeTable c a segment f).chip = s.chip := by
  unfold State.takeTable; (try dsimp only); (repeat' split) <;> first | with_reducible rfl | simp

@[simp] theorem declareAbsent_chip (s : State) (c : Image) (n : Nat) :
    (s.declareAbsent c n).chip = s.chip := by
  unfold State.declareAbsent; (try dsimp only); (repeat' split) <;> first | with_reducible rfl | simp

@[simp] theorem takeAbsent_chip (s : State) (c : Image) (named : List Nat) :
    (s.takeAbsent c named).chip = s.chip := by
  unfold State.takeAbsent
  have h := foldl_keeps (fun x => x.chip) (fun t n => t.declareAbsent c n) (fun t n => by simp) (named.filter s.isLinked) s
  dsimp only at h ⊢
  split <;> simp [h]

@[simp] theorem takeReclaim_chip (s : State) (named : List Nat) :
    (s.takeReclaim named).chip = s.chip := by
  unfold State.takeReclaim
  have h := foldl_keeps (fun x => x.chip) (fun t n => t.clearEntry n) (fun t n => by simp) (named.filter fun n => decide (s.entryState n = .absent)) (s.reclaimShares (named.filter fun n => decide (s.entryState n = .absent)))
  dsimp only at h ⊢
  simp [h]

@[simp] theorem takeCurtailFrame_chip (s : State) (c : Image) (q : Nat) :
    (s.takeCurtailFrame c q).chip = s.chip := by
  unfold State.takeCurtailFrame; (try dsimp only); (repeat' split) <;> first | with_reducible rfl | simp

@[simp] theorem settleOutgoing_chip (s : State) (a : Arrival) (set : List Nat) :
    (s.settleOutgoing a set).chip = s.chip := by
  unfold State.settleOutgoing; (try dsimp only); (repeat' split) <;> first | with_reducible rfl | simp

@[simp] theorem lateWithdraw_chip (s : State) (c : Image) (a : Arrival) :
    (s.lateWithdraw c a).chip = s.chip := by
  unfold State.lateWithdraw; (try dsimp only); (repeat' split) <;> first | with_reducible rfl | simp

@[simp] theorem ownAlert_chip (s : State) (c : Image) (g : Grade) :
    (s.ownAlert c g).chip = s.chip := by
  unfold State.ownAlert; (try dsimp only); (repeat' split) <;> first | with_reducible rfl | simp

@[simp] theorem heedAlert_chip (s : State) (c : Image) (g : Grade) :
    (s.heedAlert c g).chip = s.chip := by
  unfold State.heedAlert; (try dsimp only); (repeat' split) <;> first | with_reducible rfl | simp

@[simp] theorem takeAlert_chip (s : State) (c : Image) (a : Arrival) (origin zone : Nat) (g : Grade) :
    (s.takeAlert c a origin zone g).chip = s.chip := by
  unfold State.takeAlert; (try dsimp only); (repeat' split) <;> first | with_reducible rfl | simp

@[simp] theorem recordJoin_chip (s : State) (n : Nat) :
    (s.recordJoin n).chip = s.chip := by
  unfold State.recordJoin; (try dsimp only); (repeat' split) <;> first | with_reducible rfl | simp

@[simp] theorem enterJoining_chip (s : State) (c : Image) :
    (s.enterJoining c).chip = s.chip := by
  unfold State.enterJoining; (try dsimp only); (repeat' split) <;> first | with_reducible rfl | simp

@[simp] theorem hearJoin_chip (s : State) (n : Nat) :
    (s.hearJoin n).chip = s.chip := by
  unfold State.hearJoin; (try dsimp only); (repeat' split) <;> first | with_reducible rfl | simp

@[simp] theorem startBurst_chip (s : State) (c : Image) (l : Lock) :
    (s.startBurst c l).chip = s.chip := by
  unfold State.startBurst; (try dsimp only); (repeat' split) <;> first | with_reducible rfl | simp

@[simp] theorem markJoiner_chip (s : State) (c : Image) (n : Nat) :
    (s.markJoiner c n).chip = s.chip := by
  unfold State.markJoiner; (try dsimp only); (repeat' split) <;> first | with_reducible rfl | simp

@[simp] theorem beginLock_chip (s : State) (c : Image) (n pool : Nat) :
    (s.beginLock c n pool).chip = s.chip := by
  unfold State.beginLock; (try dsimp only); (repeat' split) <;> first | with_reducible rfl | simp

@[simp] theorem joinAtLinked_chip (s : State) (c : Image) (n pool : Nat) :
    (s.joinAtLinked c n pool).chip = s.chip := by
  unfold State.joinAtLinked; (try dsimp only); (repeat' split) <;> first | with_reducible rfl | simp

@[simp] theorem takeJoin_chip (s : State) (c : Image) (a : Arrival) (n pool : Nat) :
    (s.takeJoin c a n pool).chip = s.chip := by
  unfold State.takeJoin; (try dsimp only); (repeat' split) <;> first | with_reducible rfl | simp

@[simp] theorem takeStatus_chip (s : State) (n urgency : Nat) :
    (s.takeStatus n urgency).chip = s.chip := by
  unfold State.takeStatus; (try dsimp only); (repeat' split) <;> first | with_reducible rfl | simp

@[simp] theorem reassert_chip (s : State) (a : Arrival) :
    (s.reassert a).chip = s.chip := by
  unfold State.reassert; (try dsimp only); (repeat' split) <;> first | with_reducible rfl | simp

@[simp] theorem markDormant_chip (s : State) (c : Image) (n : Nat) :
    (s.markDormant c n).chip = s.chip := by
  unfold State.markDormant; (try dsimp only); (repeat' split) <;> first | with_reducible rfl | simp

@[simp] theorem ownDormant_chip (s : State) (c : Image) (a : Arrival) :
    (s.ownDormant c a).chip = s.chip := by
  unfold State.ownDormant; (try dsimp only); (repeat' split) <;> first | with_reducible rfl | simp

@[simp] theorem takeQuery_chip (s : State) (c : Image) (f : Frame) :
    (s.takeQuery c f).chip = s.chip := by
  unfold State.takeQuery; (try dsimp only); (repeat' split) <;> first | with_reducible rfl | simp

@[simp] theorem turnAway_chip (s : State)  :
    (s.turnAway).chip = s.chip := by
  unfold State.turnAway; (try dsimp only); (repeat' split) <;> first | with_reducible rfl | simp

@[simp] theorem clearFlags_chip (s : State) (mask : FlagSet) :
    (s.clearFlags mask).chip = s.chip := by
  unfold State.clearFlags; (try dsimp only); (repeat' split) <;> first | with_reducible rfl | simp

@[simp] theorem takeClear_chip (s : State) (c : Image) (mask : FlagSet) :
    (s.takeClear c mask).chip = s.chip := by
  unfold State.takeClear; (try dsimp only); (repeat' split) <;> first | with_reducible rfl | simp

@[simp] theorem deliverNews_chip (s : State) (carried : FlagSet) :
    (s.deliverNews carried).chip = s.chip := rfl

@[simp] theorem deliverNotice_chip (s : State) (f : Frame) :
    (s.deliverNotice f).chip = s.chip := by
  unfold State.deliverNotice; (try dsimp only); (repeat' split) <;> first | with_reducible rfl | simp

@[simp] theorem requeueJoin_chip (s : State) (c : Image) :
    (s.requeueJoin c).chip = s.chip := by
  unfold State.requeueJoin; (try dsimp only); (repeat' split) <;> first | with_reducible rfl | simp

@[simp] theorem judgeJoin_chip (s : State) (c : Image) :
    (s.judgeJoin c).chip = s.chip := by
  unfold State.judgeJoin; (try dsimp only); (repeat' split) <;> first | with_reducible rfl | simp

@[simp] theorem recover_chip (s : State) (c : Image) :
    (s.recover c).chip = s.chip := by
  unfold State.recover; (try dsimp only); (repeat' split) <;> first | with_reducible rfl | simp

end Sys2Proof.Machine
end

