-- ==== Sys2Proof/Laws/Running.lean ====
section
/-! SUPPORT. Commands that act on a running station: what the guard decides, and what a frame leaves alone. -/

namespace Sys2Proof.Machine

open Sys2Proof

/-- On a running station the command is its body and the end of the command, under its guard. -/
theorem onRunning_some {s : State} {c : Image} (h : s.running = some c) (g : Image → Bool) (b : Image → State) :
    s.onRunning g b = if g c then settle c s (b c) else s := by
  unfold State.onRunning; rw [h]

/-- In DOWN nothing happens. -/
theorem onRunning_none {s : State} (h : s.running = none) (g : Image → Bool) (b : Image → State) :
    s.onRunning g b = s := by
  unfold State.onRunning; rw [h]

/-- A running station has a latched image and is not DOWN. -/
theorem running_iff {s : State} {c : Image} : s.running = some c ↔ s.mu.membership ≠ .down ∧ s.cl.image = some c := by
  unfold State.running; split <;> simp_all

theorem running_image {s : State} {c : Image} (h : s.running = some c) : s.cl.image = some c := by
  unfold State.running at h; split at h <;> simp_all

theorem running_not_down {s : State} {c : Image} (h : s.running = some c) : s.mu.membership ≠ .down := by
  unfold State.running at h; split at h <;> simp_all

theorem running_of_down {s : State} (h : s.mu.membership = .down) : s.running = none := by
  unfold State.running; simp [h]

/-- A view that the end of a command and the body keep is kept. -/
theorem onRunning_keeps {α : Type} (V : State → α) (hs : ∀ c b s, V (settle c b s) = V s) (s : State) (g : Image → Bool)
    (b : Image → State) (h : ∀ c, s.running = some c → g c = true → V (b c) = V s) : V (s.onRunning g b) = V s := by
  unfold State.onRunning
  split
  · rfl
  · rename_i c hc
    split
    · rename_i hg; rw [hs, h c hc hg]
    · rfl

/-- A view that every part of an acceptance keeps is kept. -/
theorem acceptFrame_keeps {α : Type} (V : State → α) (c : Image) (f : Frame) (o : Arrival → State → State) (s : State)
    (h1 : ∀ s, V (s.concluded c f) = V s)
    (h2 : ∀ s a, V (s.ownerDone c a f) = V s) (h3 : ∀ s b, V (s.afterFrame b c) = V s)
    (ho : V (o (s.arrival c f) (s.heardFrame c f)) = V s) : V (acceptFrame c f o s) = V s := by
  unfold acceptFrame
  split
  · simp only [h3, h2, ho]
  · exact h1 s

/-- A frame leaves the chip view, and the queue of commands with it. -/
theorem receive_chip (f : Frame) (o : Image → Arrival → State → State) (s : State)
    (h : ∀ c a t, (o c a t).chip = t.chip) : (receive f o s).chip = s.chip := by
  unfold receive
  refine onRunning_keeps State.chip (fun _ _ _ => by simp) _ _ _ fun c _ _ => ?_
  exact acceptFrame_keeps State.chip c f _ s (by simp) (by simp) (by simp) (by simp [h])

end Sys2Proof.Machine
end

