-- ==== Sys2Proof/Laws/Records.lean ====
section
/-! SUPPORT. What latching a flag, writing a record and closing an episode do. -/

namespace Sys2Proof.Machine

open Sys2Proof

@[simp] theorem writeSlot_sc (s : State) (id : SlotId) (x : Content) : (s.writeSlot id x).sc = s.sc := rfl
@[simp] theorem writeSlot_rs (s : State) (id : SlotId) (x : Content) : (s.writeSlot id x).rs = s.rs := rfl
@[simp] theorem writeNotice_sc (s : State) (c : Image) (id : SlotId) (x : Content) : (s.writeNotice c id x).sc = s.sc := by
  unfold State.writeNotice; split <;> rfl
@[simp] theorem writeNotice_rs (s : State) (c : Image) (id : SlotId) (x : Content) : (s.writeNotice c id x).rs = s.rs := by
  unfold State.writeNotice; split <;> rfl

/-- What joining the news set does, at the RS and at the LC. -/
@[simp] theorem joinNews_rs (s : State) (f : Flag) : (s.joinNews f).rs = { s.rs with news := s.rs.news ||| f.mask } := rfl
@[simp] theorem joinNews_newsSince (s : State) (f : Flag) : (s.joinNews f).lc.newsSince = s.lc.newsSince ||| f.mask := rfl
@[simp] theorem joinNews_slot (s : State) (f : Flag) (id : SlotId) : (s.joinNews f).slot id = s.slot id := rfl

/-- A delivered NOTICE-CONDITION takes a flag out of the news set exactly if it carried it and the flag is not newly
latched since (R158). -/
theorem inSet_deliverNews (s : State) (carried : FlagSet) (f : Flag) :
    inSet (s.deliverNews carried).rs.news f = (inSet s.rs.news f && (!inSet carried f || inSet s.lc.newsSince f)) := by
  have h : f.bit < 16 := by cases f <;> decide
  simp [State.deliverNews, inSet, h]

theorem latch_log (s : State) (c : Image) (f : Flag) :
    (s.latch c f).rs.log = s.rs.log ∧ (s.latch c f).rs.written = s.rs.written ∧
    (s.latch c f).rs.discarded = s.rs.discarded ∧ (s.latch c f).rs.overwritten = s.rs.overwritten := by
  unfold State.latch; dsimp only; repeat' split
  all_goals exact ⟨rfl, rfl, rfl, rfl⟩

@[simp] theorem latch_sc (s : State) (c : Image) (f : Flag) : (s.latch c f).sc = s.sc := by
  unfold State.latch; dsimp only; repeat' split
  all_goals rfl

@[simp] theorem writeRecord_sc (s : State) (c : Image) (r : SpillRecord) : (s.writeRecord c r).sc = s.sc := by
  unfold State.writeRecord; simp
@[simp] theorem takeRecord_sc (s : State) (c : Image) (r : SpillRecord) : (s.takeRecord c r).sc = s.sc := by
  unfold State.takeRecord; dsimp only; repeat' split
  all_goals simp

theorem writeRecord_rs (s : State) (c : Image) (r : SpillRecord) :
    (s.writeRecord c r).rs = { s.rs with log := s.rs.log ++ [{ sequence := s.rs.written.setWidth 16, record := r, announced := false }], written := s.rs.written + 1 } := by
  unfold State.writeRecord
  simp only [writeNotice_rs, mapRs_rs]
  have : BitVec.ofNat 16 s.rs.written.toNat = s.rs.written.setWidth 16 := by
    apply BitVec.eq_of_toNat_eq; simp
  rw [this]

theorem takeRecord_room (s : State) (c : Image) (r : SpillRecord) (h : s.rs.log.length < 32) :
    (s.takeRecord c r).rs = { s.rs with log := s.rs.log ++ [{ sequence := s.rs.written.setWidth 16, record := r, announced := false }], written := s.rs.written + 1 } := by
  unfold State.takeRecord
  rw [if_pos (show s.rs.log.length < logSize from h)]; exact writeRecord_rs ..

theorem takeRecord_keep (s : State) (c : Image) (r : SpillRecord) (h : 32 ≤ s.rs.log.length) (hm : c.logMode = .keep) :
    (s.takeRecord c r).rs = { (s.latch c .recordLost).rs with discarded := s.rs.discarded + 1 } := by
  unfold State.takeRecord
  rw [if_neg (show ¬ s.rs.log.length < logSize from Nat.not_lt.mpr h)]; dsimp only; rw [hm]
  simp [(latch_log s c .recordLost).2.2.1]

theorem takeRecord_overwrite (s : State) (c : Image) (r : SpillRecord) (h : 32 ≤ s.rs.log.length) (hm : c.logMode = .overwrite) :
    (s.takeRecord c r).rs = { (s.latch c .recordLost).rs with
      log := s.rs.log.drop 1 ++ [{ sequence := s.rs.written.setWidth 16, record := r, announced := false }]
      written := s.rs.written + 1, overwritten := s.rs.overwritten + 1 } := by
  unfold State.takeRecord
  rw [if_neg (show ¬ s.rs.log.length < logSize from Nat.not_lt.mpr h)]; dsimp only; rw [hm]
  simp [writeRecord_rs, (latch_log s c .recordLost).2.2.2, (latch_log s c .recordLost).1, (latch_log s c .recordLost).2.1]

theorem closeEpisode_some (s : State) (c : Image) (r : SpillRecord) (h : s.sc.record = some r) :
    (s.closeEpisode c).sc = { s.sc with record := none, episode := .clear, merge := none } ∧
    (s.closeEpisode c).rs = ((s.mapSc fun x => { x with record := none, episode := .clear, merge := none }).takeRecord c r).rs := by
  unfold State.closeEpisode; dsimp only; rw [h]; simp

theorem closeEpisode_none (s : State) (c : Image) (h : s.sc.record = none) :
    (s.closeEpisode c).sc = { s.sc with record := none, episode := .clear, merge := none } ∧ (s.closeEpisode c).rs = s.rs := by
  unfold State.closeEpisode; dsimp only; rw [h]; simp

theorem inSet_or (a b : FlagSet) (f : Flag) : inSet (a ||| b) f = (inSet a f || inSet b f) := by
  unfold inSet; simp
theorem inSet_mask (f g : Flag) : inSet f.mask g = decide (f = g) := by cases f <;> cases g <;> decide
theorem inSet_zero (f : Flag) : inSet 0 f = false := by cases f <;> decide
theorem latch_latched (s : State) (c : Image) (f g : Flag) :
    inSet (s.latch c f).rs.latched g = (inSet s.rs.latched g || decide (f = g)) := by
  unfold State.latch; dsimp only
  split
  · rename_i h; by_cases e : f = g
    · subst e; simp [h]
    · simp [e]
  · split <;> simp [inSet_or, inSet_mask]

theorem latchIfStanding_latched (s : State) (c : Image) (f g : Flag) :
    inSet (s.latchIfStanding c f).rs.latched g = (inSet s.rs.latched g || (decide (f = g) && s.standing c f)) := by
  unfold State.latchIfStanding; split <;> simp_all [latch_latched]

theorem latch_standing (s : State) (c : Image) (f g : Flag) : (s.latch c f).standing c g = s.standing c g := by
  have h1 := latch_log s c f
  have h2 : (s.latch c f).ts = s.ts := by unfold State.latch; dsimp only; repeat' split
                                          all_goals rfl
  cases g <;> simp [State.standing, State.sensorCause, State.logHighCause, h1, h2]

theorem latchIfStanding_standing (s : State) (c : Image) (f g : Flag) : (s.latchIfStanding c f).standing c g = s.standing c g := by
  unfold State.latchIfStanding; split
  · exact latch_standing ..
  · rfl

theorem standing_event (s : State) (c : Image) (f : Flag) (h : f ≠ .sensorFault) (h2 : f ≠ .tideLocked) (h3 : f ≠ .logHigh) : s.standing c f = false := by
  cases f <;> first | rfl | simp_all

theorem latchStanding_latched (s : State) (c : Image) (g : Flag) :
    inSet (s.latchStanding c).rs.latched g = (inSet s.rs.latched g || s.standing c g) := by
  unfold State.latchStanding
  simp only [latchIfStanding_latched, latchIfStanding_standing]
  cases g <;> simp [State.standing]

theorem statusForChange_rs (s : State) : s.statusForChange.rs = s.rs := by
  unfold State.statusForChange; split <;> rfl

theorem inSet_and_not (x m : FlagSet) (g : Flag) : inSet (x &&& ~~~m) g = (inSet x g && !inSet m g) := by
  cases g <;> simp [inSet, Flag.bit]

/-- What a CLEAR that clears a flag leaves latched (R153). -/
theorem takeClear_latched {s : State} (c : Image) {mask : FlagSet} (h : s.rs.latched &&& mask ≠ 0) (g : Flag) :
    inSet (s.takeClear c mask).rs.latched g = ((inSet s.rs.latched g && !inSet mask g) || s.standing c g) := by
  unfold State.takeClear
  rw [if_neg h, statusForChange_rs, latchStanding_latched]
  show (inSet (s.rs.latched &&& ~~~mask) g || (s.clearFlags mask).standing c g) = _
  rw [inSet_and_not]
  rfl

/-- A CLEAR that names no latched flag changes nothing (R153). -/
theorem takeClear_none {s : State} (c : Image) {mask : FlagSet} (h : s.rs.latched &&& mask = 0) :
    s.takeClear c mask = s := by
  unfold State.takeClear; rw [if_pos h]

end Sys2Proof.Machine
end

