-- ==== Sys2Proof/Laws/SettleEffects.lean ====
section
/-! SUPPORT. What the end of a command does to the flags, the queue, the shares, the drain machine and the line. -/

namespace Sys2Proof.Machine

open Sys2Proof

theorem drainStep_rs (s b : State) (c : Image) : (s.drainStep b c).rs = s.rs := by
  have hr : ∀ x : State, (x.drainReport c).rs = x.rs := by
    intro x; unfold State.drainReport; dsimp only
    repeat' split
    all_goals try rfl
    unfold State.judgeParked; repeat' split
    all_goals rfl
  have ht : ∀ x : State, (x.testClaim c).rs = x.rs := by
    intro x; unfold State.testClaim; split <;> rfl
  unfold State.drainStep; dsimp only; repeat' split
  · rw [ht, hr]
  · rw [hr]
  · rfl

theorem controlCalm_rs (s : State) (c : Image) : (s.controlCalm c).rs = s.rs := by
  unfold State.controlCalm; repeat' split
  all_goals rfl
theorem writeJoinIfDue_rs (s : State) (c : Image) : (s.writeJoinIfDue c).rs = s.rs := by
  unfold State.writeJoinIfDue; split <;> rfl
theorem statusOnChange_rs (s b : State) : (s.statusOnChange b).rs = s.rs := by
  unfold State.statusOnChange State.statusForChange; (repeat' split) <;> rfl
theorem watchDormancy_rs (s : State) (c : Image) : (s.watchDormancy c).rs = s.rs := by
  unfold State.watchDormancy; dsimp only; repeat' split
  all_goals rfl
theorem startFlight_rs (s : State) (c : Image) (id : SlotId) : (s.startFlight c id).rs = s.rs := by
  unfold State.startFlight; split <;> rfl
theorem offer_rs (s : State) (c : Image) (fresh : Bool) : (s.offer c fresh).rs = s.rs := by
  unfold State.offer State.offerIfStillIdle; repeat' split
  all_goals first | rfl | exact startFlight_rs ..
theorem writeReplies_rs (s : State) (n : Nat) (ids : List SlotId) (rs : List Reply) :
    (s.writeReplies n ids rs).rs = s.rs := by
  induction ids generalizing s rs with
  | nil => cases rs <;> rfl
  | cons id ids ih =>
    cases rs with
    | nil => rfl
    | cons r rs => exact (ih (s.writeSlot id (.reply n r)) rs).trans rfl
theorem serviceMove_latched (s : State) (c : Image) : (s.serviceMove c).rs.latched = s.rs.latched ∧ (s.serviceMove c).rs.news = s.rs.news := by
  unfold State.serviceMove; repeat' split
  all_goals simp [writeReplies_rs]
theorem serviceMoves_latched (s : State) (c : Image) (n : Nat) : (s.serviceMoves c n).rs.latched = s.rs.latched ∧ (s.serviceMoves c n).rs.news = s.rs.news := by
  induction n generalizing s with
  | zero => exact ⟨rfl, rfl⟩
  | succ n ih => exact ⟨(ih _).1.trans (serviceMove_latched s c).1, (ih _).2.trans (serviceMove_latched s c).2⟩

theorem standing_congr {s t : State} (c : Image) (h1 : t.ts.chamberQuality = s.ts.chamberQuality) (h2 : t.ts.tankQuality = s.ts.tankQuality)
    (h3 : t.ts.tideLock = s.ts.tideLock) (h4 : t.rs.log = s.rs.log) (f : Flag) : t.standing c f = s.standing c f := by
  cases f <;> simp [State.standing, State.sensorCause, State.logHighCause, h1, h2, h3, h4]

theorem standing_of_frozen {s t : State} (c : Image) (h : t.frozen = s.frozen) (f : Flag) : t.standing c f = s.standing c f :=
  standing_congr c (eq_of_frozen (·.ts.chamberQuality) (fun _ => rfl) h) (eq_of_frozen (·.ts.tankQuality) (fun _ => rfl) h)
   (eq_of_frozen (·.ts.tideLock) (fun _ => rfl) h) (eq_of_frozen (·.rs.log) (fun _ => rfl) h) f

theorem settle_latched (c : Image) (b s : State) (f : Flag) :
    inSet (settle c b s).rs.latched f = (inSet s.rs.latched f || s.standing c f) := by
  unfold settle settleBlocks
  simp only [offer_rs, watchDormancy_rs, statusOnChange_rs, State.runService, (serviceMoves_latched _ _ _).1]
  rw [writeJoinIfDue_rs]
  show inSet (State.controlCalm _ c).rs.latched f = _
  rw [controlCalm_rs, latchStanding_latched]
  have h1 : ∀ x : State, (x.setValve c).rs = x.rs := fun _ => rfl
  rw [h1, drainStep_rs]
  congr 1
  apply standing_of_frozen
  rw [setValve_frozen, drainStep_frozen, recomputeUrgency_frozen]

/-- queue -/
theorem settle_queue_nil (c : Image) (b s : State) (h : s.rs.queue = []) (h2 : s.rs.serving = false): (settle c b s).rs.queue = [] := by
  unfold settle settleBlocks
  simp only [offer_rs, watchDormancy_rs, statusOnChange_rs, State.runService]
  have key : ∀ (n : Nat) (x : State), x.rs.queue = [] → x.rs.serving = false → (x.serviceMoves c n).rs.queue = [] := by
    intro n
    induction n with
    | zero => intro x h _; exact h
    | succ n ih => intro x h h2
                   have : x.serviceMove c = x := by unfold State.serviceMove; simp [h2, h]
                   unfold State.serviceMoves; rw [this]; exact ih x h h2
  have hl : ∀ x : State, (x.latchStanding c).rs.queue = x.rs.queue ∧ (x.latchStanding c).rs.serving = x.rs.serving := by
    have h1 : ∀ (x : State) (f : Flag), (x.latch c f).rs.queue = x.rs.queue ∧ (x.latch c f).rs.serving = x.rs.serving := by
      intro x f; unfold State.latch; dsimp only; repeat' split
      all_goals exact ⟨rfl, rfl⟩
    have h2 : ∀ (x : State) (f : Flag), (x.latchIfStanding c f).rs.queue = x.rs.queue ∧ (x.latchIfStanding c f).rs.serving = x.rs.serving := by
      intro x f; unfold State.latchIfStanding; split
      · exact h1 x f
      · exact ⟨rfl, rfl⟩
    intro x; unfold State.latchStanding; simp only [h2, and_self]
  apply key
  · rw [writeJoinIfDue_rs]; show (State.controlCalm _ c).rs.queue = _
    rw [controlCalm_rs, (hl _).1]; show (State.drainStep _ _ _).rs.queue = _; rw [drainStep_rs]; exact h
  · rw [writeJoinIfDue_rs]; show (State.controlCalm _ c).rs.serving = _
    rw [controlCalm_rs, (hl _).2]; show (State.drainStep _ _ _).rs.serving = _; rw [drainStep_rs]; exact h2

/-! off LINKED: the drain machine and the SA are not touched -/
theorem drainStep_unlinked (s b : State) (c : Image) (h : s.mu.membership ≠ .linked) : s.drainStep b c = s := by
  unfold State.drainStep; rw [if_neg h]

/-- sa and ts fields through the tail of settle (after drainStep). -/
theorem latch_ts_sa (s : State) (c : Image) (f : Flag) : (s.latch c f).ts = s.ts ∧ (s.latch c f).sa = s.sa := by
  unfold State.latch; dsimp only; repeat' split
  all_goals exact ⟨rfl, rfl⟩
theorem latchStanding_ts_sa (s : State) (c : Image) : (s.latchStanding c).ts = s.ts ∧ (s.latchStanding c).sa = s.sa := by
  have h2 : ∀ (x : State) (f : Flag), (x.latchIfStanding c f).ts = x.ts ∧ (x.latchIfStanding c f).sa = x.sa := by
    intro x f; unfold State.latchIfStanding; split
    · exact latch_ts_sa ..
    · exact ⟨rfl, rfl⟩
  unfold State.latchStanding; simp only [h2, and_self]
theorem serviceMoves_ts_sa (s : State) (c : Image) (n : Nat) : (s.serviceMoves c n).ts = s.ts ∧ (s.serviceMoves c n).sa = s.sa := by
  have hw : ∀ (ids : List SlotId) (rs : List Reply) (x : State) (m : Nat), (x.writeReplies m ids rs).ts = x.ts ∧ (x.writeReplies m ids rs).sa = x.sa := by
    intro ids
    induction ids with
    | nil => intro rs x m; cases rs <;> exact ⟨rfl, rfl⟩
    | cons id ids ih => intro rs x m; cases rs with
                        | nil => exact ⟨rfl, rfl⟩
                        | cons r rs => exact ih rs (x.writeSlot id (.reply m r)) m
  have h1 : ∀ x : State, (x.serviceMove c).ts = x.ts ∧ (x.serviceMove c).sa = x.sa := by
    intro x; unfold State.serviceMove; repeat' split
    all_goals first | exact ⟨rfl, rfl⟩ | exact hw ..
  induction n generalizing s with
  | zero => exact ⟨rfl, rfl⟩
  | succ n ih => exact ⟨(ih _).1.trans (h1 s).1, (ih _).2.trans (h1 s).2⟩

/-- After drainStep and setValve nothing of ts and sa changes. -/
theorem settle_ts_sa (c : Image) (b s : State) :
    (settle c b s).ts = (((s.recomputeUrgency c).drainStep b c).setValve c).ts ∧
    (settle c b s).sa = (((s.recomputeUrgency c).drainStep b c).setValve c).sa := by
  have hwd : ∀ x : State, (x.watchDormancy c).ts = x.ts ∧ (x.watchDormancy c).sa = x.sa := by
    intro x; unfold State.watchDormancy; dsimp only; repeat' split
    all_goals exact ⟨rfl, rfl⟩
  have hsc : ∀ x : State, (x.statusOnChange b).ts = x.ts ∧ (x.statusOnChange b).sa = x.sa := by
    intro x; unfold State.statusOnChange State.statusForChange; (repeat' split) <;> exact ⟨rfl, rfl⟩
  have hof : ∀ (x : State) (k : Bool), (x.offer c k).ts = x.ts ∧ (x.offer c k).sa = x.sa := by
    intro x k; unfold State.offer State.offerIfStillIdle State.startFlight; repeat' split
    all_goals exact ⟨rfl, rfl⟩
  have hcc : ∀ x : State, (x.controlCalm c).ts = x.ts ∧ (x.controlCalm c).sa = x.sa := by
    intro x; unfold State.controlCalm; repeat' split
    all_goals exact ⟨rfl, rfl⟩
  have hwj : ∀ x : State, (x.writeJoinIfDue c).ts = x.ts ∧ (x.writeJoinIfDue c).sa = x.sa := by
    intro x; unfold State.writeJoinIfDue; split <;> exact ⟨rfl, rfl⟩
  have hws : ∀ x : State, (x.watchSilence c).ts = x.ts ∧ (x.watchSilence c).sa = x.sa := fun _ => ⟨rfl, rfl⟩
  unfold settle settleBlocks
  dsimp only
  simp only [hof, hwd, hsc, State.runService, serviceMoves_ts_sa, hwj, hws, hcc, latchStanding_ts_sa, and_self]

theorem settle_sa_unlinked (c : Image) (b s : State) (h : s.mu.membership ≠ .linked) : (settle c b s).sa = s.sa := by
  rw [(settle_ts_sa c b s).2, drainStep_unlinked]
  · rfl
  · exact h
theorem settle_drain_unlinked (c : Image) (b s : State) (h : s.mu.membership ≠ .linked) :
    (settle c b s).ts.drain = s.ts.drain ∧ (settle c b s).ts.valve = 0 := by
  rw [(settle_ts_sa c b s).1, drainStep_unlinked (s.recomputeUrgency c) b c h]
  refine ⟨rfl, ?_⟩
  simp [State.setValve, State.valveNow, State.recomputeUrgency, h]

theorem offTheTables_settle {c : Image} {b u : State} (hm : u.mu.membership ≠ .linked) (h1 : u.sa = SaState.reset)
    (h2 : u.mu.roster = none) (h3 : u.mu.lock = none) (h4 : u.ts.drain = .idle) (h5 : u.ac.activity = .active) :
    OffTheTables (settle c b u) := by
  have := settle_sa_unlinked c b u hm
  have hd := settle_drain_unlinked c b u hm
  unfold OffTheTables
  rw [this, h1, hd.1, hd.2]
  simp [h2, h3, h4, h5, SaState.reset]

/-- what settleBlocks leaves of the LC -/
def lcRest (s : State) : LcState := { s.lc with slots := .blank, newsSince := 0 }

theorem lcRest_latch (s : State) (c : Image) (f : Flag) : lcRest (s.latch c f) = lcRest s := by
  unfold State.latch; dsimp only; repeat' split
  all_goals rfl
theorem lcRest_latchIf (s : State) (c : Image) (f : Flag) : lcRest (s.latchIfStanding c f) = lcRest s := by
  unfold State.latchIfStanding; split
  · exact lcRest_latch ..
  · rfl
theorem lcRest_latchStanding (s : State) (c : Image) : lcRest (s.latchStanding c) = lcRest s := by
  unfold State.latchStanding; simp only [lcRest_latchIf]
theorem lcRest_drainStep (s b : State) (c : Image) : lcRest (s.drainStep b c) = lcRest s := by
  have hr : ∀ x : State, lcRest (x.drainReport c) = lcRest x := by
    intro x; unfold State.drainReport; dsimp only
    repeat' split
    all_goals try rfl
    unfold State.judgeParked; repeat' split
    all_goals rfl
  have ht : ∀ x : State, lcRest (x.testClaim c) = lcRest x := by
    intro x; unfold State.testClaim; split <;> rfl
  unfold State.drainStep; dsimp only; repeat' split
  · rw [ht, hr]
  · rw [hr]
  · rfl
theorem lcRest_replies (s : State) (n : Nat) (ids : List SlotId) (rs : List Reply) : lcRest (s.writeReplies n ids rs) = lcRest s := by
  induction ids generalizing s rs with
  | nil => cases rs <;> rfl
  | cons id ids ih =>
    cases rs with
    | nil => rfl
    | cons r rs => exact (ih (s.writeSlot id (.reply n r)) rs).trans rfl
theorem lcRest_service (s : State) (c : Image) (n : Nat) : lcRest (s.serviceMoves c n) = lcRest s := by
  have h1 : ∀ x : State, lcRest (x.serviceMove c) = lcRest x := by
    intro x; unfold State.serviceMove; repeat' split
    all_goals first | rfl | exact lcRest_replies ..
  induction n generalizing s with
  | zero => rfl
  | succ n ih => exact (ih _).trans (h1 s)
theorem lcRest_settleBlocks (c : Image) (b s : State) : lcRest (settleBlocks c b s) = lcRest s := by
  have hwd : ∀ x : State, lcRest (x.watchDormancy c) = lcRest x := by
    intro x; unfold State.watchDormancy; dsimp only; repeat' split
    all_goals rfl
  have hsc : ∀ x : State, lcRest (x.statusOnChange b) = lcRest x := by
    intro x; unfold State.statusOnChange State.statusForChange; (repeat' split) <;> rfl
  have hcc : ∀ x : State, lcRest (x.controlCalm c) = lcRest x := by
    intro x; unfold State.controlCalm; repeat' split
    all_goals rfl
  have hwj : ∀ x : State, lcRest (x.writeJoinIfDue c) = lcRest x := by
    intro x; unfold State.writeJoinIfDue; split <;> rfl
  have hws : ∀ x : State, lcRest (x.watchSilence c) = lcRest x := fun _ => rfl
  have hsv : ∀ x : State, lcRest (x.setValve c) = lcRest x := fun _ => rfl
  have hru : ∀ x : State, lcRest (x.recomputeUrgency c) = lcRest x := fun _ => rfl
  unfold settleBlocks
  simp only [hwd, hsc, State.runService, lcRest_service, hwj, hws, hcc, lcRest_latchStanding, hsv, lcRest_drainStep, hru]

theorem lcRest_idle (x : State) : (lcRest x).idle = x.lc.idle := rfl
theorem settleBlocks_idle (c : Image) (b s : State) : (settleBlocks c b s).lc.idle = s.lc.idle := by
  rw [← lcRest_idle, lcRest_settleBlocks, lcRest_idle]

theorem offer_idle_false (s : State) (c : Image) (fresh : Bool) (h : s.lc.idle = false) : s.offer c fresh = s := by
  unfold State.offer State.mayOffer; simp [h]

theorem settle_of_busy (c : Image) (b s : State) (h : s.lc.idle = false) : settle c b s = settleBlocks c b s := by
  unfold settle; rw [offer_idle_false]; rw [settleBlocks_idle, h]

end Sys2Proof.Machine
end

