-- ==== Sys2Proof/Laws/Events.lean ====
section
/-! SUPPORT. What local evaluations, alert events, wake triggers, going dormant and the lock do. -/

namespace Sys2Proof.Machine

open Sys2Proof

theorem books_of_spills {s t : State} (h : t.spills = s.spills) : t.books = s.books := by
  simp only [State.spills, Prod.mk.injEq] at h
  simp [State.books, h]

theorem gradeOfDepths_eval (s : State) (c : Image) : (s.evaluateLocal c).ru.localGrade = gradeOfDepths c s.depth5 s.depth15 ∧
   (s.evaluateLocal c).ru.ring = s.ru.ring ∧ (s.evaluateLocal c).ru.current = s.ru.current ∧ (s.evaluateLocal c).ru.chatter = s.ru.chatter ∧ (s.evaluateLocal c).srm = s.srm := by
  unfold State.evaluateLocal
  dsimp only
  split
  · rename_i h; exact ⟨h.symm, rfl, rfl, rfl, rfl⟩
  · exact ⟨rfl, rfl, rfl, rfl, rfl⟩

theorem enterWaking_ru (s : State) (c : Image) : (s.enterWaking c).ru = s.ru ∧ (s.enterWaking c).srm = s.srm := ⟨rfl, rfl⟩

theorem wakeTrigger_ru (s : State) (c : Image) : (s.wakeTrigger c).ru = s.ru ∧ (s.wakeTrigger c).srm = s.srm := by
  unfold State.wakeTrigger
  split
  · exact ⟨rfl, rfl⟩
  · split <;> exact ⟨rfl, rfl⟩
  · exact ⟨rfl, rfl⟩

theorem readinessEvent_climb (s : State) (c : Image) (g : Grade) (z : Option Nat) :
    (s.readinessEvent c g z).srm.readiness = climb s.srm.readiness g ∧ (s.readinessEvent c g z).ru = s.ru := by
  unfold State.readinessEvent
  cases h : s.srm.readiness <;> cases g <;> dsimp only [Grade.code] <;> simp [climb, (wakeTrigger_ru _ c).1, (wakeTrigger_ru _ c).2, h, State.stormFlag, State.mapRecord]

theorem heeded_congr {s t : State} (h : t.ru = s.ru) (c : Image) : t.heededGrade c = s.heededGrade c := by
  unfold State.heededGrade State.zoneGrade; rw [h]

theorem alertEvent_climb (s : State) (c : Image) :
    (s.alertEvent c).srm.readiness = climb s.srm.readiness ((s.alertEvent c).heededGrade c) ∧ (s.alertEvent c).ru = s.ru := by
  unfold State.alertEvent
  dsimp only
  have h := readinessEvent_climb s c (s.heededGrade c) (s.sourceZone c (s.heededGrade c))
  refine ⟨?_, h.2⟩
  rw [h.1, heeded_congr h.2]

theorem depths_congr {s t : State} (h : t.ru = s.ru) : t.depth5 = s.depth5 ∧ t.depth15 = s.depth15 := by
  unfold State.depth5 State.depth15; rw [h]; exact ⟨rfl, rfl⟩

theorem localEvent_facts (s : State) (c : Image) :
    (s.localEvent c).ru.localGrade = gradeOfDepths c s.depth5 s.depth15 ∧ (s.localEvent c).ru.ring = s.ru.ring ∧
    (s.localEvent c).ru.current = s.ru.current ∧ (s.localEvent c).ru.chatter = s.ru.chatter ∧
    (s.localEvent c).srm.readiness = climb s.srm.readiness ((s.localEvent c).heededGrade c) := by
  unfold State.localEvent
  have h1 := alertEvent_climb (s.evaluateLocal c) c
  have h2 := gradeOfDepths_eval s c
  refine ⟨by rw [h1.2, h2.1], by rw [h1.2, h2.2.1], by rw [h1.2, h2.2.2.1], by rw [h1.2, h2.2.2.2.1], ?_⟩
  rw [h1.1, h2.2.2.2.2]

theorem wakeTrigger_wakes (s : State) (c : Image) (h : s.ac.activity = .dormant ∨ s.ac.activity = .waking) : (s.wakeTrigger c).ac.activity = .waking := by
  unfold State.wakeTrigger
  rcases h with h | h <;> rw [h]
  · rfl
  · exact h

theorem localEvent_activity (s : State) (c : Image) (h : s.ac.activity = .dormant) : (s.localEvent c).ac.activity = .dormant ∨ (s.localEvent c).ac.activity = .waking := by
  have h1 : (s.evaluateLocal c).ac = s.ac := by unfold State.evaluateLocal; dsimp only; split <;> rfl
  unfold State.localEvent State.alertEvent State.readinessEvent
  dsimp only
  split
  · split
    · right; apply wakeTrigger_wakes; left; simp [h1, h]
    · left; rw [h1, h]
  · left; split <;> simp [h1, h]
  · left; split <;> simp [State.stormFlag, State.mapRecord, h1, h]
  · left; rw [h1, h]

/-! ## Going dormant, and the lock -/

theorem restDrain_idle (s : State) (c : Image) : (s.restDrain c).ts.drain = .idle := by
  unfold State.restDrain
  split
  · assumption
  · rfl

/-- Whoever has the station go dormant, the drain machine is IDLE from there on. -/
theorem ownDormant_idle (s : State) (c : Image) (a : Arrival) (h : s.dormancyTaken a = true) :
    (s.ownDormant c a).ts.drain = .idle := by
  unfold State.ownDormant
  rw [if_pos h]
  dsimp only
  split <;> exact restDrain_idle s c

theorem chooseResponder_ne_joiner (s : State) (j : Nat) (h : j ≠ 0) : s.chooseResponder j ≠ j := by
  have key : ∀ p : Nat → Bool, (∀ n, p n = true → n ≠ j) → ∀ n, tankNumbers.find? p = some n → n ≠ j :=
    fun p hp n hn => hp n (List.find?_some hn)
  unfold State.chooseResponder
  dsimp only
  split
  · rename_i n hn
    exact key _ (fun m hm => by simp at hm; exact hm.1.1) n hn
  · cases hf : tankNumbers.find? fun n => !decide (n = j) && s.isLinked n with
    | none => simpa [hf] using fun e => h e.symm
    | some n => simpa [hf] using key _ (fun m hm => by simp at hm; exact hm.1) n hf

/-- The end of a lock of the station's own JOIN leaves its roster as it was (R36). -/
theorem endLock_own (s : State) (c : Image) (l : Lock) (h : s.mu.lock = some l) (hj : l.joiner = c.station) :
    (s.endLock c).mu.roster = s.mu.roster ∧ (s.endLock c).mu.lock = none := by
  unfold State.endLock
  rw [h]
  dsimp only
  rw [if_pos hj]
  split <;> exact ⟨rfl, rfl⟩

end Sys2Proof.Machine
end

