-- ==== Sys2Proof/Laws/KeepsLine.lean ====
section
/-! SUPPORT. The operations that leave the LC's tally, spacing and following as they were: one line each. -/

namespace Sys2Proof.Machine

open Sys2Proof

set_option linter.unusedTactic false
set_option linter.unnecessarySeqFocus false
set_option linter.unreachableTactic false

@[simp] theorem mapCl_line (s : State) (f : ClState → ClState) :
    (s.mapCl f).line = s.line := rfl

@[simp] theorem mapLc_line (s : State) (f : LcState → LcState)
    (h0 : ∀ x, (f x).tally = x.tally) (h1 : ∀ x, (f x).spacing = x.spacing) (h2 : ∀ x, (f x).following = x.following) :
    (s.mapLc f).line = s.line := by
  simp [State.line, h0, h1, h2]

@[simp] theorem mapMu_line (s : State) (f : MuState → MuState) :
    (s.mapMu f).line = s.line := rfl

@[simp] theorem mapSa_line (s : State) (f : SaState → SaState) :
    (s.mapSa f).line = s.line := rfl

@[simp] theorem mapTs_line (s : State) (f : TsState → TsState) :
    (s.mapTs f).line = s.line := rfl

@[simp] theorem mapRu_line (s : State) (f : RuState → RuState) :
    (s.mapRu f).line = s.line := rfl

@[simp] theorem mapSrm_line (s : State) (f : SrmState → SrmState) :
    (s.mapSrm f).line = s.line := rfl

@[simp] theorem mapSc_line (s : State) (f : ScState → ScState) :
    (s.mapSc f).line = s.line := rfl

@[simp] theorem mapRs_line (s : State) (f : RsState → RsState) :
    (s.mapRs f).line = s.line := rfl

@[simp] theorem mapAc_line (s : State) (f : AcState → AcState) :
    (s.mapAc f).line = s.line := rfl

@[simp] theorem settle_line (c : Image) (b s : State) : (settle c b s).line = s.line := by
  simp [State.line]

@[simp] theorem setSlot_line (s : State) (id : SlotId) (x : Slot) :
    (s.setSlot id x).line = s.line := by
  unfold State.setSlot; (try dsimp only); (repeat' split) <;> first | with_reducible rfl | simp

@[simp] theorem writeSlot_line (s : State) (id : SlotId) (c : Content) :
    (s.writeSlot id c).line = s.line := by
  unfold State.writeSlot; (try dsimp only); (repeat' split) <;> first | with_reducible rfl | simp

@[simp] theorem cancelSlot_line (s : State) (id : SlotId) :
    (s.cancelSlot id).line = s.line := by
  unfold State.cancelSlot; (try dsimp only); (repeat' split) <;> first | with_reducible rfl | simp

@[simp] theorem pruneSlot_line (s : State) (id : SlotId) (stations : List Nat) :
    (s.pruneSlot id stations).line = s.line := by
  unfold State.pruneSlot; (try dsimp only); (repeat' split) <;> first | with_reducible rfl | simp

@[simp] theorem mapEntry_line (s : State) (n : Nat) (f : RosterEntry → RosterEntry) :
    (s.mapEntry n f).line = s.line := by
  unfold State.mapEntry; (try dsimp only); (repeat' split) <;> first | with_reducible rfl | simp

@[simp] theorem clearEntry_line (s : State) (n : Nat) :
    (s.clearEntry n).line = s.line := by
  unfold State.clearEntry; (try dsimp only); (repeat' split) <;> first | with_reducible rfl | simp

@[simp] theorem reorderClaims_line (s : State)  :
    (s.reorderClaims).line = s.line := by
  unfold State.reorderClaims; (try dsimp only); (repeat' split) <;> first | with_reducible rfl | simp

@[simp] theorem writeNotice_line (s : State) (c : Image) (id : SlotId) (content : Content) :
    (s.writeNotice c id content).line = s.line := by
  unfold State.writeNotice; (try dsimp only); (repeat' split) <;> first | with_reducible rfl | simp

@[simp] theorem joinNews_line (s : State) (f : Flag) :
    (s.joinNews f).line = s.line := rfl

@[simp] theorem latch_line (s : State) (c : Image) (f : Flag) :
    (s.latch c f).line = s.line := by
  unfold State.latch; (try dsimp only); (repeat' split) <;> first | with_reducible rfl | simp

@[simp] theorem latchIfStanding_line (s : State) (c : Image) (f : Flag) :
    (s.latchIfStanding c f).line = s.line := by
  unfold State.latchIfStanding; (try dsimp only); (repeat' split) <;> first | with_reducible rfl | simp

@[simp] theorem latchStanding_line (s : State) (c : Image) :
    (s.latchStanding c).line = s.line := by
  unfold State.latchStanding; (try dsimp only); (repeat' split) <;> first | with_reducible rfl | simp

@[simp] theorem writeStatus_line (s : State)  :
    (s.writeStatus).line = s.line := by
  unfold State.writeStatus; (try dsimp only); (repeat' split) <;> first | with_reducible rfl | simp

@[simp] theorem statusForChange_line (s : State)  :
    (s.statusForChange).line = s.line := by
  unfold State.statusForChange; (try dsimp only); (repeat' split) <;> first | with_reducible rfl | simp

@[simp] theorem writeRecord_line (s : State) (c : Image) (r : SpillRecord) :
    (s.writeRecord c r).line = s.line := by
  unfold State.writeRecord; (try dsimp only); (repeat' split) <;> first | with_reducible rfl | simp

@[simp] theorem takeRecord_line (s : State) (c : Image) (r : SpillRecord) :
    (s.takeRecord c r).line = s.line := by
  unfold State.takeRecord; (try dsimp only); (repeat' split) <;> first | with_reducible rfl | simp

@[simp] theorem acknowledge_line (s : State) (c : Image) (sequence : Half) :
    (s.acknowledge c sequence).line = s.line := by
  unfold State.acknowledge; (try dsimp only); (repeat' split) <;> first | with_reducible rfl | simp

@[simp] theorem writeReplies_line (s : State) (n : Nat) (ids : List SlotId) (rs : List Reply) :
    (s.writeReplies n ids rs).line = s.line := by
  induction ids generalizing s rs with
  | nil => cases rs <;> rfl
  | cons id ids ih =>
    cases rs with
    | nil => rfl
    | cons r rs => simp only [State.writeReplies, ih, writeSlot_line]

@[simp] theorem serviceMove_line (s : State) (c : Image) :
    (s.serviceMove c).line = s.line := by
  unfold State.serviceMove; (try dsimp only); (repeat' split) <;> first | with_reducible rfl | simp

@[simp] theorem serviceMoves_line (s : State) (c : Image) (n : Nat) :
    (s.serviceMoves c n).line = s.line := by
  induction n generalizing s with
  | zero => rfl
  | succ n ih => simp only [State.serviceMoves, ih, serviceMove_line]

@[simp] theorem runService_line (s : State) (c : Image) :
    (s.runService c).line = s.line := by
  unfold State.runService; (try dsimp only); (repeat' split) <;> first | with_reducible rfl | simp

@[simp] theorem mapRecord_line (s : State) (f : SpillRecord → SpillRecord) :
    (s.mapRecord f).line = s.line := by
  unfold State.mapRecord; (try dsimp only); (repeat' split) <;> first | with_reducible rfl | simp

@[simp] theorem openEpisode_line (s : State) (c : Image) :
    (s.openEpisode c).line = s.line := by
  unfold State.openEpisode; (try dsimp only); (repeat' split) <;> first | with_reducible rfl | simp

@[simp] theorem closeEpisode_line (s : State) (c : Image) :
    (s.closeEpisode c).line = s.line := by
  unfold State.closeEpisode; (try dsimp only); (repeat' split) <;> first | with_reducible rfl | simp

@[simp] theorem onsetSample_line (s : State) (c : Image) (level : Nat) (suspect : Bool) :
    (s.onsetSample c level suspect).line = s.line := by
  unfold State.onsetSample; (try dsimp only); (repeat' split) <;> first | with_reducible rfl | simp

@[simp] theorem accrueSample_line (s : State) (c : Image) (level : Nat) (suspect : Bool) :
    (s.accrueSample c level suspect).line = s.line := by
  unfold State.accrueSample; (try dsimp only); (repeat' split) <;> first | with_reducible rfl | simp

@[simp] theorem enterMergeWait_line (s : State) (c : Image) :
    (s.enterMergeWait c).line = s.line := by
  unfold State.enterMergeWait; (try dsimp only); (repeat' split) <;> first | with_reducible rfl | simp

@[simp] theorem settleSample_line (s : State) (c : Image) :
    (s.settleSample c).line = s.line := by
  unfold State.settleSample; (try dsimp only); (repeat' split) <;> first | with_reducible rfl | simp

@[simp] theorem spillingSample_line (s : State) (c : Image) (level : Nat) (suspect : Bool) :
    (s.spillingSample c level suspect).line = s.line := by
  unfold State.spillingSample; (try dsimp only); (repeat' split) <;> first | with_reducible rfl | simp

@[simp] theorem nonSpillingSample_line (s : State) (c : Image) (level : Nat) (suspect tideLocked : Bool) :
    (s.nonSpillingSample c level suspect tideLocked).line = s.line := by
  unfold State.nonSpillingSample; (try dsimp only); (repeat' split) <;> first | with_reducible rfl | simp

@[simp] theorem unknownSample_line (s : State)  :
    (s.unknownSample).line = s.line := by
  unfold State.unknownSample; (try dsimp only); (repeat' split) <;> first | with_reducible rfl | simp

@[simp] theorem spillSample_line (s : State) (c : Image) (chamber : Channel) :
    (s.spillSample c chamber).line = s.line := by
  unfold State.spillSample; (try dsimp only); (repeat' split) <;> first | with_reducible rfl | simp

@[simp] theorem stormFlag_line (s : State)  :
    (s.stormFlag).line = s.line := by
  unfold State.stormFlag; (try dsimp only); (repeat' split) <;> first | with_reducible rfl | simp

@[simp] theorem cutEpisode_line (s : State) (c : Image) :
    (s.cutEpisode c).line = s.line := by
  unfold State.cutEpisode; (try dsimp only); (repeat' split) <;> first | with_reducible rfl | simp

@[simp] theorem newPeriod_line (s : State)  :
    (s.newPeriod).line = s.line := by
  unfold State.newPeriod; (try dsimp only); (repeat' split) <;> first | with_reducible rfl | simp

@[simp] theorem releaseShares_line (s : State) (set : List Nat) :
    (s.releaseShares set).line = s.line := by
  unfold State.releaseShares; (try dsimp only); (repeat' split) <;> first | with_reducible rfl | simp

@[simp] theorem releaseAll_line (s : State) (c : Image) :
    (s.releaseAll c).line = s.line := by
  unfold State.releaseAll; (try dsimp only); (repeat' split) <;> first | with_reducible rfl | simp

@[simp] theorem wantToClaim_line (s : State) (c : Image) (urgency : Nat) :
    (s.wantToClaim c urgency).line = s.line := by
  unfold State.wantToClaim; (try dsimp only); (repeat' split) <;> first | with_reducible rfl | simp

@[simp] theorem requestWithdraw_line (s : State) (c : Image) :
    (s.requestWithdraw c).line = s.line := by
  unfold State.requestWithdraw; (try dsimp only); (repeat' split) <;> first | with_reducible rfl | simp

@[simp] theorem dropOutgoing_line (s : State) (set : List Nat) :
    (s.dropOutgoing set).line = s.line := by
  unfold State.dropOutgoing; (try dsimp only); (repeat' split) <;> first | with_reducible rfl | simp

@[simp] theorem voidShares_line (s : State)  :
    (s.voidShares).line = s.line := by
  unfold State.voidShares; (try dsimp only); (repeat' split) <;> first | with_reducible rfl | simp

@[simp] theorem foundShares_line (s : State) (c : Image) :
    (s.foundShares c).line = s.line := by
  unfold State.foundShares; (try dsimp only); (repeat' split) <;> first | with_reducible rfl | simp

@[simp] theorem returnWhere_line (s : State) (p : Nat → Share → Bool) :
    (s.returnWhere p).line = s.line := by
  unfold State.returnWhere; (try dsimp only); (repeat' split) <;> first | with_reducible rfl | simp

@[simp] theorem dropClaim_line (s : State) (n : Nat) :
    (s.dropClaim n).line = s.line := by
  unfold State.dropClaim; (try dsimp only); (repeat' split) <;> first | with_reducible rfl | simp

@[simp] theorem setUrgency_line (s : State) (n urgency : Nat) :
    (s.setUrgency n urgency).line = s.line := by
  unfold State.setUrgency; (try dsimp only); (repeat' split) <;> first | with_reducible rfl | simp

@[simp] theorem claimShares_line (s : State) (n count : Nat) :
    (s.claimShares n count).line = s.line := by
  unfold State.claimShares; (try dsimp only); (repeat' split) <;> first | with_reducible rfl | simp

@[simp] theorem takeClaim_line (s : State) (n urgency field : Nat) :
    (s.takeClaim n urgency field).line = s.line := by
  unfold State.takeClaim; (try dsimp only); (repeat' split) <;> first | with_reducible rfl | simp

@[simp] theorem takeRelease_line (s : State) (n : Nat) (set : List Nat) :
    (s.takeRelease n set).line = s.line := by
  unfold State.takeRelease; (try dsimp only); (repeat' split) <;> first | with_reducible rfl | simp

@[simp] theorem takeYield_line (s : State) (n share : Nat) :
    (s.takeYield n share).line = s.line := by
  unfold State.takeYield; (try dsimp only); (repeat' split) <;> first | with_reducible rfl | simp

@[simp] theorem takeCurtail_line (s : State) (c : Image) (q : Nat) :
    (s.takeCurtail c q).line = s.line := by
  unfold State.takeCurtail; (try dsimp only); (repeat' split) <;> first | with_reducible rfl | simp

@[simp] theorem strand_line (s : State) (n : Nat) :
    (s.strand n).line = s.line := by
  unfold State.strand; (try dsimp only); (repeat' split) <;> first | with_reducible rfl | simp

@[simp] theorem reclaimShares_line (s : State) (stations : List Nat) :
    (s.reclaimShares stations).line = s.line := by
  unfold State.reclaimShares; (try dsimp only); (repeat' split) <;> first | with_reducible rfl | simp

@[simp] theorem rejoinShares_line (s : State) (n : Nat) :
    (s.rejoinShares n).line = s.line := by
  unfold State.rejoinShares; (try dsimp only); (repeat' split) <;> first | with_reducible rfl | simp

@[simp] theorem yieldIfNamed_line (s : State) (c : Image) :
    (s.yieldIfNamed c).line = s.line := by
  unfold State.yieldIfNamed; (try dsimp only); (repeat' split) <;> first | with_reducible rfl | simp

@[simp] theorem curtailRelease_line (s : State) (c : Image) (q : Nat) :
    (s.curtailRelease c q).line = s.line := by
  unfold State.curtailRelease; (try dsimp only); (repeat' split) <;> first | with_reducible rfl | simp

@[simp] theorem releaseArrivals_line (s : State) (c : Image) :
    (s.releaseArrivals c).line = s.line := by
  unfold State.releaseArrivals; (try dsimp only); (repeat' split) <;> first | with_reducible rfl | simp

@[simp] theorem rejoinOutgoing_line (s : State) (c : Image) :
    (s.rejoinOutgoing c).line = s.line := by
  unfold State.rejoinOutgoing; (try dsimp only); (repeat' split) <;> first | with_reducible rfl | simp

@[simp] theorem parkingRelease_line (s : State) (c : Image) :
    (s.parkingRelease c).line = s.line := by
  unfold State.parkingRelease; (try dsimp only); (repeat' split) <;> first | with_reducible rfl | simp

@[simp] theorem drawFree_line (s : State)  :
    (s.drawFree).line = s.line := by
  rfl

@[simp] theorem yieldAndPark_line (s before : State) (c : Image) :
    (s.yieldAndPark before c).line = s.line := by
  unfold State.yieldAndPark; (try dsimp only); (repeat' split) <;> first | with_reducible rfl | simp

@[simp] theorem completeRelease_line (s : State) (c : Image) :
    (s.completeRelease c).line = s.line := by
  unfold State.completeRelease; (try dsimp only); (repeat' split) <;> first | with_reducible rfl | simp

@[simp] theorem afterFrame_line (s before : State) (c : Image) :
    (s.afterFrame before c).line = s.line := by
  unfold State.afterFrame; (try dsimp only); (repeat' split) <;> first | with_reducible rfl | simp

@[simp] theorem holdSample_line (s : State) (chamber tank : Channel) :
    (s.holdSample chamber tank).line = s.line := by
  unfold State.holdSample; (try dsimp only); (repeat' split) <;> first | with_reducible rfl | simp

@[simp] theorem evaluateTideLock_line (s : State) (c : Image) :
    (s.evaluateTideLock c).line = s.line := by
  unfold State.evaluateTideLock; (try dsimp only); (repeat' split) <;> first | with_reducible rfl | simp

@[simp] theorem recomputeUrgency_line (s : State) (c : Image) :
    (s.recomputeUrgency c).line = s.line := by
  unfold State.recomputeUrgency; (try dsimp only); (repeat' split) <;> first | with_reducible rfl | simp

@[simp] theorem inletSample_line (s : State) (c : Image) (chamber : Channel) :
    (s.inletSample c chamber).line = s.line := by
  unfold State.inletSample; (try dsimp only); (repeat' split) <;> first | with_reducible rfl | simp

@[simp] theorem setDrain_line (s : State) (d : Drain) :
    (s.setDrain d).line = s.line := by
  unfold State.setDrain; (try dsimp only); (repeat' split) <;> first | with_reducible rfl | simp

@[simp] theorem stopDrain_line (s : State)  :
    (s.stopDrain).line = s.line := by
  unfold State.stopDrain; (try dsimp only); (repeat' split) <;> first | with_reducible rfl | simp

@[simp] theorem askClaim_line (s : State) (c : Image) :
    (s.askClaim c).line = s.line := by
  unfold State.askClaim; (try dsimp only); (repeat' split) <;> first | with_reducible rfl | simp

@[simp] theorem testClaim_line (s : State) (c : Image) :
    (s.testClaim c).line = s.line := by
  unfold State.testClaim; (try dsimp only); (repeat' split) <;> first | with_reducible rfl | simp

@[simp] theorem withdrawIfOut_line (s : State) (c : Image) :
    (s.withdrawIfOut c).line = s.line := by
  unfold State.withdrawIfOut; (try dsimp only); (repeat' split) <;> first | with_reducible rfl | simp

@[simp] theorem failedTank_line (s : State) (c : Image) :
    (s.failedTank c).line = s.line := by
  unfold State.failedTank; (try dsimp only); (repeat' split) <;> first | with_reducible rfl | simp

@[simp] theorem park_line (s : State) (c : Image) :
    (s.park c).line = s.line := by
  unfold State.park; (try dsimp only); (repeat' split) <;> first | with_reducible rfl | simp

@[simp] theorem drainSample_line (s : State) (c : Image) :
    (s.drainSample c).line = s.line := by
  unfold State.drainSample; (try dsimp only); (repeat' split) <;> first | with_reducible rfl | simp

@[simp] theorem judgeParked_line (s : State) (c : Image) :
    (s.judgeParked c).line = s.line := by
  unfold State.judgeParked; (try dsimp only); (repeat' split) <;> first | with_reducible rfl | simp

@[simp] theorem drainReport_line (s : State) (c : Image) :
    (s.drainReport c).line = s.line := by
  unfold State.drainReport; (try dsimp only); (repeat' split) <;> first | with_reducible rfl | simp

@[simp] theorem drainStep_line (s before : State) (c : Image) :
    (s.drainStep before c).line = s.line := by
  unfold State.drainStep; (try dsimp only); (repeat' split) <;> first | with_reducible rfl | simp

@[simp] theorem setValve_line (s : State) (c : Image) :
    (s.setValve c).line = s.line := by
  unfold State.setValve; (try dsimp only); (repeat' split) <;> first | with_reducible rfl | simp

@[simp] theorem markWake_line (s : State)  :
    (s.markWake).line = s.line := by
  unfold State.markWake; (try dsimp only); (repeat' split) <;> first | with_reducible rfl | simp

@[simp] theorem restDrain_line (s : State) (c : Image) :
    (s.restDrain c).line = s.line := by
  unfold State.restDrain; (try dsimp only); (repeat' split) <;> first | with_reducible rfl | simp

@[simp] theorem enterDormant_line (s : State) (c : Image) :
    (s.enterDormant c).line = s.line := by
  unfold State.enterDormant; (try dsimp only); (repeat' split) <;> first | with_reducible rfl | simp

@[simp] theorem enterWaking_line (s : State) (c : Image) :
    (s.enterWaking c).line = s.line := by
  unfold State.enterWaking; (try dsimp only); (repeat' split) <;> first | with_reducible rfl | simp

@[simp] theorem wakeTrigger_line (s : State) (c : Image) :
    (s.wakeTrigger c).line = s.line := by
  unfold State.wakeTrigger; (try dsimp only); (repeat' split) <;> first | with_reducible rfl | simp

@[simp] theorem watchDormancy_line (s : State) (c : Image) :
    (s.watchDormancy c).line = s.line := by
  unfold State.watchDormancy; (try dsimp only); (repeat' split) <;> first | with_reducible rfl | simp

@[simp] theorem resetActivity_line (s : State)  :
    (s.resetActivity).line = s.line := by
  unfold State.resetActivity; (try dsimp only); (repeat' split) <;> first | with_reducible rfl | simp

@[simp] theorem writeAlert_line (s : State) (c : Image) :
    (s.writeAlert c).line = s.line := by
  unfold State.writeAlert; (try dsimp only); (repeat' split) <;> first | with_reducible rfl | simp

@[simp] theorem evaluateLocal_line (s : State) (c : Image) :
    (s.evaluateLocal c).line = s.line := by
  unfold State.evaluateLocal; (try dsimp only); (repeat' split) <;> first | with_reducible rfl | simp

@[simp] theorem rewriteAlert_line (s : State) (c : Image) :
    (s.rewriteAlert c).line = s.line := by
  unfold State.rewriteAlert; (try dsimp only); (repeat' split) <;> first | with_reducible rfl | simp

@[simp] theorem completeBucket_line (s : State)  :
    (s.completeBucket).line = s.line := by
  unfold State.completeBucket; (try dsimp only); (repeat' split) <;> first | with_reducible rfl | simp

@[simp] theorem mapZone_line (s : State) (zone : Nat) (f : ZoneEntry → ZoneEntry) :
    (s.mapZone zone f).line = s.line := by
  unfold State.mapZone; (try dsimp only); (repeat' split) <;> first | with_reducible rfl | simp

@[simp] theorem validateAlerts_line (s : State)  :
    (s.validateAlerts).line = s.line := by
  unfold State.validateAlerts; (try dsimp only); (repeat' split) <;> first | with_reducible rfl | simp

@[simp] theorem voidAlerts_line (s : State)  :
    (s.voidAlerts).line = s.line := by
  unfold State.voidAlerts; (try dsimp only); (repeat' split) <;> first | with_reducible rfl | simp

@[simp] theorem ageAlerts_line (s : State)  :
    (s.ageAlerts).line = s.line := by
  unfold State.ageAlerts; (try dsimp only); (repeat' split) <;> first | with_reducible rfl | simp

@[simp] theorem ageWindow_line (s : State)  :
    (s.ageWindow).line = s.line := by
  unfold State.ageWindow; (try dsimp only); (repeat' split) <;> first | with_reducible rfl | simp

@[simp] theorem readinessEvent_line (s : State) (c : Image) (g : Grade) (source : Option Nat) :
    (s.readinessEvent c g source).line = s.line := by
  unfold State.readinessEvent; (try dsimp only); (repeat' split) <;> first | with_reducible rfl | simp

@[simp] theorem alertEvent_line (s : State) (c : Image) :
    (s.alertEvent c).line = s.line := by
  unfold State.alertEvent; (try dsimp only); (repeat' split) <;> first | with_reducible rfl | simp

@[simp] theorem controlCalm_line (s : State) (c : Image) :
    (s.controlCalm c).line = s.line := by
  unfold State.controlCalm; (try dsimp only); (repeat' split) <;> first | with_reducible rfl | simp

@[simp] theorem emptySlot_line (s : State) (c : Image) (id : SlotId) :
    (s.emptySlot c id).line = s.line := by
  unfold State.emptySlot; (try dsimp only); (repeat' split) <;> first | with_reducible rfl | simp

@[simp] theorem emptySlots_line (s : State) (c : Image) (ids : List SlotId) :
    (s.emptySlots c ids).line = s.line := by
  exact foldl_keeps (fun x => x.line) _ (fun t id => emptySlot_line t c id) ids s

@[simp] theorem rewriteNotices_line (s old : State)  :
    (s.rewriteNotices old).line = s.line := by
  refine foldl_keeps (fun x => x.line) _ (fun t id => ?_) noticeSlots s
  try dsimp only
  split <;> simp

@[simp] theorem emptyQueue_line (s : State)  :
    (s.emptyQueue).line = s.line := by
  unfold State.emptyQueue; (try dsimp only); (repeat' split) <;> first | with_reducible rfl | simp

@[simp] theorem setMembership_line (s : State) (m : Membership) :
    (s.setMembership m).line = s.line := by
  unfold State.setMembership; (try dsimp only); (repeat' split) <;> first | with_reducible rfl | simp

@[simp] theorem enterListening_line (s : State) (c : Image) (hold : Bool) :
    (s.enterListening c hold).line = s.line := by
  unfold State.enterListening; (try dsimp only); (repeat' split) <;> first | with_reducible rfl | simp

@[simp] theorem discardLoad_line (s : State)  :
    (s.discardLoad).line = s.line := by
  unfold State.discardLoad; (try dsimp only); (repeat' split) <;> first | with_reducible rfl | simp

@[simp] theorem spoilJoin_line (s : State) (c : Image) :
    (s.spoilJoin c).line = s.line := by
  unfold State.spoilJoin; (try dsimp only); (repeat' split) <;> first | with_reducible rfl | simp

@[simp] theorem enterLinked_line (s : State) (c : Image) :
    (s.enterLinked c).line = s.line := by
  unfold State.enterLinked; (try dsimp only); (repeat' split) <;> first | with_reducible rfl | simp

@[simp] theorem found_line (s : State) (c : Image) :
    (s.found c).line = s.line := by
  unfold State.found; (try dsimp only); (repeat' split) <;> first | with_reducible rfl | simp

@[simp] theorem linkLoaded_line (s : State) (c : Image) :
    (s.linkLoaded c).line = s.line := by
  unfold State.linkLoaded; (try dsimp only); (repeat' split) <;> first | with_reducible rfl | simp

@[simp] theorem endLock_line (s : State) (c : Image) :
    (s.endLock c).line = s.line := by
  unfold State.endLock; (try dsimp only); (repeat' split) <;> first | with_reducible rfl | simp

@[simp] theorem spoil_line (s : State) (c : Image) :
    (s.spoil c).line = s.line := by
  unfold State.spoil; (try dsimp only); (repeat' split) <;> first | with_reducible rfl | simp

@[simp] theorem watchSilence_line (s : State) (c : Image) :
    (s.watchSilence c).line = s.line := by
  unfold State.watchSilence; (try dsimp only); (repeat' split) <;> first | with_reducible rfl | simp

@[simp] theorem writeJoinIfDue_line (s : State) (c : Image) :
    (s.writeJoinIfDue c).line = s.line := by
  unfold State.writeJoinIfDue; (try dsimp only); (repeat' split) <;> first | with_reducible rfl | simp

@[simp] theorem startFlight_line (s : State) (c : Image) (id : SlotId) :
    (s.startFlight c id).line = s.line := by
  unfold State.startFlight; (try dsimp only); (repeat' split) <;> first | with_reducible rfl | simp

@[simp] theorem offerIfStillIdle_line (s : State) (c : Image) (id : SlotId) :
    (s.offerIfStillIdle c id).line = s.line := by
  unfold State.offerIfStillIdle; (try dsimp only); (repeat' split) <;> first | with_reducible rfl | simp

@[simp] theorem offer_line (s : State) (c : Image) (fresh : Bool) :
    (s.offer c fresh).line = s.line := by
  unfold State.offer; (try dsimp only); (repeat' split) <;> first | with_reducible rfl | simp

@[simp] theorem statusOnChange_line (s before : State)  :
    (s.statusOnChange before).line = s.line := by
  unfold State.statusOnChange; (try dsimp only); (repeat' split) <;> first | with_reducible rfl | simp

@[simp] theorem endField_line (s : State) (marks : Marks) :
    (s.endField marks).line = s.line := by
  unfold State.endField; (try dsimp only); (repeat' split) <;> first | with_reducible rfl | simp

@[simp] theorem reportEmptied_line (s : State) (id : SlotId) :
    (s.reportEmptied id).line = s.line := by
  unfold State.reportEmptied; (try dsimp only); (repeat' split) <;> first | with_reducible rfl | simp

@[simp] theorem failFlight_line (s : State)  :
    (s.failFlight).line = s.line := by
  unfold State.failFlight; (try dsimp only); (repeat' split) <;> first | with_reducible rfl | simp

@[simp] theorem hearEntry_line (s : State) (c : Image) (n : Nat) :
    (s.hearEntry c n).line = s.line := by
  unfold State.hearEntry; (try dsimp only); (repeat' split) <;> first | with_reducible rfl | simp

@[simp] theorem hearSilence_line (s : State) (c : Image) (a : Arrival) :
    (s.hearSilence c a).line = s.line := by
  unfold State.hearSilence; (try dsimp only); (repeat' split) <;> first | with_reducible rfl | simp

@[simp] theorem hearPopulated_line (s : State) (f : Frame) :
    (s.hearPopulated f).line = s.line := by
  unfold State.hearPopulated; (try dsimp only); (repeat' split) <;> first | with_reducible rfl | simp

@[simp] theorem hear_line (s : State) (c : Image) (a : Arrival) (f : Frame) :
    (s.hear c a f).line = s.line := by
  unfold State.hear; (try dsimp only); (repeat' split) <;> first | with_reducible rfl | simp

@[simp] theorem restartPresence_line (s : State) (c : Image) (a : Arrival) :
    (s.restartPresence c a).line = s.line := by
  unfold State.restartPresence; (try dsimp only); (repeat' split) <;> first | with_reducible rfl | simp

@[simp] theorem ownerDone_line (s : State) (c : Image) (a : Arrival) (f : Frame) :
    (s.ownerDone c a f).line = s.line := by
  unfold State.ownerDone; (try dsimp only); (repeat' split) <;> first | with_reducible rfl | simp

@[simp] theorem cutAtPulse_line (s : State)  :
    (s.cutAtPulse).line = s.line := by
  unfold State.cutAtPulse; (try dsimp only); (repeat' split) <;> first | with_reducible rfl | simp

@[simp] theorem request_line (s : State) (seconds : Nat) :
    (s.request seconds).line = s.line := by
  unfold State.request; (try dsimp only); (repeat' split) <;> first | with_reducible rfl | simp

@[simp] theorem goodLoad_line (s : State) (c : Image) :
    (s.goodLoad c).line = s.line := by
  unfold State.goodLoad; (try dsimp only); (repeat' split) <;> first | with_reducible rfl | simp

@[simp] theorem badLoad_line (s : State)  :
    (s.badLoad).line = s.line := by
  unfold State.badLoad; (try dsimp only); (repeat' split) <;> first | with_reducible rfl | simp

@[simp] theorem failedAttempt_line (s : State)  :
    (s.failedAttempt).line = s.line := by
  unfold State.failedAttempt; (try dsimp only); (repeat' split) <;> first | with_reducible rfl | simp

@[simp] theorem readAttempt_line (s : State) (read : ReadAttempt) :
    (s.readAttempt read).line = s.line := by
  unfold State.readAttempt; (try dsimp only); (repeat' split) <;> first | with_reducible rfl | simp

@[simp] theorem localEvent_line (s : State) (c : Image) :
    (s.localEvent c).line = s.line := by
  unfold State.localEvent; (try dsimp only); (repeat' split) <;> first | with_reducible rfl | simp

@[simp] theorem countPulse_line (s : State) (c : Image) (time : Nat) :
    (s.countPulse c time).line = s.line := by
  unfold State.countPulse; (try dsimp only); (repeat' split) <;> first | with_reducible rfl | simp

@[simp] theorem timeTide_line (s : State) (level : Tide) :
    (s.timeTide level).line = s.line := by
  unfold State.timeTide; (try dsimp only); (repeat' split) <;> first | with_reducible rfl | simp

@[simp] theorem keepValues_line (s : State) (c : Image) (chamber tank : Channel) :
    (s.keepValues c chamber tank).line = s.line := by
  unfold State.keepValues; (try dsimp only); (repeat' split) <;> first | with_reducible rfl | simp

@[simp] theorem keepSample_line (s : State) (c : Image) (chamber tank : Channel) :
    (s.keepSample c chamber tank).line = s.line := by
  unfold State.keepSample; (try dsimp only); (repeat' split) <;> first | with_reducible rfl | simp

@[simp] theorem makeSample_line (s : State) (c : Image) (chamber tank : Channel) :
    (s.makeSample c chamber tank).line = s.line := by
  unfold State.makeSample; (try dsimp only); (repeat' split) <;> first | with_reducible rfl | simp

@[simp] theorem emptySample_line (s : State) (c : Image) :
    (s.emptySample c).line = s.line := by
  unfold State.emptySample; (try dsimp only); (repeat' split) <;> first | with_reducible rfl | simp

@[simp] theorem lineBusy_line (s : State)  :
    (s.lineBusy).line = s.line := by
  unfold State.lineBusy; (try dsimp only); (repeat' split) <;> first | with_reducible rfl | simp

@[simp] theorem busyOwn_line (s : State)  :
    (s.busyOwn).line = s.line := by
  unfold State.busyOwn; (try dsimp only); (repeat' split) <;> first | with_reducible rfl | simp

@[simp] theorem hearBurst_line (s : State) (c : Image) (segment : Nat) (f : Frame) :
    (s.hearBurst c segment f).line = s.line := by
  unfold State.hearBurst; (try dsimp only); (repeat' split) <;> first | with_reducible rfl | simp

@[simp] theorem enterLoading_line (s : State) (payload : List Byte) :
    (s.enterLoading payload).line = s.line := by
  unfold State.enterLoading; (try dsimp only); (repeat' split) <;> first | with_reducible rfl | simp

@[simp] theorem loadClaims_line (s : State) (claims : List Claim) :
    (s.loadClaims claims).line = s.line := by
  unfold State.loadClaims; (try dsimp only); (repeat' split) <;> first | with_reducible rfl | simp

@[simp] theorem loadSegment_line (s : State) (c : Image) (segment : Nat) (payload : List Byte) :
    (s.loadSegment c segment payload).line = s.line := by
  unfold State.loadSegment; (try dsimp only); (repeat' split) <;> first | with_reducible rfl | simp

@[simp] theorem takeSegment_line (s : State) (c : Image) (segment : Nat) (f : Frame) :
    (s.takeSegment c segment f).line = s.line := by
  unfold State.takeSegment; (try dsimp only); (repeat' split) <;> first | with_reducible rfl | simp

@[simp] theorem finalSegment_line (s : State) (c : Image) (l : Lock) :
    (s.finalSegment c l).line = s.line := by
  unfold State.finalSegment; (try dsimp only); (repeat' split) <;> first | with_reducible rfl | simp

@[simp] theorem nextBurst_line (s : State) (c : Image) (a : Arrival) (segment : Nat) (l : Lock) :
    (s.nextBurst c a segment l).line = s.line := by
  unfold State.nextBurst; (try dsimp only); (repeat' split) <;> first | with_reducible rfl | simp

@[simp] theorem burstAtLinked_line (s : State) (c : Image) (a : Arrival) (segment : Nat) (f : Frame) :
    (s.burstAtLinked c a segment f).line = s.line := by
  unfold State.burstAtLinked; (try dsimp only); (repeat' split) <;> first | with_reducible rfl | simp

@[simp] theorem declareAbsent_line (s : State) (c : Image) (n : Nat) :
    (s.declareAbsent c n).line = s.line := by
  unfold State.declareAbsent; (try dsimp only); (repeat' split) <;> first | with_reducible rfl | simp

@[simp] theorem takeReclaim_line (s : State) (named : List Nat) :
    (s.takeReclaim named).line = s.line := by
  unfold State.takeReclaim
  have h := foldl_keeps (fun x => x.line) (fun t n => t.clearEntry n) (fun t n => by simp) (named.filter fun n => decide (s.entryState n = .absent)) (s.reclaimShares (named.filter fun n => decide (s.entryState n = .absent)))
  dsimp only at h ⊢
  simp [h]

@[simp] theorem takeCurtailFrame_line (s : State) (c : Image) (q : Nat) :
    (s.takeCurtailFrame c q).line = s.line := by
  unfold State.takeCurtailFrame; (try dsimp only); (repeat' split) <;> first | with_reducible rfl | simp

@[simp] theorem settleOutgoing_line (s : State) (a : Arrival) (set : List Nat) :
    (s.settleOutgoing a set).line = s.line := by
  unfold State.settleOutgoing; (try dsimp only); (repeat' split) <;> first | with_reducible rfl | simp

@[simp] theorem lateWithdraw_line (s : State) (c : Image) (a : Arrival) :
    (s.lateWithdraw c a).line = s.line := by
  unfold State.lateWithdraw; (try dsimp only); (repeat' split) <;> first | with_reducible rfl | simp

@[simp] theorem ownAlert_line (s : State) (c : Image) (g : Grade) :
    (s.ownAlert c g).line = s.line := by
  unfold State.ownAlert; (try dsimp only); (repeat' split) <;> first | with_reducible rfl | simp

@[simp] theorem heedAlert_line (s : State) (c : Image) (g : Grade) :
    (s.heedAlert c g).line = s.line := by
  unfold State.heedAlert; (try dsimp only); (repeat' split) <;> first | with_reducible rfl | simp

@[simp] theorem takeAlert_line (s : State) (c : Image) (a : Arrival) (origin zone : Nat) (g : Grade) :
    (s.takeAlert c a origin zone g).line = s.line := by
  unfold State.takeAlert; (try dsimp only); (repeat' split) <;> first | with_reducible rfl | simp

@[simp] theorem recordJoin_line (s : State) (n : Nat) :
    (s.recordJoin n).line = s.line := by
  unfold State.recordJoin; (try dsimp only); (repeat' split) <;> first | with_reducible rfl | simp

@[simp] theorem enterJoining_line (s : State) (c : Image) :
    (s.enterJoining c).line = s.line := by
  unfold State.enterJoining; (try dsimp only); (repeat' split) <;> first | with_reducible rfl | simp

@[simp] theorem hearJoin_line (s : State) (n : Nat) :
    (s.hearJoin n).line = s.line := by
  unfold State.hearJoin; (try dsimp only); (repeat' split) <;> first | with_reducible rfl | simp

@[simp] theorem startBurst_line (s : State) (c : Image) (l : Lock) :
    (s.startBurst c l).line = s.line := by
  unfold State.startBurst; (try dsimp only); (repeat' split) <;> first | with_reducible rfl | simp

@[simp] theorem markJoiner_line (s : State) (c : Image) (n : Nat) :
    (s.markJoiner c n).line = s.line := by
  unfold State.markJoiner; (try dsimp only); (repeat' split) <;> first | with_reducible rfl | simp

@[simp] theorem beginLock_line (s : State) (c : Image) (n pool : Nat) :
    (s.beginLock c n pool).line = s.line := by
  unfold State.beginLock; (try dsimp only); (repeat' split) <;> first | with_reducible rfl | simp

@[simp] theorem joinAtLinked_line (s : State) (c : Image) (n pool : Nat) :
    (s.joinAtLinked c n pool).line = s.line := by
  unfold State.joinAtLinked; (try dsimp only); (repeat' split) <;> first | with_reducible rfl | simp

@[simp] theorem takeStatus_line (s : State) (n urgency : Nat) :
    (s.takeStatus n urgency).line = s.line := by
  unfold State.takeStatus; (try dsimp only); (repeat' split) <;> first | with_reducible rfl | simp

@[simp] theorem reassert_line (s : State) (a : Arrival) :
    (s.reassert a).line = s.line := by
  unfold State.reassert; (try dsimp only); (repeat' split) <;> first | with_reducible rfl | simp

@[simp] theorem markDormant_line (s : State) (c : Image) (n : Nat) :
    (s.markDormant c n).line = s.line := by
  unfold State.markDormant; (try dsimp only); (repeat' split) <;> first | with_reducible rfl | simp

@[simp] theorem ownDormant_line (s : State) (c : Image) (a : Arrival) :
    (s.ownDormant c a).line = s.line := by
  unfold State.ownDormant; (try dsimp only); (repeat' split) <;> first | with_reducible rfl | simp

@[simp] theorem takeQuery_line (s : State) (c : Image) (f : Frame) :
    (s.takeQuery c f).line = s.line := by
  unfold State.takeQuery; (try dsimp only); (repeat' split) <;> first | with_reducible rfl | simp

@[simp] theorem turnAway_line (s : State)  :
    (s.turnAway).line = s.line := by
  unfold State.turnAway; (try dsimp only); (repeat' split) <;> first | with_reducible rfl | simp

@[simp] theorem clearFlags_line (s : State) (mask : FlagSet) :
    (s.clearFlags mask).line = s.line := by
  unfold State.clearFlags; (try dsimp only); (repeat' split) <;> first | with_reducible rfl | simp

@[simp] theorem takeClear_line (s : State) (c : Image) (mask : FlagSet) :
    (s.takeClear c mask).line = s.line := by
  unfold State.takeClear; (try dsimp only); (repeat' split) <;> first | with_reducible rfl | simp

@[simp] theorem deliverNews_line (s : State) (carried : FlagSet) :
    (s.deliverNews carried).line = s.line := rfl

@[simp] theorem deliverNotice_line (s : State) (f : Frame) :
    (s.deliverNotice f).line = s.line := by
  unfold State.deliverNotice; (try dsimp only); (repeat' split) <;> first | with_reducible rfl | simp

@[simp] theorem requeueJoin_line (s : State) (c : Image) :
    (s.requeueJoin c).line = s.line := by
  unfold State.requeueJoin; (try dsimp only); (repeat' split) <;> first | with_reducible rfl | simp

@[simp] theorem recover_line (s : State) (c : Image) :
    (s.recover c).line = s.line := by
  unfold State.recover; (try dsimp only); (repeat' split) <;> first | with_reducible rfl | simp

end Sys2Proof.Machine
end

