-- ==== Sys2Proof/Laws/KeepsMember.lean ====
section
/-! SUPPORT. The operations that leave the MU's state, roster, lock and join record as they were: one line each. -/

namespace Sys2Proof.Machine

open Sys2Proof

set_option linter.unusedTactic false
set_option linter.unnecessarySeqFocus false
set_option linter.unreachableTactic false

@[simp] theorem mapCl_member (s : State) (f : ClState → ClState) :
    (s.mapCl f).member = s.member := rfl

@[simp] theorem mapLc_member (s : State) (f : LcState → LcState) :
    (s.mapLc f).member = s.member := rfl

@[simp] theorem mapMu_member (s : State) (f : MuState → MuState)
    (h0 : ∀ x, (f x).membership = x.membership) (h1 : ∀ x, (f x).roster = x.roster) (h2 : ∀ x, (f x).lock = x.lock) (h3 : ∀ x, (f x).failures = x.failures) (h4 : ∀ x, (f x).joinRecord = x.joinRecord) (h5 : ∀ x, (f x).populated = x.populated) (h6 : ∀ x, (f x).newlyPopulated = x.newlyPopulated) (h7 : ∀ x, (f x).nextSegment = x.nextSegment) :
    (s.mapMu f).member = s.member := by
  simp [State.member, h0, h1, h2, h3, h4, h5, h6, h7]

@[simp] theorem mapSa_member (s : State) (f : SaState → SaState) :
    (s.mapSa f).member = s.member := rfl

@[simp] theorem mapTs_member (s : State) (f : TsState → TsState) :
    (s.mapTs f).member = s.member := rfl

@[simp] theorem mapRu_member (s : State) (f : RuState → RuState) :
    (s.mapRu f).member = s.member := rfl

@[simp] theorem mapSrm_member (s : State) (f : SrmState → SrmState) :
    (s.mapSrm f).member = s.member := rfl

@[simp] theorem mapSc_member (s : State) (f : ScState → ScState) :
    (s.mapSc f).member = s.member := rfl

@[simp] theorem mapRs_member (s : State) (f : RsState → RsState) :
    (s.mapRs f).member = s.member := rfl

@[simp] theorem mapAc_member (s : State) (f : AcState → AcState) :
    (s.mapAc f).member = s.member := rfl

@[simp] theorem settle_member (c : Image) (b s : State) : (settle c b s).member = s.member := by
  simp [State.member]

@[simp] theorem setSlot_member (s : State) (id : SlotId) (x : Slot) :
    (s.setSlot id x).member = s.member := by
  unfold State.setSlot; (try dsimp only); (repeat' split) <;> first | with_reducible rfl | simp

@[simp] theorem writeSlot_member (s : State) (id : SlotId) (c : Content) :
    (s.writeSlot id c).member = s.member := by
  unfold State.writeSlot; (try dsimp only); (repeat' split) <;> first | with_reducible rfl | simp

@[simp] theorem cancelSlot_member (s : State) (id : SlotId) :
    (s.cancelSlot id).member = s.member := by
  unfold State.cancelSlot; (try dsimp only); (repeat' split) <;> first | with_reducible rfl | simp

@[simp] theorem pruneSlot_member (s : State) (id : SlotId) (stations : List Nat) :
    (s.pruneSlot id stations).member = s.member := by
  unfold State.pruneSlot; (try dsimp only); (repeat' split) <;> first | with_reducible rfl | simp

@[simp] theorem reorderClaims_member (s : State)  :
    (s.reorderClaims).member = s.member := by
  unfold State.reorderClaims; (try dsimp only); (repeat' split) <;> first | with_reducible rfl | simp

@[simp] theorem writeNotice_member (s : State) (c : Image) (id : SlotId) (content : Content) :
    (s.writeNotice c id content).member = s.member := by
  unfold State.writeNotice; (try dsimp only); (repeat' split) <;> first | with_reducible rfl | simp

@[simp] theorem joinNews_member (s : State) (f : Flag) :
    (s.joinNews f).member = s.member := rfl

@[simp] theorem latch_member (s : State) (c : Image) (f : Flag) :
    (s.latch c f).member = s.member := by
  unfold State.latch; (try dsimp only); (repeat' split) <;> first | with_reducible rfl | simp

@[simp] theorem latchIfStanding_member (s : State) (c : Image) (f : Flag) :
    (s.latchIfStanding c f).member = s.member := by
  unfold State.latchIfStanding; (try dsimp only); (repeat' split) <;> first | with_reducible rfl | simp

@[simp] theorem latchStanding_member (s : State) (c : Image) :
    (s.latchStanding c).member = s.member := by
  unfold State.latchStanding; (try dsimp only); (repeat' split) <;> first | with_reducible rfl | simp

@[simp] theorem writeStatus_member (s : State)  :
    (s.writeStatus).member = s.member := by
  unfold State.writeStatus; (try dsimp only); (repeat' split) <;> first | with_reducible rfl | simp

@[simp] theorem statusForChange_member (s : State)  :
    (s.statusForChange).member = s.member := by
  unfold State.statusForChange; (try dsimp only); (repeat' split) <;> first | with_reducible rfl | simp

@[simp] theorem writeRecord_member (s : State) (c : Image) (r : SpillRecord) :
    (s.writeRecord c r).member = s.member := by
  unfold State.writeRecord; (try dsimp only); (repeat' split) <;> first | with_reducible rfl | simp

@[simp] theorem takeRecord_member (s : State) (c : Image) (r : SpillRecord) :
    (s.takeRecord c r).member = s.member := by
  unfold State.takeRecord; (try dsimp only); (repeat' split) <;> first | with_reducible rfl | simp

@[simp] theorem acknowledge_member (s : State) (c : Image) (sequence : Half) :
    (s.acknowledge c sequence).member = s.member := by
  unfold State.acknowledge; (try dsimp only); (repeat' split) <;> first | with_reducible rfl | simp

@[simp] theorem writeReplies_member (s : State) (n : Nat) (ids : List SlotId) (rs : List Reply) :
    (s.writeReplies n ids rs).member = s.member := by
  induction ids generalizing s rs with
  | nil => cases rs <;> rfl
  | cons id ids ih =>
    cases rs with
    | nil => rfl
    | cons r rs => simp only [State.writeReplies, ih, writeSlot_member]

@[simp] theorem serviceMove_member (s : State) (c : Image) :
    (s.serviceMove c).member = s.member := by
  unfold State.serviceMove; (try dsimp only); (repeat' split) <;> first | with_reducible rfl | simp

@[simp] theorem serviceMoves_member (s : State) (c : Image) (n : Nat) :
    (s.serviceMoves c n).member = s.member := by
  induction n generalizing s with
  | zero => rfl
  | succ n ih => simp only [State.serviceMoves, ih, serviceMove_member]

@[simp] theorem runService_member (s : State) (c : Image) :
    (s.runService c).member = s.member := by
  unfold State.runService; (try dsimp only); (repeat' split) <;> first | with_reducible rfl | simp

@[simp] theorem mapRecord_member (s : State) (f : SpillRecord → SpillRecord) :
    (s.mapRecord f).member = s.member := by
  unfold State.mapRecord; (try dsimp only); (repeat' split) <;> first | with_reducible rfl | simp

@[simp] theorem openEpisode_member (s : State) (c : Image) :
    (s.openEpisode c).member = s.member := by
  unfold State.openEpisode; (try dsimp only); (repeat' split) <;> first | with_reducible rfl | simp

@[simp] theorem closeEpisode_member (s : State) (c : Image) :
    (s.closeEpisode c).member = s.member := by
  unfold State.closeEpisode; (try dsimp only); (repeat' split) <;> first | with_reducible rfl | simp

@[simp] theorem onsetSample_member (s : State) (c : Image) (level : Nat) (suspect : Bool) :
    (s.onsetSample c level suspect).member = s.member := by
  unfold State.onsetSample; (try dsimp only); (repeat' split) <;> first | with_reducible rfl | simp

@[simp] theorem accrueSample_member (s : State) (c : Image) (level : Nat) (suspect : Bool) :
    (s.accrueSample c level suspect).member = s.member := by
  unfold State.accrueSample; (try dsimp only); (repeat' split) <;> first | with_reducible rfl | simp

@[simp] theorem enterMergeWait_member (s : State) (c : Image) :
    (s.enterMergeWait c).member = s.member := by
  unfold State.enterMergeWait; (try dsimp only); (repeat' split) <;> first | with_reducible rfl | simp

@[simp] theorem settleSample_member (s : State) (c : Image) :
    (s.settleSample c).member = s.member := by
  unfold State.settleSample; (try dsimp only); (repeat' split) <;> first | with_reducible rfl | simp

@[simp] theorem spillingSample_member (s : State) (c : Image) (level : Nat) (suspect : Bool) :
    (s.spillingSample c level suspect).member = s.member := by
  unfold State.spillingSample; (try dsimp only); (repeat' split) <;> first | with_reducible rfl | simp

@[simp] theorem nonSpillingSample_member (s : State) (c : Image) (level : Nat) (suspect tideLocked : Bool) :
    (s.nonSpillingSample c level suspect tideLocked).member = s.member := by
  unfold State.nonSpillingSample; (try dsimp only); (repeat' split) <;> first | with_reducible rfl | simp

@[simp] theorem unknownSample_member (s : State)  :
    (s.unknownSample).member = s.member := by
  unfold State.unknownSample; (try dsimp only); (repeat' split) <;> first | with_reducible rfl | simp

@[simp] theorem spillSample_member (s : State) (c : Image) (chamber : Channel) :
    (s.spillSample c chamber).member = s.member := by
  unfold State.spillSample; (try dsimp only); (repeat' split) <;> first | with_reducible rfl | simp

@[simp] theorem stormFlag_member (s : State)  :
    (s.stormFlag).member = s.member := by
  unfold State.stormFlag; (try dsimp only); (repeat' split) <;> first | with_reducible rfl | simp

@[simp] theorem cutEpisode_member (s : State) (c : Image) :
    (s.cutEpisode c).member = s.member := by
  unfold State.cutEpisode; (try dsimp only); (repeat' split) <;> first | with_reducible rfl | simp

@[simp] theorem newPeriod_member (s : State)  :
    (s.newPeriod).member = s.member := by
  unfold State.newPeriod; (try dsimp only); (repeat' split) <;> first | with_reducible rfl | simp

@[simp] theorem releaseShares_member (s : State) (set : List Nat) :
    (s.releaseShares set).member = s.member := by
  unfold State.releaseShares; (try dsimp only); (repeat' split) <;> first | with_reducible rfl | simp

@[simp] theorem releaseAll_member (s : State) (c : Image) :
    (s.releaseAll c).member = s.member := by
  unfold State.releaseAll; (try dsimp only); (repeat' split) <;> first | with_reducible rfl | simp

@[simp] theorem wantToClaim_member (s : State) (c : Image) (urgency : Nat) :
    (s.wantToClaim c urgency).member = s.member := by
  unfold State.wantToClaim; (try dsimp only); (repeat' split) <;> first | with_reducible rfl | simp

@[simp] theorem requestWithdraw_member (s : State) (c : Image) :
    (s.requestWithdraw c).member = s.member := by
  unfold State.requestWithdraw; (try dsimp only); (repeat' split) <;> first | with_reducible rfl | simp

@[simp] theorem dropOutgoing_member (s : State) (set : List Nat) :
    (s.dropOutgoing set).member = s.member := by
  unfold State.dropOutgoing; (try dsimp only); (repeat' split) <;> first | with_reducible rfl | simp

@[simp] theorem voidShares_member (s : State)  :
    (s.voidShares).member = s.member := by
  unfold State.voidShares; (try dsimp only); (repeat' split) <;> first | with_reducible rfl | simp

@[simp] theorem foundShares_member (s : State) (c : Image) :
    (s.foundShares c).member = s.member := by
  unfold State.foundShares; (try dsimp only); (repeat' split) <;> first | with_reducible rfl | simp

@[simp] theorem returnWhere_member (s : State) (p : Nat → Share → Bool) :
    (s.returnWhere p).member = s.member := by
  unfold State.returnWhere; (try dsimp only); (repeat' split) <;> first | with_reducible rfl | simp

@[simp] theorem dropClaim_member (s : State) (n : Nat) :
    (s.dropClaim n).member = s.member := by
  unfold State.dropClaim; (try dsimp only); (repeat' split) <;> first | with_reducible rfl | simp

@[simp] theorem claimShares_member (s : State) (n count : Nat) :
    (s.claimShares n count).member = s.member := by
  unfold State.claimShares; (try dsimp only); (repeat' split) <;> first | with_reducible rfl | simp

@[simp] theorem takeRelease_member (s : State) (n : Nat) (set : List Nat) :
    (s.takeRelease n set).member = s.member := by
  unfold State.takeRelease; (try dsimp only); (repeat' split) <;> first | with_reducible rfl | simp

@[simp] theorem takeYield_member (s : State) (n share : Nat) :
    (s.takeYield n share).member = s.member := by
  unfold State.takeYield; (try dsimp only); (repeat' split) <;> first | with_reducible rfl | simp

@[simp] theorem takeCurtail_member (s : State) (c : Image) (q : Nat) :
    (s.takeCurtail c q).member = s.member := by
  unfold State.takeCurtail; (try dsimp only); (repeat' split) <;> first | with_reducible rfl | simp

@[simp] theorem strand_member (s : State) (n : Nat) :
    (s.strand n).member = s.member := by
  unfold State.strand; (try dsimp only); (repeat' split) <;> first | with_reducible rfl | simp

@[simp] theorem reclaimShares_member (s : State) (stations : List Nat) :
    (s.reclaimShares stations).member = s.member := by
  unfold State.reclaimShares; (try dsimp only); (repeat' split) <;> first | with_reducible rfl | simp

@[simp] theorem rejoinShares_member (s : State) (n : Nat) :
    (s.rejoinShares n).member = s.member := by
  unfold State.rejoinShares; (try dsimp only); (repeat' split) <;> first | with_reducible rfl | simp

@[simp] theorem yieldIfNamed_member (s : State) (c : Image) :
    (s.yieldIfNamed c).member = s.member := by
  unfold State.yieldIfNamed; (try dsimp only); (repeat' split) <;> first | with_reducible rfl | simp

@[simp] theorem curtailRelease_member (s : State) (c : Image) (q : Nat) :
    (s.curtailRelease c q).member = s.member := by
  unfold State.curtailRelease; (try dsimp only); (repeat' split) <;> first | with_reducible rfl | simp

@[simp] theorem releaseArrivals_member (s : State) (c : Image) :
    (s.releaseArrivals c).member = s.member := by
  unfold State.releaseArrivals; (try dsimp only); (repeat' split) <;> first | with_reducible rfl | simp

@[simp] theorem rejoinOutgoing_member (s : State) (c : Image) :
    (s.rejoinOutgoing c).member = s.member := by
  unfold State.rejoinOutgoing; (try dsimp only); (repeat' split) <;> first | with_reducible rfl | simp

@[simp] theorem parkingRelease_member (s : State) (c : Image) :
    (s.parkingRelease c).member = s.member := by
  unfold State.parkingRelease; (try dsimp only); (repeat' split) <;> first | with_reducible rfl | simp

@[simp] theorem drawFree_member (s : State)  :
    (s.drawFree).member = s.member := by
  rfl

@[simp] theorem yieldAndPark_member (s before : State) (c : Image) :
    (s.yieldAndPark before c).member = s.member := by
  unfold State.yieldAndPark; (try dsimp only); (repeat' split) <;> first | with_reducible rfl | simp

@[simp] theorem completeRelease_member (s : State) (c : Image) :
    (s.completeRelease c).member = s.member := by
  unfold State.completeRelease; (try dsimp only); (repeat' split) <;> first | with_reducible rfl | simp

@[simp] theorem afterFrame_member (s before : State) (c : Image) :
    (s.afterFrame before c).member = s.member := by
  unfold State.afterFrame; (try dsimp only); (repeat' split) <;> first | with_reducible rfl | simp

@[simp] theorem holdSample_member (s : State) (chamber tank : Channel) :
    (s.holdSample chamber tank).member = s.member := by
  unfold State.holdSample; (try dsimp only); (repeat' split) <;> first | with_reducible rfl | simp

@[simp] theorem evaluateTideLock_member (s : State) (c : Image) :
    (s.evaluateTideLock c).member = s.member := by
  unfold State.evaluateTideLock; (try dsimp only); (repeat' split) <;> first | with_reducible rfl | simp

@[simp] theorem recomputeUrgency_member (s : State) (c : Image) :
    (s.recomputeUrgency c).member = s.member := by
  unfold State.recomputeUrgency; (try dsimp only); (repeat' split) <;> first | with_reducible rfl | simp

@[simp] theorem inletSample_member (s : State) (c : Image) (chamber : Channel) :
    (s.inletSample c chamber).member = s.member := by
  unfold State.inletSample; (try dsimp only); (repeat' split) <;> first | with_reducible rfl | simp

@[simp] theorem setDrain_member (s : State) (d : Drain) :
    (s.setDrain d).member = s.member := by
  unfold State.setDrain; (try dsimp only); (repeat' split) <;> first | with_reducible rfl | simp

@[simp] theorem stopDrain_member (s : State)  :
    (s.stopDrain).member = s.member := by
  unfold State.stopDrain; (try dsimp only); (repeat' split) <;> first | with_reducible rfl | simp

@[simp] theorem askClaim_member (s : State) (c : Image) :
    (s.askClaim c).member = s.member := by
  unfold State.askClaim; (try dsimp only); (repeat' split) <;> first | with_reducible rfl | simp

@[simp] theorem testClaim_member (s : State) (c : Image) :
    (s.testClaim c).member = s.member := by
  unfold State.testClaim; (try dsimp only); (repeat' split) <;> first | with_reducible rfl | simp

@[simp] theorem withdrawIfOut_member (s : State) (c : Image) :
    (s.withdrawIfOut c).member = s.member := by
  unfold State.withdrawIfOut; (try dsimp only); (repeat' split) <;> first | with_reducible rfl | simp

@[simp] theorem failedTank_member (s : State) (c : Image) :
    (s.failedTank c).member = s.member := by
  unfold State.failedTank; (try dsimp only); (repeat' split) <;> first | with_reducible rfl | simp

@[simp] theorem park_member (s : State) (c : Image) :
    (s.park c).member = s.member := by
  unfold State.park; (try dsimp only); (repeat' split) <;> first | with_reducible rfl | simp

@[simp] theorem drainSample_member (s : State) (c : Image) :
    (s.drainSample c).member = s.member := by
  unfold State.drainSample; (try dsimp only); (repeat' split) <;> first | with_reducible rfl | simp

@[simp] theorem judgeParked_member (s : State) (c : Image) :
    (s.judgeParked c).member = s.member := by
  unfold State.judgeParked; (try dsimp only); (repeat' split) <;> first | with_reducible rfl | simp

@[simp] theorem drainReport_member (s : State) (c : Image) :
    (s.drainReport c).member = s.member := by
  unfold State.drainReport; (try dsimp only); (repeat' split) <;> first | with_reducible rfl | simp

@[simp] theorem drainStep_member (s before : State) (c : Image) :
    (s.drainStep before c).member = s.member := by
  unfold State.drainStep; (try dsimp only); (repeat' split) <;> first | with_reducible rfl | simp

@[simp] theorem setValve_member (s : State) (c : Image) :
    (s.setValve c).member = s.member := by
  unfold State.setValve; (try dsimp only); (repeat' split) <;> first | with_reducible rfl | simp

@[simp] theorem markWake_member (s : State)  :
    (s.markWake).member = s.member := by
  unfold State.markWake; (try dsimp only); (repeat' split) <;> first | with_reducible rfl | simp

@[simp] theorem restDrain_member (s : State) (c : Image) :
    (s.restDrain c).member = s.member := by
  unfold State.restDrain; (try dsimp only); (repeat' split) <;> first | with_reducible rfl | simp

@[simp] theorem enterDormant_member (s : State) (c : Image) :
    (s.enterDormant c).member = s.member := by
  unfold State.enterDormant; (try dsimp only); (repeat' split) <;> first | with_reducible rfl | simp

@[simp] theorem enterWaking_member (s : State) (c : Image) :
    (s.enterWaking c).member = s.member := by
  unfold State.enterWaking; (try dsimp only); (repeat' split) <;> first | with_reducible rfl | simp

@[simp] theorem wakeTrigger_member (s : State) (c : Image) :
    (s.wakeTrigger c).member = s.member := by
  unfold State.wakeTrigger; (try dsimp only); (repeat' split) <;> first | with_reducible rfl | simp

@[simp] theorem watchDormancy_member (s : State) (c : Image) :
    (s.watchDormancy c).member = s.member := by
  unfold State.watchDormancy; (try dsimp only); (repeat' split) <;> first | with_reducible rfl | simp

@[simp] theorem resetActivity_member (s : State)  :
    (s.resetActivity).member = s.member := by
  unfold State.resetActivity; (try dsimp only); (repeat' split) <;> first | with_reducible rfl | simp

@[simp] theorem writeAlert_member (s : State) (c : Image) :
    (s.writeAlert c).member = s.member := by
  unfold State.writeAlert; (try dsimp only); (repeat' split) <;> first | with_reducible rfl | simp

@[simp] theorem evaluateLocal_member (s : State) (c : Image) :
    (s.evaluateLocal c).member = s.member := by
  unfold State.evaluateLocal; (try dsimp only); (repeat' split) <;> first | with_reducible rfl | simp

@[simp] theorem rewriteAlert_member (s : State) (c : Image) :
    (s.rewriteAlert c).member = s.member := by
  unfold State.rewriteAlert; (try dsimp only); (repeat' split) <;> first | with_reducible rfl | simp

@[simp] theorem completeBucket_member (s : State)  :
    (s.completeBucket).member = s.member := by
  unfold State.completeBucket; (try dsimp only); (repeat' split) <;> first | with_reducible rfl | simp

@[simp] theorem mapZone_member (s : State) (zone : Nat) (f : ZoneEntry → ZoneEntry) :
    (s.mapZone zone f).member = s.member := by
  unfold State.mapZone; (try dsimp only); (repeat' split) <;> first | with_reducible rfl | simp

@[simp] theorem validateAlerts_member (s : State)  :
    (s.validateAlerts).member = s.member := by
  unfold State.validateAlerts; (try dsimp only); (repeat' split) <;> first | with_reducible rfl | simp

@[simp] theorem voidAlerts_member (s : State)  :
    (s.voidAlerts).member = s.member := by
  unfold State.voidAlerts; (try dsimp only); (repeat' split) <;> first | with_reducible rfl | simp

@[simp] theorem ageAlerts_member (s : State)  :
    (s.ageAlerts).member = s.member := by
  unfold State.ageAlerts; (try dsimp only); (repeat' split) <;> first | with_reducible rfl | simp

@[simp] theorem ageWindow_member (s : State)  :
    (s.ageWindow).member = s.member := by
  unfold State.ageWindow; (try dsimp only); (repeat' split) <;> first | with_reducible rfl | simp

@[simp] theorem readinessEvent_member (s : State) (c : Image) (g : Grade) (source : Option Nat) :
    (s.readinessEvent c g source).member = s.member := by
  unfold State.readinessEvent; (try dsimp only); (repeat' split) <;> first | with_reducible rfl | simp

@[simp] theorem alertEvent_member (s : State) (c : Image) :
    (s.alertEvent c).member = s.member := by
  unfold State.alertEvent; (try dsimp only); (repeat' split) <;> first | with_reducible rfl | simp

@[simp] theorem controlCalm_member (s : State) (c : Image) :
    (s.controlCalm c).member = s.member := by
  unfold State.controlCalm; (try dsimp only); (repeat' split) <;> first | with_reducible rfl | simp

@[simp] theorem emptySlot_member (s : State) (c : Image) (id : SlotId) :
    (s.emptySlot c id).member = s.member := by
  unfold State.emptySlot; (try dsimp only); (repeat' split) <;> first | with_reducible rfl | simp

@[simp] theorem emptySlots_member (s : State) (c : Image) (ids : List SlotId) :
    (s.emptySlots c ids).member = s.member := by
  exact foldl_keeps (fun x => x.member) _ (fun t id => emptySlot_member t c id) ids s

@[simp] theorem emptyAll_member (s : State) (c : Image) :
    (s.emptyAll c).member = s.member := by
  unfold State.emptyAll; (try dsimp only); (repeat' split) <;> first | with_reducible rfl | simp

@[simp] theorem rewriteNotices_member (s old : State)  :
    (s.rewriteNotices old).member = s.member := by
  refine foldl_keeps (fun x => x.member) _ (fun t id => ?_) noticeSlots s
  try dsimp only
  split <;> simp

@[simp] theorem emptyQueue_member (s : State)  :
    (s.emptyQueue).member = s.member := by
  unfold State.emptyQueue; (try dsimp only); (repeat' split) <;> first | with_reducible rfl | simp

@[simp] theorem watchSilence_member (s : State) (c : Image) :
    (s.watchSilence c).member = s.member := by
  unfold State.watchSilence; (try dsimp only); (repeat' split) <;> first | with_reducible rfl | simp

@[simp] theorem writeJoinIfDue_member (s : State) (c : Image) :
    (s.writeJoinIfDue c).member = s.member := by
  unfold State.writeJoinIfDue; (try dsimp only); (repeat' split) <;> first | with_reducible rfl | simp

@[simp] theorem startFlight_member (s : State) (c : Image) (id : SlotId) :
    (s.startFlight c id).member = s.member := by
  unfold State.startFlight; (try dsimp only); (repeat' split) <;> first | with_reducible rfl | simp

@[simp] theorem offerIfStillIdle_member (s : State) (c : Image) (id : SlotId) :
    (s.offerIfStillIdle c id).member = s.member := by
  unfold State.offerIfStillIdle; (try dsimp only); (repeat' split) <;> first | with_reducible rfl | simp

@[simp] theorem offer_member (s : State) (c : Image) (fresh : Bool) :
    (s.offer c fresh).member = s.member := by
  unfold State.offer; (try dsimp only); (repeat' split) <;> first | with_reducible rfl | simp

@[simp] theorem statusOnChange_member (s before : State)  :
    (s.statusOnChange before).member = s.member := by
  unfold State.statusOnChange; (try dsimp only); (repeat' split) <;> first | with_reducible rfl | simp

@[simp] theorem endField_member (s : State) (marks : Marks) :
    (s.endField marks).member = s.member := by
  unfold State.endField; (try dsimp only); (repeat' split) <;> first | with_reducible rfl | simp

@[simp] theorem reportEmptied_member (s : State) (id : SlotId) :
    (s.reportEmptied id).member = s.member := by
  unfold State.reportEmptied; (try dsimp only); (repeat' split) <;> first | with_reducible rfl | simp

@[simp] theorem failFlight_member (s : State)  :
    (s.failFlight).member = s.member := by
  unfold State.failFlight; (try dsimp only); (repeat' split) <;> first | with_reducible rfl | simp

@[simp] theorem bookkeep_member (s : State) (a : Arrival) :
    (s.bookkeep a).member = s.member := by
  unfold State.bookkeep; (try dsimp only); (repeat' split) <;> first | with_reducible rfl | simp

@[simp] theorem hearSilence_member (s : State) (c : Image) (a : Arrival) :
    (s.hearSilence c a).member = s.member := by
  unfold State.hearSilence; (try dsimp only); (repeat' split) <;> first | with_reducible rfl | simp

@[simp] theorem restartPresence_member (s : State) (c : Image) (a : Arrival) :
    (s.restartPresence c a).member = s.member := by
  unfold State.restartPresence; (try dsimp only); (repeat' split) <;> first | with_reducible rfl | simp

@[simp] theorem concluded_member (s : State) (c : Image) (f : Frame) :
    (s.concluded c f).member = s.member := by
  unfold State.concluded; (try dsimp only); (repeat' split) <;> first | with_reducible rfl | simp

@[simp] theorem cutAtPulse_member (s : State)  :
    (s.cutAtPulse).member = s.member := by
  unfold State.cutAtPulse; (try dsimp only); (repeat' split) <;> first | with_reducible rfl | simp

@[simp] theorem request_member (s : State) (seconds : Nat) :
    (s.request seconds).member = s.member := by
  unfold State.request; (try dsimp only); (repeat' split) <;> first | with_reducible rfl | simp

@[simp] theorem badLoad_member (s : State)  :
    (s.badLoad).member = s.member := by
  unfold State.badLoad; (try dsimp only); (repeat' split) <;> first | with_reducible rfl | simp

@[simp] theorem failedAttempt_member (s : State)  :
    (s.failedAttempt).member = s.member := by
  unfold State.failedAttempt; (try dsimp only); (repeat' split) <;> first | with_reducible rfl | simp

@[simp] theorem localEvent_member (s : State) (c : Image) :
    (s.localEvent c).member = s.member := by
  unfold State.localEvent; (try dsimp only); (repeat' split) <;> first | with_reducible rfl | simp

@[simp] theorem countPulse_member (s : State) (c : Image) (time : Nat) :
    (s.countPulse c time).member = s.member := by
  unfold State.countPulse; (try dsimp only); (repeat' split) <;> first | with_reducible rfl | simp

@[simp] theorem timeTide_member (s : State) (level : Tide) :
    (s.timeTide level).member = s.member := by
  unfold State.timeTide; (try dsimp only); (repeat' split) <;> first | with_reducible rfl | simp

@[simp] theorem keepValues_member (s : State) (c : Image) (chamber tank : Channel) :
    (s.keepValues c chamber tank).member = s.member := by
  unfold State.keepValues; (try dsimp only); (repeat' split) <;> first | with_reducible rfl | simp

@[simp] theorem keepSample_member (s : State) (c : Image) (chamber tank : Channel) :
    (s.keepSample c chamber tank).member = s.member := by
  unfold State.keepSample; (try dsimp only); (repeat' split) <;> first | with_reducible rfl | simp

@[simp] theorem makeSample_member (s : State) (c : Image) (chamber tank : Channel) :
    (s.makeSample c chamber tank).member = s.member := by
  unfold State.makeSample; (try dsimp only); (repeat' split) <;> first | with_reducible rfl | simp

@[simp] theorem emptySample_member (s : State) (c : Image) :
    (s.emptySample c).member = s.member := by
  unfold State.emptySample; (try dsimp only); (repeat' split) <;> first | with_reducible rfl | simp

@[simp] theorem lineBusy_member (s : State)  :
    (s.lineBusy).member = s.member := by
  unfold State.lineBusy; (try dsimp only); (repeat' split) <;> first | with_reducible rfl | simp

@[simp] theorem busyOwn_member (s : State)  :
    (s.busyOwn).member = s.member := by
  unfold State.busyOwn; (try dsimp only); (repeat' split) <;> first | with_reducible rfl | simp

@[simp] theorem hearBurst_member (s : State) (c : Image) (segment : Nat) (f : Frame) :
    (s.hearBurst c segment f).member = s.member := by
  unfold State.hearBurst; (try dsimp only); (repeat' split) <;> first | with_reducible rfl | simp

@[simp] theorem loadClaims_member (s : State) (claims : List Claim) :
    (s.loadClaims claims).member = s.member := by
  unfold State.loadClaims; (try dsimp only); (repeat' split) <;> first | with_reducible rfl | simp

@[simp] theorem nextBurst_member (s : State) (c : Image) (a : Arrival) (segment : Nat) (l : Lock) :
    (s.nextBurst c a segment l).member = s.member := by
  unfold State.nextBurst; (try dsimp only); (repeat' split) <;> first | with_reducible rfl | simp

@[simp] theorem takeCurtailFrame_member (s : State) (c : Image) (q : Nat) :
    (s.takeCurtailFrame c q).member = s.member := by
  unfold State.takeCurtailFrame; (try dsimp only); (repeat' split) <;> first | with_reducible rfl | simp

@[simp] theorem settleOutgoing_member (s : State) (a : Arrival) (set : List Nat) :
    (s.settleOutgoing a set).member = s.member := by
  unfold State.settleOutgoing; (try dsimp only); (repeat' split) <;> first | with_reducible rfl | simp

@[simp] theorem lateWithdraw_member (s : State) (c : Image) (a : Arrival) :
    (s.lateWithdraw c a).member = s.member := by
  unfold State.lateWithdraw; (try dsimp only); (repeat' split) <;> first | with_reducible rfl | simp

@[simp] theorem ownAlert_member (s : State) (c : Image) (g : Grade) :
    (s.ownAlert c g).member = s.member := by
  unfold State.ownAlert; (try dsimp only); (repeat' split) <;> first | with_reducible rfl | simp

@[simp] theorem heedAlert_member (s : State) (c : Image) (g : Grade) :
    (s.heedAlert c g).member = s.member := by
  unfold State.heedAlert; (try dsimp only); (repeat' split) <;> first | with_reducible rfl | simp

@[simp] theorem takeAlert_member (s : State) (c : Image) (a : Arrival) (origin zone : Nat) (g : Grade) :
    (s.takeAlert c a origin zone g).member = s.member := by
  unfold State.takeAlert; (try dsimp only); (repeat' split) <;> first | with_reducible rfl | simp

@[simp] theorem startBurst_member (s : State) (c : Image) (l : Lock) :
    (s.startBurst c l).member = s.member := by
  unfold State.startBurst; (try dsimp only); (repeat' split) <;> first | with_reducible rfl | simp

@[simp] theorem reassert_member (s : State) (a : Arrival) :
    (s.reassert a).member = s.member := by
  unfold State.reassert; (try dsimp only); (repeat' split) <;> first | with_reducible rfl | simp

@[simp] theorem ownDormant_member (s : State) (c : Image) (a : Arrival) :
    (s.ownDormant c a).member = s.member := by
  unfold State.ownDormant; (try dsimp only); (repeat' split) <;> first | with_reducible rfl | simp

@[simp] theorem takeQuery_member (s : State) (c : Image) (f : Frame) :
    (s.takeQuery c f).member = s.member := by
  unfold State.takeQuery; (try dsimp only); (repeat' split) <;> first | with_reducible rfl | simp

@[simp] theorem turnAway_member (s : State)  :
    (s.turnAway).member = s.member := by
  unfold State.turnAway; (try dsimp only); (repeat' split) <;> first | with_reducible rfl | simp

@[simp] theorem clearFlags_member (s : State) (mask : FlagSet) :
    (s.clearFlags mask).member = s.member := by
  unfold State.clearFlags; (try dsimp only); (repeat' split) <;> first | with_reducible rfl | simp

@[simp] theorem takeClear_member (s : State) (c : Image) (mask : FlagSet) :
    (s.takeClear c mask).member = s.member := by
  unfold State.takeClear; (try dsimp only); (repeat' split) <;> first | with_reducible rfl | simp

@[simp] theorem deliverNews_member (s : State) (carried : FlagSet) :
    (s.deliverNews carried).member = s.member := rfl

@[simp] theorem deliverNotice_member (s : State) (f : Frame) :
    (s.deliverNotice f).member = s.member := by
  unfold State.deliverNotice; (try dsimp only); (repeat' split) <;> first | with_reducible rfl | simp

@[simp] theorem recover_member (s : State) (c : Image) :
    (s.recover c).member = s.member := by
  unfold State.recover; (try dsimp only); (repeat' split) <;> first | with_reducible rfl | simp

end Sys2Proof.Machine
end

