-- ==== Sys2Proof/Laws/KeepsQueue.lean ====
section
/-! SUPPORT. The operations that leave the request queue as they were: one line each. -/

namespace Sys2Proof.Machine

open Sys2Proof

set_option linter.unusedTactic false
set_option linter.unnecessarySeqFocus false
set_option linter.unreachableTactic false

@[simp] theorem mapRs_queue (s : State) (f : RsState → RsState)
    (h0 : ∀ x, (f x).queue = x.queue) :
    (s.mapRs f).rs.queue = s.rs.queue := by
  simp [h0]

@[simp] theorem setSlot_queue (s : State) (id : SlotId) (x : Slot) :
    (s.setSlot id x).rs.queue = s.rs.queue := by
  unfold State.setSlot; (try dsimp only); (repeat' split) <;> first | with_reducible rfl | simp

@[simp] theorem writeSlot_queue (s : State) (id : SlotId) (c : Content) :
    (s.writeSlot id c).rs.queue = s.rs.queue := by
  unfold State.writeSlot; (try dsimp only); (repeat' split) <;> first | with_reducible rfl | simp

@[simp] theorem cancelSlot_queue (s : State) (id : SlotId) :
    (s.cancelSlot id).rs.queue = s.rs.queue := by
  unfold State.cancelSlot; (try dsimp only); (repeat' split) <;> first | with_reducible rfl | simp

@[simp] theorem pruneSlot_queue (s : State) (id : SlotId) (stations : List Nat) :
    (s.pruneSlot id stations).rs.queue = s.rs.queue := by
  unfold State.pruneSlot; (try dsimp only); (repeat' split) <;> first | with_reducible rfl | simp

@[simp] theorem mapEntry_queue (s : State) (n : Nat) (f : RosterEntry → RosterEntry) :
    (s.mapEntry n f).rs.queue = s.rs.queue := by
  unfold State.mapEntry; (try dsimp only); (repeat' split) <;> first | with_reducible rfl | simp

@[simp] theorem clearEntry_queue (s : State) (n : Nat) :
    (s.clearEntry n).rs.queue = s.rs.queue := by
  unfold State.clearEntry; (try dsimp only); (repeat' split) <;> first | with_reducible rfl | simp

@[simp] theorem reorderClaims_queue (s : State)  :
    (s.reorderClaims).rs.queue = s.rs.queue := by
  unfold State.reorderClaims; (try dsimp only); (repeat' split) <;> first | with_reducible rfl | simp

@[simp] theorem writeNotice_queue (s : State) (c : Image) (id : SlotId) (content : Content) :
    (s.writeNotice c id content).rs.queue = s.rs.queue := by
  unfold State.writeNotice; (try dsimp only); (repeat' split) <;> first | with_reducible rfl | simp

@[simp] theorem joinNews_queue (s : State) (f : Flag) :
    (s.joinNews f).rs.queue = s.rs.queue := rfl

@[simp] theorem latch_queue (s : State) (c : Image) (f : Flag) :
    (s.latch c f).rs.queue = s.rs.queue := by
  unfold State.latch; (try dsimp only); (repeat' split) <;> first | with_reducible rfl | simp

@[simp] theorem latchIfStanding_queue (s : State) (c : Image) (f : Flag) :
    (s.latchIfStanding c f).rs.queue = s.rs.queue := by
  unfold State.latchIfStanding; (try dsimp only); (repeat' split) <;> first | with_reducible rfl | simp

@[simp] theorem latchStanding_queue (s : State) (c : Image) :
    (s.latchStanding c).rs.queue = s.rs.queue := by
  unfold State.latchStanding; (try dsimp only); (repeat' split) <;> first | with_reducible rfl | simp

@[simp] theorem writeStatus_queue (s : State)  :
    (s.writeStatus).rs.queue = s.rs.queue := by
  unfold State.writeStatus; (try dsimp only); (repeat' split) <;> first | with_reducible rfl | simp

@[simp] theorem statusForChange_queue (s : State)  :
    (s.statusForChange).rs.queue = s.rs.queue := by
  unfold State.statusForChange; (try dsimp only); (repeat' split) <;> first | with_reducible rfl | simp

@[simp] theorem writeRecord_queue (s : State) (c : Image) (r : SpillRecord) :
    (s.writeRecord c r).rs.queue = s.rs.queue := by
  unfold State.writeRecord; (try dsimp only); (repeat' split) <;> first | with_reducible rfl | simp

@[simp] theorem takeRecord_queue (s : State) (c : Image) (r : SpillRecord) :
    (s.takeRecord c r).rs.queue = s.rs.queue := by
  unfold State.takeRecord; (try dsimp only); (repeat' split) <;> first | with_reducible rfl | simp

@[simp] theorem acknowledge_queue (s : State) (c : Image) (sequence : Half) :
    (s.acknowledge c sequence).rs.queue = s.rs.queue := by
  unfold State.acknowledge; (try dsimp only); (repeat' split) <;> first | with_reducible rfl | simp

@[simp] theorem writeReplies_queue (s : State) (n : Nat) (ids : List SlotId) (rs : List Reply) :
    (s.writeReplies n ids rs).rs.queue = s.rs.queue := by
  induction ids generalizing s rs with
  | nil => cases rs <;> rfl
  | cons id ids ih =>
    cases rs with
    | nil => rfl
    | cons r rs => simp only [State.writeReplies, ih, writeSlot_queue]

@[simp] theorem mapRecord_queue (s : State) (f : SpillRecord → SpillRecord) :
    (s.mapRecord f).rs.queue = s.rs.queue := by
  unfold State.mapRecord; (try dsimp only); (repeat' split) <;> first | with_reducible rfl | simp

@[simp] theorem openEpisode_queue (s : State) (c : Image) :
    (s.openEpisode c).rs.queue = s.rs.queue := by
  unfold State.openEpisode; (try dsimp only); (repeat' split) <;> first | with_reducible rfl | simp

@[simp] theorem closeEpisode_queue (s : State) (c : Image) :
    (s.closeEpisode c).rs.queue = s.rs.queue := by
  unfold State.closeEpisode; (try dsimp only); (repeat' split) <;> first | with_reducible rfl | simp

@[simp] theorem onsetSample_queue (s : State) (c : Image) (level : Nat) (suspect : Bool) :
    (s.onsetSample c level suspect).rs.queue = s.rs.queue := by
  unfold State.onsetSample; (try dsimp only); (repeat' split) <;> first | with_reducible rfl | simp

@[simp] theorem accrueSample_queue (s : State) (c : Image) (level : Nat) (suspect : Bool) :
    (s.accrueSample c level suspect).rs.queue = s.rs.queue := by
  unfold State.accrueSample; (try dsimp only); (repeat' split) <;> first | with_reducible rfl | simp

@[simp] theorem enterMergeWait_queue (s : State) (c : Image) :
    (s.enterMergeWait c).rs.queue = s.rs.queue := by
  unfold State.enterMergeWait; (try dsimp only); (repeat' split) <;> first | with_reducible rfl | simp

@[simp] theorem settleSample_queue (s : State) (c : Image) :
    (s.settleSample c).rs.queue = s.rs.queue := by
  unfold State.settleSample; (try dsimp only); (repeat' split) <;> first | with_reducible rfl | simp

@[simp] theorem spillingSample_queue (s : State) (c : Image) (level : Nat) (suspect : Bool) :
    (s.spillingSample c level suspect).rs.queue = s.rs.queue := by
  unfold State.spillingSample; (try dsimp only); (repeat' split) <;> first | with_reducible rfl | simp

@[simp] theorem nonSpillingSample_queue (s : State) (c : Image) (level : Nat) (suspect tideLocked : Bool) :
    (s.nonSpillingSample c level suspect tideLocked).rs.queue = s.rs.queue := by
  unfold State.nonSpillingSample; (try dsimp only); (repeat' split) <;> first | with_reducible rfl | simp

@[simp] theorem unknownSample_queue (s : State)  :
    (s.unknownSample).rs.queue = s.rs.queue := by
  unfold State.unknownSample; (try dsimp only); (repeat' split) <;> first | with_reducible rfl | simp

@[simp] theorem spillSample_queue (s : State) (c : Image) (chamber : Channel) :
    (s.spillSample c chamber).rs.queue = s.rs.queue := by
  unfold State.spillSample; (try dsimp only); (repeat' split) <;> first | with_reducible rfl | simp

@[simp] theorem stormFlag_queue (s : State)  :
    (s.stormFlag).rs.queue = s.rs.queue := by
  unfold State.stormFlag; (try dsimp only); (repeat' split) <;> first | with_reducible rfl | simp

@[simp] theorem cutEpisode_queue (s : State) (c : Image) :
    (s.cutEpisode c).rs.queue = s.rs.queue := by
  unfold State.cutEpisode; (try dsimp only); (repeat' split) <;> first | with_reducible rfl | simp

@[simp] theorem newPeriod_queue (s : State)  :
    (s.newPeriod).rs.queue = s.rs.queue := by
  unfold State.newPeriod; (try dsimp only); (repeat' split) <;> first | with_reducible rfl | simp

@[simp] theorem releaseShares_queue (s : State) (set : List Nat) :
    (s.releaseShares set).rs.queue = s.rs.queue := by
  unfold State.releaseShares; (try dsimp only); (repeat' split) <;> first | with_reducible rfl | simp

@[simp] theorem releaseAll_queue (s : State) (c : Image) :
    (s.releaseAll c).rs.queue = s.rs.queue := by
  unfold State.releaseAll; (try dsimp only); (repeat' split) <;> first | with_reducible rfl | simp

@[simp] theorem wantToClaim_queue (s : State) (c : Image) (urgency : Nat) :
    (s.wantToClaim c urgency).rs.queue = s.rs.queue := by
  unfold State.wantToClaim; (try dsimp only); (repeat' split) <;> first | with_reducible rfl | simp

@[simp] theorem requestWithdraw_queue (s : State) (c : Image) :
    (s.requestWithdraw c).rs.queue = s.rs.queue := by
  unfold State.requestWithdraw; (try dsimp only); (repeat' split) <;> first | with_reducible rfl | simp

@[simp] theorem dropOutgoing_queue (s : State) (set : List Nat) :
    (s.dropOutgoing set).rs.queue = s.rs.queue := by
  unfold State.dropOutgoing; (try dsimp only); (repeat' split) <;> first | with_reducible rfl | simp

@[simp] theorem voidShares_queue (s : State)  :
    (s.voidShares).rs.queue = s.rs.queue := by
  unfold State.voidShares; (try dsimp only); (repeat' split) <;> first | with_reducible rfl | simp

@[simp] theorem foundShares_queue (s : State) (c : Image) :
    (s.foundShares c).rs.queue = s.rs.queue := by
  unfold State.foundShares; (try dsimp only); (repeat' split) <;> first | with_reducible rfl | simp

@[simp] theorem returnWhere_queue (s : State) (p : Nat → Share → Bool) :
    (s.returnWhere p).rs.queue = s.rs.queue := by
  unfold State.returnWhere; (try dsimp only); (repeat' split) <;> first | with_reducible rfl | simp

@[simp] theorem dropClaim_queue (s : State) (n : Nat) :
    (s.dropClaim n).rs.queue = s.rs.queue := by
  unfold State.dropClaim; (try dsimp only); (repeat' split) <;> first | with_reducible rfl | simp

@[simp] theorem setUrgency_queue (s : State) (n urgency : Nat) :
    (s.setUrgency n urgency).rs.queue = s.rs.queue := by
  unfold State.setUrgency; (try dsimp only); (repeat' split) <;> first | with_reducible rfl | simp

@[simp] theorem claimShares_queue (s : State) (n count : Nat) :
    (s.claimShares n count).rs.queue = s.rs.queue := by
  unfold State.claimShares; (try dsimp only); (repeat' split) <;> first | with_reducible rfl | simp

@[simp] theorem takeClaim_queue (s : State) (n urgency field : Nat) :
    (s.takeClaim n urgency field).rs.queue = s.rs.queue := by
  unfold State.takeClaim; (try dsimp only); (repeat' split) <;> first | with_reducible rfl | simp

@[simp] theorem takeRelease_queue (s : State) (n : Nat) (set : List Nat) :
    (s.takeRelease n set).rs.queue = s.rs.queue := by
  unfold State.takeRelease; (try dsimp only); (repeat' split) <;> first | with_reducible rfl | simp

@[simp] theorem takeYield_queue (s : State) (n share : Nat) :
    (s.takeYield n share).rs.queue = s.rs.queue := by
  unfold State.takeYield; (try dsimp only); (repeat' split) <;> first | with_reducible rfl | simp

@[simp] theorem takeCurtail_queue (s : State) (c : Image) (q : Nat) :
    (s.takeCurtail c q).rs.queue = s.rs.queue := by
  unfold State.takeCurtail; (try dsimp only); (repeat' split) <;> first | with_reducible rfl | simp

@[simp] theorem strand_queue (s : State) (n : Nat) :
    (s.strand n).rs.queue = s.rs.queue := by
  unfold State.strand; (try dsimp only); (repeat' split) <;> first | with_reducible rfl | simp

@[simp] theorem reclaimShares_queue (s : State) (stations : List Nat) :
    (s.reclaimShares stations).rs.queue = s.rs.queue := by
  unfold State.reclaimShares; (try dsimp only); (repeat' split) <;> first | with_reducible rfl | simp

@[simp] theorem rejoinShares_queue (s : State) (n : Nat) :
    (s.rejoinShares n).rs.queue = s.rs.queue := by
  unfold State.rejoinShares; (try dsimp only); (repeat' split) <;> first | with_reducible rfl | simp

@[simp] theorem yieldIfNamed_queue (s : State) (c : Image) :
    (s.yieldIfNamed c).rs.queue = s.rs.queue := by
  unfold State.yieldIfNamed; (try dsimp only); (repeat' split) <;> first | with_reducible rfl | simp

@[simp] theorem curtailRelease_queue (s : State) (c : Image) (q : Nat) :
    (s.curtailRelease c q).rs.queue = s.rs.queue := by
  unfold State.curtailRelease; (try dsimp only); (repeat' split) <;> first | with_reducible rfl | simp

@[simp] theorem releaseArrivals_queue (s : State) (c : Image) :
    (s.releaseArrivals c).rs.queue = s.rs.queue := by
  unfold State.releaseArrivals; (try dsimp only); (repeat' split) <;> first | with_reducible rfl | simp

@[simp] theorem rejoinOutgoing_queue (s : State) (c : Image) :
    (s.rejoinOutgoing c).rs.queue = s.rs.queue := by
  unfold State.rejoinOutgoing; (try dsimp only); (repeat' split) <;> first | with_reducible rfl | simp

@[simp] theorem parkingRelease_queue (s : State) (c : Image) :
    (s.parkingRelease c).rs.queue = s.rs.queue := by
  unfold State.parkingRelease; (try dsimp only); (repeat' split) <;> first | with_reducible rfl | simp

@[simp] theorem drawFree_queue (s : State)  :
    (s.drawFree).rs.queue = s.rs.queue := by
  rfl

@[simp] theorem yieldAndPark_queue (s before : State) (c : Image) :
    (s.yieldAndPark before c).rs.queue = s.rs.queue := by
  unfold State.yieldAndPark; (try dsimp only); (repeat' split) <;> first | with_reducible rfl | simp

@[simp] theorem completeRelease_queue (s : State) (c : Image) :
    (s.completeRelease c).rs.queue = s.rs.queue := by
  unfold State.completeRelease; (try dsimp only); (repeat' split) <;> first | with_reducible rfl | simp

@[simp] theorem afterFrame_queue (s before : State) (c : Image) :
    (s.afterFrame before c).rs.queue = s.rs.queue := by
  unfold State.afterFrame; (try dsimp only); (repeat' split) <;> first | with_reducible rfl | simp

@[simp] theorem holdSample_queue (s : State) (chamber tank : Channel) :
    (s.holdSample chamber tank).rs.queue = s.rs.queue := by
  unfold State.holdSample; (try dsimp only); (repeat' split) <;> first | with_reducible rfl | simp

@[simp] theorem evaluateTideLock_queue (s : State) (c : Image) :
    (s.evaluateTideLock c).rs.queue = s.rs.queue := by
  unfold State.evaluateTideLock; (try dsimp only); (repeat' split) <;> first | with_reducible rfl | simp

@[simp] theorem recomputeUrgency_queue (s : State) (c : Image) :
    (s.recomputeUrgency c).rs.queue = s.rs.queue := by
  unfold State.recomputeUrgency; (try dsimp only); (repeat' split) <;> first | with_reducible rfl | simp

@[simp] theorem inletSample_queue (s : State) (c : Image) (chamber : Channel) :
    (s.inletSample c chamber).rs.queue = s.rs.queue := by
  unfold State.inletSample; (try dsimp only); (repeat' split) <;> first | with_reducible rfl | simp

@[simp] theorem setDrain_queue (s : State) (d : Drain) :
    (s.setDrain d).rs.queue = s.rs.queue := by
  unfold State.setDrain; (try dsimp only); (repeat' split) <;> first | with_reducible rfl | simp

@[simp] theorem stopDrain_queue (s : State)  :
    (s.stopDrain).rs.queue = s.rs.queue := by
  unfold State.stopDrain; (try dsimp only); (repeat' split) <;> first | with_reducible rfl | simp

@[simp] theorem askClaim_queue (s : State) (c : Image) :
    (s.askClaim c).rs.queue = s.rs.queue := by
  unfold State.askClaim; (try dsimp only); (repeat' split) <;> first | with_reducible rfl | simp

@[simp] theorem testClaim_queue (s : State) (c : Image) :
    (s.testClaim c).rs.queue = s.rs.queue := by
  unfold State.testClaim; (try dsimp only); (repeat' split) <;> first | with_reducible rfl | simp

@[simp] theorem withdrawIfOut_queue (s : State) (c : Image) :
    (s.withdrawIfOut c).rs.queue = s.rs.queue := by
  unfold State.withdrawIfOut; (try dsimp only); (repeat' split) <;> first | with_reducible rfl | simp

@[simp] theorem failedTank_queue (s : State) (c : Image) :
    (s.failedTank c).rs.queue = s.rs.queue := by
  unfold State.failedTank; (try dsimp only); (repeat' split) <;> first | with_reducible rfl | simp

@[simp] theorem park_queue (s : State) (c : Image) :
    (s.park c).rs.queue = s.rs.queue := by
  unfold State.park; (try dsimp only); (repeat' split) <;> first | with_reducible rfl | simp

@[simp] theorem drainSample_queue (s : State) (c : Image) :
    (s.drainSample c).rs.queue = s.rs.queue := by
  unfold State.drainSample; (try dsimp only); (repeat' split) <;> first | with_reducible rfl | simp

@[simp] theorem judgeParked_queue (s : State) (c : Image) :
    (s.judgeParked c).rs.queue = s.rs.queue := by
  unfold State.judgeParked; (try dsimp only); (repeat' split) <;> first | with_reducible rfl | simp

@[simp] theorem drainReport_queue (s : State) (c : Image) :
    (s.drainReport c).rs.queue = s.rs.queue := by
  unfold State.drainReport; (try dsimp only); (repeat' split) <;> first | with_reducible rfl | simp

@[simp] theorem drainStep_queue (s before : State) (c : Image) :
    (s.drainStep before c).rs.queue = s.rs.queue := by
  unfold State.drainStep; (try dsimp only); (repeat' split) <;> first | with_reducible rfl | simp

@[simp] theorem setValve_queue (s : State) (c : Image) :
    (s.setValve c).rs.queue = s.rs.queue := by
  unfold State.setValve; (try dsimp only); (repeat' split) <;> first | with_reducible rfl | simp

@[simp] theorem markWake_queue (s : State)  :
    (s.markWake).rs.queue = s.rs.queue := by
  unfold State.markWake; (try dsimp only); (repeat' split) <;> first | with_reducible rfl | simp

@[simp] theorem restDrain_queue (s : State) (c : Image) :
    (s.restDrain c).rs.queue = s.rs.queue := by
  unfold State.restDrain; (try dsimp only); (repeat' split) <;> first | with_reducible rfl | simp

@[simp] theorem enterDormant_queue (s : State) (c : Image) :
    (s.enterDormant c).rs.queue = s.rs.queue := by
  unfold State.enterDormant; (try dsimp only); (repeat' split) <;> first | with_reducible rfl | simp

@[simp] theorem enterWaking_queue (s : State) (c : Image) :
    (s.enterWaking c).rs.queue = s.rs.queue := by
  unfold State.enterWaking; (try dsimp only); (repeat' split) <;> first | with_reducible rfl | simp

@[simp] theorem wakeTrigger_queue (s : State) (c : Image) :
    (s.wakeTrigger c).rs.queue = s.rs.queue := by
  unfold State.wakeTrigger; (try dsimp only); (repeat' split) <;> first | with_reducible rfl | simp

@[simp] theorem watchDormancy_queue (s : State) (c : Image) :
    (s.watchDormancy c).rs.queue = s.rs.queue := by
  unfold State.watchDormancy; (try dsimp only); (repeat' split) <;> first | with_reducible rfl | simp

@[simp] theorem resetActivity_queue (s : State)  :
    (s.resetActivity).rs.queue = s.rs.queue := by
  unfold State.resetActivity; (try dsimp only); (repeat' split) <;> first | with_reducible rfl | simp

@[simp] theorem writeAlert_queue (s : State) (c : Image) :
    (s.writeAlert c).rs.queue = s.rs.queue := by
  unfold State.writeAlert; (try dsimp only); (repeat' split) <;> first | with_reducible rfl | simp

@[simp] theorem evaluateLocal_queue (s : State) (c : Image) :
    (s.evaluateLocal c).rs.queue = s.rs.queue := by
  unfold State.evaluateLocal; (try dsimp only); (repeat' split) <;> first | with_reducible rfl | simp

@[simp] theorem rewriteAlert_queue (s : State) (c : Image) :
    (s.rewriteAlert c).rs.queue = s.rs.queue := by
  unfold State.rewriteAlert; (try dsimp only); (repeat' split) <;> first | with_reducible rfl | simp

@[simp] theorem completeBucket_queue (s : State)  :
    (s.completeBucket).rs.queue = s.rs.queue := by
  unfold State.completeBucket; (try dsimp only); (repeat' split) <;> first | with_reducible rfl | simp

@[simp] theorem mapZone_queue (s : State) (zone : Nat) (f : ZoneEntry → ZoneEntry) :
    (s.mapZone zone f).rs.queue = s.rs.queue := by
  unfold State.mapZone; (try dsimp only); (repeat' split) <;> first | with_reducible rfl | simp

@[simp] theorem validateAlerts_queue (s : State)  :
    (s.validateAlerts).rs.queue = s.rs.queue := by
  unfold State.validateAlerts; (try dsimp only); (repeat' split) <;> first | with_reducible rfl | simp

@[simp] theorem voidAlerts_queue (s : State)  :
    (s.voidAlerts).rs.queue = s.rs.queue := by
  unfold State.voidAlerts; (try dsimp only); (repeat' split) <;> first | with_reducible rfl | simp

@[simp] theorem ageAlerts_queue (s : State)  :
    (s.ageAlerts).rs.queue = s.rs.queue := by
  unfold State.ageAlerts; (try dsimp only); (repeat' split) <;> first | with_reducible rfl | simp

@[simp] theorem ageWindow_queue (s : State)  :
    (s.ageWindow).rs.queue = s.rs.queue := by
  unfold State.ageWindow; (try dsimp only); (repeat' split) <;> first | with_reducible rfl | simp

@[simp] theorem readinessEvent_queue (s : State) (c : Image) (g : Grade) (source : Option Nat) :
    (s.readinessEvent c g source).rs.queue = s.rs.queue := by
  unfold State.readinessEvent; (try dsimp only); (repeat' split) <;> first | with_reducible rfl | simp

@[simp] theorem alertEvent_queue (s : State) (c : Image) :
    (s.alertEvent c).rs.queue = s.rs.queue := by
  unfold State.alertEvent; (try dsimp only); (repeat' split) <;> first | with_reducible rfl | simp

@[simp] theorem controlCalm_queue (s : State) (c : Image) :
    (s.controlCalm c).rs.queue = s.rs.queue := by
  unfold State.controlCalm; (try dsimp only); (repeat' split) <;> first | with_reducible rfl | simp

@[simp] theorem emptySlot_queue (s : State) (c : Image) (id : SlotId) :
    (s.emptySlot c id).rs.queue = s.rs.queue := by
  unfold State.emptySlot; (try dsimp only); (repeat' split) <;> first | with_reducible rfl | simp

@[simp] theorem emptySlots_queue (s : State) (c : Image) (ids : List SlotId) :
    (s.emptySlots c ids).rs.queue = s.rs.queue := by
  exact foldl_keeps (fun x => x.rs.queue) _ (fun t id => emptySlot_queue t c id) ids s

@[simp] theorem emptyAll_queue (s : State) (c : Image) :
    (s.emptyAll c).rs.queue = s.rs.queue := by
  unfold State.emptyAll; (try dsimp only); (repeat' split) <;> first | with_reducible rfl | simp

@[simp] theorem rewriteNotices_queue (s old : State)  :
    (s.rewriteNotices old).rs.queue = s.rs.queue := by
  refine foldl_keeps (fun x => x.rs.queue) _ (fun t id => ?_) noticeSlots s
  try dsimp only
  split <;> simp

@[simp] theorem leaveTables_queue (s : State)  :
    (s.leaveTables).rs.queue = s.rs.queue := by
  unfold State.leaveTables; (try dsimp only); (repeat' split) <;> first | with_reducible rfl | simp

@[simp] theorem setMembership_queue (s : State) (m : Membership) :
    (s.setMembership m).rs.queue = s.rs.queue := by
  unfold State.setMembership; (try dsimp only); (repeat' split) <;> first | with_reducible rfl | simp

@[simp] theorem enterIsolated_queue (s : State) (c : Image) :
    (s.enterIsolated c).rs.queue = s.rs.queue := by
  unfold State.enterIsolated; (try dsimp only); (repeat' split) <;> first | with_reducible rfl | simp

@[simp] theorem enterListening_queue (s : State) (c : Image) (hold : Bool) :
    (s.enterListening c hold).rs.queue = s.rs.queue := by
  unfold State.enterListening; (try dsimp only); (repeat' split) <;> first | with_reducible rfl | simp

@[simp] theorem discardLoad_queue (s : State)  :
    (s.discardLoad).rs.queue = s.rs.queue := by
  unfold State.discardLoad; (try dsimp only); (repeat' split) <;> first | with_reducible rfl | simp

@[simp] theorem spoilJoin_queue (s : State) (c : Image) :
    (s.spoilJoin c).rs.queue = s.rs.queue := by
  unfold State.spoilJoin; (try dsimp only); (repeat' split) <;> first | with_reducible rfl | simp

@[simp] theorem failJoin_queue (s : State) (c : Image) :
    (s.failJoin c).rs.queue = s.rs.queue := by
  unfold State.failJoin; (try dsimp only); (repeat' split) <;> first | with_reducible rfl | simp

@[simp] theorem isolateFor_queue (s : State) (c : Image) (f : Flag) :
    (s.isolateFor c f).rs.queue = s.rs.queue := by
  unfold State.isolateFor; (try dsimp only); (repeat' split) <;> first | with_reducible rfl | simp

@[simp] theorem enterLinked_queue (s : State) (c : Image) :
    (s.enterLinked c).rs.queue = s.rs.queue := by
  unfold State.enterLinked; (try dsimp only); (repeat' split) <;> first | with_reducible rfl | simp

@[simp] theorem found_queue (s : State) (c : Image) :
    (s.found c).rs.queue = s.rs.queue := by
  unfold State.found; (try dsimp only); (repeat' split) <;> first | with_reducible rfl | simp

@[simp] theorem linkLoaded_queue (s : State) (c : Image) :
    (s.linkLoaded c).rs.queue = s.rs.queue := by
  unfold State.linkLoaded; (try dsimp only); (repeat' split) <;> first | with_reducible rfl | simp

@[simp] theorem endLock_queue (s : State) (c : Image) :
    (s.endLock c).rs.queue = s.rs.queue := by
  unfold State.endLock; (try dsimp only); (repeat' split) <;> first | with_reducible rfl | simp

@[simp] theorem spoil_queue (s : State) (c : Image) :
    (s.spoil c).rs.queue = s.rs.queue := by
  unfold State.spoil; (try dsimp only); (repeat' split) <;> first | with_reducible rfl | simp

@[simp] theorem watchSilence_queue (s : State) (c : Image) :
    (s.watchSilence c).rs.queue = s.rs.queue := by
  unfold State.watchSilence; (try dsimp only); (repeat' split) <;> first | with_reducible rfl | simp

@[simp] theorem writeJoinIfDue_queue (s : State) (c : Image) :
    (s.writeJoinIfDue c).rs.queue = s.rs.queue := by
  unfold State.writeJoinIfDue; (try dsimp only); (repeat' split) <;> first | with_reducible rfl | simp

@[simp] theorem startFlight_queue (s : State) (c : Image) (id : SlotId) :
    (s.startFlight c id).rs.queue = s.rs.queue := by
  unfold State.startFlight; (try dsimp only); (repeat' split) <;> first | with_reducible rfl | simp

@[simp] theorem offerIfStillIdle_queue (s : State) (c : Image) (id : SlotId) :
    (s.offerIfStillIdle c id).rs.queue = s.rs.queue := by
  unfold State.offerIfStillIdle; (try dsimp only); (repeat' split) <;> first | with_reducible rfl | simp

@[simp] theorem offer_queue (s : State) (c : Image) (fresh : Bool) :
    (s.offer c fresh).rs.queue = s.rs.queue := by
  unfold State.offer; (try dsimp only); (repeat' split) <;> first | with_reducible rfl | simp

@[simp] theorem statusOnChange_queue (s before : State)  :
    (s.statusOnChange before).rs.queue = s.rs.queue := by
  unfold State.statusOnChange; (try dsimp only); (repeat' split) <;> first | with_reducible rfl | simp

@[simp] theorem endField_queue (s : State) (marks : Marks) :
    (s.endField marks).rs.queue = s.rs.queue := by
  unfold State.endField; (try dsimp only); (repeat' split) <;> first | with_reducible rfl | simp

@[simp] theorem reportEmptied_queue (s : State) (id : SlotId) :
    (s.reportEmptied id).rs.queue = s.rs.queue := by
  unfold State.reportEmptied; (try dsimp only); (repeat' split) <;> first | with_reducible rfl | simp

@[simp] theorem failFlight_queue (s : State)  :
    (s.failFlight).rs.queue = s.rs.queue := by
  unfold State.failFlight; (try dsimp only); (repeat' split) <;> first | with_reducible rfl | simp

@[simp] theorem bookkeep_queue (s : State) (a : Arrival) :
    (s.bookkeep a).rs.queue = s.rs.queue := by
  unfold State.bookkeep; (try dsimp only); (repeat' split) <;> first | with_reducible rfl | simp

@[simp] theorem hearEntry_queue (s : State) (c : Image) (n : Nat) :
    (s.hearEntry c n).rs.queue = s.rs.queue := by
  unfold State.hearEntry; (try dsimp only); (repeat' split) <;> first | with_reducible rfl | simp

@[simp] theorem hearSilence_queue (s : State) (c : Image) (a : Arrival) :
    (s.hearSilence c a).rs.queue = s.rs.queue := by
  unfold State.hearSilence; (try dsimp only); (repeat' split) <;> first | with_reducible rfl | simp

@[simp] theorem hearPopulated_queue (s : State) (f : Frame) :
    (s.hearPopulated f).rs.queue = s.rs.queue := by
  unfold State.hearPopulated; (try dsimp only); (repeat' split) <;> first | with_reducible rfl | simp

@[simp] theorem hear_queue (s : State) (c : Image) (a : Arrival) (f : Frame) :
    (s.hear c a f).rs.queue = s.rs.queue := by
  unfold State.hear; (try dsimp only); (repeat' split) <;> first | with_reducible rfl | simp

@[simp] theorem restartPresence_queue (s : State) (c : Image) (a : Arrival) :
    (s.restartPresence c a).rs.queue = s.rs.queue := by
  unfold State.restartPresence; (try dsimp only); (repeat' split) <;> first | with_reducible rfl | simp

@[simp] theorem concluded_queue (s : State) (c : Image) (f : Frame) :
    (s.concluded c f).rs.queue = s.rs.queue := by
  unfold State.concluded; (try dsimp only); (repeat' split) <;> first | with_reducible rfl | simp

@[simp] theorem heardFrame_queue (s : State) (c : Image) (f : Frame) :
    (s.heardFrame c f).rs.queue = s.rs.queue := by
  unfold State.heardFrame; (try dsimp only); (repeat' split) <;> first | with_reducible rfl | simp

@[simp] theorem ownerDone_queue (s : State) (c : Image) (a : Arrival) (f : Frame) :
    (s.ownerDone c a f).rs.queue = s.rs.queue := by
  unfold State.ownerDone; (try dsimp only); (repeat' split) <;> first | with_reducible rfl | simp

@[simp] theorem cutAtPulse_queue (s : State)  :
    (s.cutAtPulse).rs.queue = s.rs.queue := by
  unfold State.cutAtPulse; (try dsimp only); (repeat' split) <;> first | with_reducible rfl | simp

@[simp] theorem request_queue (s : State) (seconds : Nat) :
    (s.request seconds).rs.queue = s.rs.queue := by
  unfold State.request; (try dsimp only); (repeat' split) <;> first | with_reducible rfl | simp

@[simp] theorem goodLoad_queue (s : State) (c : Image) :
    (s.goodLoad c).rs.queue = s.rs.queue := by
  unfold State.goodLoad; (try dsimp only); (repeat' split) <;> first | with_reducible rfl | simp

@[simp] theorem badLoad_queue (s : State)  :
    (s.badLoad).rs.queue = s.rs.queue := by
  unfold State.badLoad; (try dsimp only); (repeat' split) <;> first | with_reducible rfl | simp

@[simp] theorem failedAttempt_queue (s : State)  :
    (s.failedAttempt).rs.queue = s.rs.queue := by
  unfold State.failedAttempt; (try dsimp only); (repeat' split) <;> first | with_reducible rfl | simp

@[simp] theorem localEvent_queue (s : State) (c : Image) :
    (s.localEvent c).rs.queue = s.rs.queue := by
  unfold State.localEvent; (try dsimp only); (repeat' split) <;> first | with_reducible rfl | simp

@[simp] theorem countPulse_queue (s : State) (c : Image) (time : Nat) :
    (s.countPulse c time).rs.queue = s.rs.queue := by
  unfold State.countPulse; (try dsimp only); (repeat' split) <;> first | with_reducible rfl | simp

@[simp] theorem timeTide_queue (s : State) (level : Tide) :
    (s.timeTide level).rs.queue = s.rs.queue := by
  unfold State.timeTide; (try dsimp only); (repeat' split) <;> first | with_reducible rfl | simp

@[simp] theorem keepValues_queue (s : State) (c : Image) (chamber tank : Channel) :
    (s.keepValues c chamber tank).rs.queue = s.rs.queue := by
  unfold State.keepValues; (try dsimp only); (repeat' split) <;> first | with_reducible rfl | simp

@[simp] theorem keepSample_queue (s : State) (c : Image) (chamber tank : Channel) :
    (s.keepSample c chamber tank).rs.queue = s.rs.queue := by
  unfold State.keepSample; (try dsimp only); (repeat' split) <;> first | with_reducible rfl | simp

@[simp] theorem makeSample_queue (s : State) (c : Image) (chamber tank : Channel) :
    (s.makeSample c chamber tank).rs.queue = s.rs.queue := by
  unfold State.makeSample; (try dsimp only); (repeat' split) <;> first | with_reducible rfl | simp

@[simp] theorem emptySample_queue (s : State) (c : Image) :
    (s.emptySample c).rs.queue = s.rs.queue := by
  unfold State.emptySample; (try dsimp only); (repeat' split) <;> first | with_reducible rfl | simp

@[simp] theorem lineBusy_queue (s : State)  :
    (s.lineBusy).rs.queue = s.rs.queue := by
  unfold State.lineBusy; (try dsimp only); (repeat' split) <;> first | with_reducible rfl | simp

@[simp] theorem busyOwn_queue (s : State)  :
    (s.busyOwn).rs.queue = s.rs.queue := by
  unfold State.busyOwn; (try dsimp only); (repeat' split) <;> first | with_reducible rfl | simp

@[simp] theorem hearBurst_queue (s : State) (c : Image) (segment : Nat) (f : Frame) :
    (s.hearBurst c segment f).rs.queue = s.rs.queue := by
  unfold State.hearBurst; (try dsimp only); (repeat' split) <;> first | with_reducible rfl | simp

@[simp] theorem enterLoading_queue (s : State) (payload : List Byte) :
    (s.enterLoading payload).rs.queue = s.rs.queue := by
  unfold State.enterLoading; (try dsimp only); (repeat' split) <;> first | with_reducible rfl | simp

@[simp] theorem takeSegment0_queue (s : State) (c : Image) (f : Frame) :
    (s.takeSegment0 c f).rs.queue = s.rs.queue := by
  unfold State.takeSegment0; (try dsimp only); (repeat' split) <;> first | with_reducible rfl | simp

@[simp] theorem loadClaims_queue (s : State) (claims : List Claim) :
    (s.loadClaims claims).rs.queue = s.rs.queue := by
  unfold State.loadClaims; (try dsimp only); (repeat' split) <;> first | with_reducible rfl | simp

@[simp] theorem loadSegment_queue (s : State) (c : Image) (segment : Nat) (payload : List Byte) :
    (s.loadSegment c segment payload).rs.queue = s.rs.queue := by
  unfold State.loadSegment; (try dsimp only); (repeat' split) <;> first | with_reducible rfl | simp

@[simp] theorem takeSegment_queue (s : State) (c : Image) (segment : Nat) (f : Frame) :
    (s.takeSegment c segment f).rs.queue = s.rs.queue := by
  unfold State.takeSegment; (try dsimp only); (repeat' split) <;> first | with_reducible rfl | simp

@[simp] theorem finalSegment_queue (s : State) (c : Image) (l : Lock) :
    (s.finalSegment c l).rs.queue = s.rs.queue := by
  unfold State.finalSegment; (try dsimp only); (repeat' split) <;> first | with_reducible rfl | simp

@[simp] theorem nextBurst_queue (s : State) (c : Image) (a : Arrival) (segment : Nat) (l : Lock) :
    (s.nextBurst c a segment l).rs.queue = s.rs.queue := by
  unfold State.nextBurst; (try dsimp only); (repeat' split) <;> first | with_reducible rfl | simp

@[simp] theorem burstAtLinked_queue (s : State) (c : Image) (a : Arrival) (segment : Nat) (f : Frame) :
    (s.burstAtLinked c a segment f).rs.queue = s.rs.queue := by
  unfold State.burstAtLinked; (try dsimp only); (repeat' split) <;> first | with_reducible rfl | simp

@[simp] theorem takeTable_queue (s : State) (c : Image) (a : Arrival) (segment : Nat) (f : Frame) :
    (s.takeTable c a segment f).rs.queue = s.rs.queue := by
  unfold State.takeTable; (try dsimp only); (repeat' split) <;> first | with_reducible rfl | simp

@[simp] theorem declareAbsent_queue (s : State) (c : Image) (n : Nat) :
    (s.declareAbsent c n).rs.queue = s.rs.queue := by
  unfold State.declareAbsent; (try dsimp only); (repeat' split) <;> first | with_reducible rfl | simp

@[simp] theorem takeReclaim_queue (s : State) (named : List Nat) :
    (s.takeReclaim named).rs.queue = s.rs.queue := by
  unfold State.takeReclaim
  have h := foldl_keeps (fun x => x.rs.queue) (fun t n => t.clearEntry n) (fun t n => by simp) (named.filter fun n => decide (s.entryState n = .absent)) (s.reclaimShares (named.filter fun n => decide (s.entryState n = .absent)))
  dsimp only at h ⊢
  simp [h]

@[simp] theorem takeCurtailFrame_queue (s : State) (c : Image) (q : Nat) :
    (s.takeCurtailFrame c q).rs.queue = s.rs.queue := by
  unfold State.takeCurtailFrame; (try dsimp only); (repeat' split) <;> first | with_reducible rfl | simp

@[simp] theorem settleOutgoing_queue (s : State) (a : Arrival) (set : List Nat) :
    (s.settleOutgoing a set).rs.queue = s.rs.queue := by
  unfold State.settleOutgoing; (try dsimp only); (repeat' split) <;> first | with_reducible rfl | simp

@[simp] theorem lateWithdraw_queue (s : State) (c : Image) (a : Arrival) :
    (s.lateWithdraw c a).rs.queue = s.rs.queue := by
  unfold State.lateWithdraw; (try dsimp only); (repeat' split) <;> first | with_reducible rfl | simp

@[simp] theorem ownAlert_queue (s : State) (c : Image) (g : Grade) :
    (s.ownAlert c g).rs.queue = s.rs.queue := by
  unfold State.ownAlert; (try dsimp only); (repeat' split) <;> first | with_reducible rfl | simp

@[simp] theorem heedAlert_queue (s : State) (c : Image) (g : Grade) :
    (s.heedAlert c g).rs.queue = s.rs.queue := by
  unfold State.heedAlert; (try dsimp only); (repeat' split) <;> first | with_reducible rfl | simp

@[simp] theorem takeAlert_queue (s : State) (c : Image) (a : Arrival) (origin zone : Nat) (g : Grade) :
    (s.takeAlert c a origin zone g).rs.queue = s.rs.queue := by
  unfold State.takeAlert; (try dsimp only); (repeat' split) <;> first | with_reducible rfl | simp

@[simp] theorem recordJoin_queue (s : State) (n : Nat) :
    (s.recordJoin n).rs.queue = s.rs.queue := by
  unfold State.recordJoin; (try dsimp only); (repeat' split) <;> first | with_reducible rfl | simp

@[simp] theorem enterJoining_queue (s : State) (c : Image) :
    (s.enterJoining c).rs.queue = s.rs.queue := by
  unfold State.enterJoining; (try dsimp only); (repeat' split) <;> first | with_reducible rfl | simp

@[simp] theorem hearJoin_queue (s : State) (n : Nat) :
    (s.hearJoin n).rs.queue = s.rs.queue := by
  unfold State.hearJoin; (try dsimp only); (repeat' split) <;> first | with_reducible rfl | simp

@[simp] theorem startBurst_queue (s : State) (c : Image) (l : Lock) :
    (s.startBurst c l).rs.queue = s.rs.queue := by
  unfold State.startBurst; (try dsimp only); (repeat' split) <;> first | with_reducible rfl | simp

@[simp] theorem markJoiner_queue (s : State) (c : Image) (n : Nat) :
    (s.markJoiner c n).rs.queue = s.rs.queue := by
  unfold State.markJoiner; (try dsimp only); (repeat' split) <;> first | with_reducible rfl | simp

@[simp] theorem beginLock_queue (s : State) (c : Image) (n pool : Nat) :
    (s.beginLock c n pool).rs.queue = s.rs.queue := by
  unfold State.beginLock; (try dsimp only); (repeat' split) <;> first | with_reducible rfl | simp

@[simp] theorem joinAtLinked_queue (s : State) (c : Image) (n pool : Nat) :
    (s.joinAtLinked c n pool).rs.queue = s.rs.queue := by
  unfold State.joinAtLinked; (try dsimp only); (repeat' split) <;> first | with_reducible rfl | simp

@[simp] theorem takeJoin_queue (s : State) (c : Image) (a : Arrival) (n pool : Nat) :
    (s.takeJoin c a n pool).rs.queue = s.rs.queue := by
  unfold State.takeJoin; (try dsimp only); (repeat' split) <;> first | with_reducible rfl | simp

@[simp] theorem takeStatus_queue (s : State) (n urgency : Nat) :
    (s.takeStatus n urgency).rs.queue = s.rs.queue := by
  unfold State.takeStatus; (try dsimp only); (repeat' split) <;> first | with_reducible rfl | simp

@[simp] theorem reassert_queue (s : State) (a : Arrival) :
    (s.reassert a).rs.queue = s.rs.queue := by
  unfold State.reassert; (try dsimp only); (repeat' split) <;> first | with_reducible rfl | simp

@[simp] theorem markDormant_queue (s : State) (c : Image) (n : Nat) :
    (s.markDormant c n).rs.queue = s.rs.queue := by
  unfold State.markDormant; (try dsimp only); (repeat' split) <;> first | with_reducible rfl | simp

@[simp] theorem ownDormant_queue (s : State) (c : Image) (a : Arrival) :
    (s.ownDormant c a).rs.queue = s.rs.queue := by
  unfold State.ownDormant; (try dsimp only); (repeat' split) <;> first | with_reducible rfl | simp

@[simp] theorem turnAway_queue (s : State)  :
    (s.turnAway).rs.queue = s.rs.queue := by
  unfold State.turnAway; (try dsimp only); (repeat' split) <;> first | with_reducible rfl | simp

@[simp] theorem clearFlags_queue (s : State) (mask : FlagSet) :
    (s.clearFlags mask).rs.queue = s.rs.queue := by
  unfold State.clearFlags; (try dsimp only); (repeat' split) <;> first | with_reducible rfl | simp

@[simp] theorem takeClear_queue (s : State) (c : Image) (mask : FlagSet) :
    (s.takeClear c mask).rs.queue = s.rs.queue := by
  unfold State.takeClear; (try dsimp only); (repeat' split) <;> first | with_reducible rfl | simp

@[simp] theorem deliverNews_queue (s : State) (carried : FlagSet) :
    (s.deliverNews carried).rs.queue = s.rs.queue := rfl

@[simp] theorem deliverNotice_queue (s : State) (f : Frame) :
    (s.deliverNotice f).rs.queue = s.rs.queue := by
  unfold State.deliverNotice; (try dsimp only); (repeat' split) <;> first | with_reducible rfl | simp

@[simp] theorem requeueJoin_queue (s : State) (c : Image) :
    (s.requeueJoin c).rs.queue = s.rs.queue := by
  unfold State.requeueJoin; (try dsimp only); (repeat' split) <;> first | with_reducible rfl | simp

@[simp] theorem judgeJoin_queue (s : State) (c : Image) :
    (s.judgeJoin c).rs.queue = s.rs.queue := by
  unfold State.judgeJoin; (try dsimp only); (repeat' split) <;> first | with_reducible rfl | simp

@[simp] theorem recover_queue (s : State) (c : Image) :
    (s.recover c).rs.queue = s.rs.queue := by
  unfold State.recover; (try dsimp only); (repeat' split) <;> first | with_reducible rfl | simp

end Sys2Proof.Machine
end

