-- ==== Sys2Proof/Laws/KeepsSpills.lean ====
section
/-! SUPPORT. The operations that leave the spill counter, the log and its counters as they were: one line each. -/

namespace Sys2Proof.Machine

open Sys2Proof

set_option linter.unusedTactic false
set_option linter.unnecessarySeqFocus false
set_option linter.unreachableTactic false

@[simp] theorem mapCl_spills (s : State) (f : ClState → ClState) :
    (s.mapCl f).spills = s.spills := rfl

@[simp] theorem mapLc_spills (s : State) (f : LcState → LcState) :
    (s.mapLc f).spills = s.spills := rfl

@[simp] theorem mapMu_spills (s : State) (f : MuState → MuState) :
    (s.mapMu f).spills = s.spills := rfl

@[simp] theorem mapSa_spills (s : State) (f : SaState → SaState) :
    (s.mapSa f).spills = s.spills := rfl

@[simp] theorem mapTs_spills (s : State) (f : TsState → TsState) :
    (s.mapTs f).spills = s.spills := rfl

@[simp] theorem mapRu_spills (s : State) (f : RuState → RuState) :
    (s.mapRu f).spills = s.spills := rfl

@[simp] theorem mapSrm_spills (s : State) (f : SrmState → SrmState) :
    (s.mapSrm f).spills = s.spills := rfl

@[simp] theorem mapRs_spills (s : State) (f : RsState → RsState)
    (h0 : ∀ x, (f x).log = x.log) (h1 : ∀ x, (f x).written = x.written) (h2 : ∀ x, (f x).discarded = x.discarded) (h3 : ∀ x, (f x).overwritten = x.overwritten) :
    (s.mapRs f).spills = s.spills := by
  simp [State.spills, h0, h1, h2, h3]

@[simp] theorem mapAc_spills (s : State) (f : AcState → AcState) :
    (s.mapAc f).spills = s.spills := rfl

@[simp] theorem settle_spills (c : Image) (b s : State) : (settle c b s).spills = s.spills := by
  simp [State.spills]

@[simp] theorem setSlot_spills (s : State) (id : SlotId) (x : Slot) :
    (s.setSlot id x).spills = s.spills := by
  unfold State.setSlot; (try dsimp only); (repeat' split) <;> first | with_reducible rfl | simp

@[simp] theorem writeSlot_spills (s : State) (id : SlotId) (c : Content) :
    (s.writeSlot id c).spills = s.spills := by
  unfold State.writeSlot; (try dsimp only); (repeat' split) <;> first | with_reducible rfl | simp

@[simp] theorem cancelSlot_spills (s : State) (id : SlotId) :
    (s.cancelSlot id).spills = s.spills := by
  unfold State.cancelSlot; (try dsimp only); (repeat' split) <;> first | with_reducible rfl | simp

@[simp] theorem pruneSlot_spills (s : State) (id : SlotId) (stations : List Nat) :
    (s.pruneSlot id stations).spills = s.spills := by
  unfold State.pruneSlot; (try dsimp only); (repeat' split) <;> first | with_reducible rfl | simp

@[simp] theorem mapEntry_spills (s : State) (n : Nat) (f : RosterEntry → RosterEntry) :
    (s.mapEntry n f).spills = s.spills := by
  unfold State.mapEntry; (try dsimp only); (repeat' split) <;> first | with_reducible rfl | simp

@[simp] theorem clearEntry_spills (s : State) (n : Nat) :
    (s.clearEntry n).spills = s.spills := by
  unfold State.clearEntry; (try dsimp only); (repeat' split) <;> first | with_reducible rfl | simp

@[simp] theorem reorderClaims_spills (s : State)  :
    (s.reorderClaims).spills = s.spills := by
  unfold State.reorderClaims; (try dsimp only); (repeat' split) <;> first | with_reducible rfl | simp

@[simp] theorem writeNotice_spills (s : State) (c : Image) (id : SlotId) (content : Content) :
    (s.writeNotice c id content).spills = s.spills := by
  unfold State.writeNotice; (try dsimp only); (repeat' split) <;> first | with_reducible rfl | simp

@[simp] theorem joinNews_spills (s : State) (f : Flag) :
    (s.joinNews f).spills = s.spills := rfl

@[simp] theorem latch_spills (s : State) (c : Image) (f : Flag) :
    (s.latch c f).spills = s.spills := by
  unfold State.latch; (try dsimp only); (repeat' split) <;> first | with_reducible rfl | simp

@[simp] theorem latchIfStanding_spills (s : State) (c : Image) (f : Flag) :
    (s.latchIfStanding c f).spills = s.spills := by
  unfold State.latchIfStanding; (try dsimp only); (repeat' split) <;> first | with_reducible rfl | simp

@[simp] theorem latchStanding_spills (s : State) (c : Image) :
    (s.latchStanding c).spills = s.spills := by
  unfold State.latchStanding; (try dsimp only); (repeat' split) <;> first | with_reducible rfl | simp

@[simp] theorem writeStatus_spills (s : State)  :
    (s.writeStatus).spills = s.spills := by
  unfold State.writeStatus; (try dsimp only); (repeat' split) <;> first | with_reducible rfl | simp

@[simp] theorem statusForChange_spills (s : State)  :
    (s.statusForChange).spills = s.spills := by
  unfold State.statusForChange; (try dsimp only); (repeat' split) <;> first | with_reducible rfl | simp

@[simp] theorem writeReplies_spills (s : State) (n : Nat) (ids : List SlotId) (rs : List Reply) :
    (s.writeReplies n ids rs).spills = s.spills := by
  induction ids generalizing s rs with
  | nil => cases rs <;> rfl
  | cons id ids ih =>
    cases rs with
    | nil => rfl
    | cons r rs => simp only [State.writeReplies, ih, writeSlot_spills]

@[simp] theorem serviceMove_spills (s : State) (c : Image) :
    (s.serviceMove c).spills = s.spills := by
  unfold State.serviceMove; (try dsimp only); (repeat' split) <;> first | with_reducible rfl | simp

@[simp] theorem serviceMoves_spills (s : State) (c : Image) (n : Nat) :
    (s.serviceMoves c n).spills = s.spills := by
  induction n generalizing s with
  | zero => rfl
  | succ n ih => simp only [State.serviceMoves, ih, serviceMove_spills]

@[simp] theorem runService_spills (s : State) (c : Image) :
    (s.runService c).spills = s.spills := by
  unfold State.runService; (try dsimp only); (repeat' split) <;> first | with_reducible rfl | simp

@[simp] theorem releaseShares_spills (s : State) (set : List Nat) :
    (s.releaseShares set).spills = s.spills := by
  unfold State.releaseShares; (try dsimp only); (repeat' split) <;> first | with_reducible rfl | simp

@[simp] theorem releaseAll_spills (s : State) (c : Image) :
    (s.releaseAll c).spills = s.spills := by
  unfold State.releaseAll; (try dsimp only); (repeat' split) <;> first | with_reducible rfl | simp

@[simp] theorem wantToClaim_spills (s : State) (c : Image) (urgency : Nat) :
    (s.wantToClaim c urgency).spills = s.spills := by
  unfold State.wantToClaim; (try dsimp only); (repeat' split) <;> first | with_reducible rfl | simp

@[simp] theorem requestWithdraw_spills (s : State) (c : Image) :
    (s.requestWithdraw c).spills = s.spills := by
  unfold State.requestWithdraw; (try dsimp only); (repeat' split) <;> first | with_reducible rfl | simp

@[simp] theorem dropOutgoing_spills (s : State) (set : List Nat) :
    (s.dropOutgoing set).spills = s.spills := by
  unfold State.dropOutgoing; (try dsimp only); (repeat' split) <;> first | with_reducible rfl | simp

@[simp] theorem voidShares_spills (s : State)  :
    (s.voidShares).spills = s.spills := by
  unfold State.voidShares; (try dsimp only); (repeat' split) <;> first | with_reducible rfl | simp

@[simp] theorem foundShares_spills (s : State) (c : Image) :
    (s.foundShares c).spills = s.spills := by
  unfold State.foundShares; (try dsimp only); (repeat' split) <;> first | with_reducible rfl | simp

@[simp] theorem returnWhere_spills (s : State) (p : Nat → Share → Bool) :
    (s.returnWhere p).spills = s.spills := by
  unfold State.returnWhere; (try dsimp only); (repeat' split) <;> first | with_reducible rfl | simp

@[simp] theorem dropClaim_spills (s : State) (n : Nat) :
    (s.dropClaim n).spills = s.spills := by
  unfold State.dropClaim; (try dsimp only); (repeat' split) <;> first | with_reducible rfl | simp

@[simp] theorem setUrgency_spills (s : State) (n urgency : Nat) :
    (s.setUrgency n urgency).spills = s.spills := by
  unfold State.setUrgency; (try dsimp only); (repeat' split) <;> first | with_reducible rfl | simp

@[simp] theorem claimShares_spills (s : State) (n count : Nat) :
    (s.claimShares n count).spills = s.spills := by
  unfold State.claimShares; (try dsimp only); (repeat' split) <;> first | with_reducible rfl | simp

@[simp] theorem takeClaim_spills (s : State) (n urgency field : Nat) :
    (s.takeClaim n urgency field).spills = s.spills := by
  unfold State.takeClaim; (try dsimp only); (repeat' split) <;> first | with_reducible rfl | simp

@[simp] theorem takeRelease_spills (s : State) (n : Nat) (set : List Nat) :
    (s.takeRelease n set).spills = s.spills := by
  unfold State.takeRelease; (try dsimp only); (repeat' split) <;> first | with_reducible rfl | simp

@[simp] theorem takeYield_spills (s : State) (n share : Nat) :
    (s.takeYield n share).spills = s.spills := by
  unfold State.takeYield; (try dsimp only); (repeat' split) <;> first | with_reducible rfl | simp

@[simp] theorem takeCurtail_spills (s : State) (c : Image) (q : Nat) :
    (s.takeCurtail c q).spills = s.spills := by
  unfold State.takeCurtail; (try dsimp only); (repeat' split) <;> first | with_reducible rfl | simp

@[simp] theorem strand_spills (s : State) (n : Nat) :
    (s.strand n).spills = s.spills := by
  unfold State.strand; (try dsimp only); (repeat' split) <;> first | with_reducible rfl | simp

@[simp] theorem reclaimShares_spills (s : State) (stations : List Nat) :
    (s.reclaimShares stations).spills = s.spills := by
  unfold State.reclaimShares; (try dsimp only); (repeat' split) <;> first | with_reducible rfl | simp

@[simp] theorem rejoinShares_spills (s : State) (n : Nat) :
    (s.rejoinShares n).spills = s.spills := by
  unfold State.rejoinShares; (try dsimp only); (repeat' split) <;> first | with_reducible rfl | simp

@[simp] theorem yieldIfNamed_spills (s : State) (c : Image) :
    (s.yieldIfNamed c).spills = s.spills := by
  unfold State.yieldIfNamed; (try dsimp only); (repeat' split) <;> first | with_reducible rfl | simp

@[simp] theorem curtailRelease_spills (s : State) (c : Image) (q : Nat) :
    (s.curtailRelease c q).spills = s.spills := by
  unfold State.curtailRelease; (try dsimp only); (repeat' split) <;> first | with_reducible rfl | simp

@[simp] theorem releaseArrivals_spills (s : State) (c : Image) :
    (s.releaseArrivals c).spills = s.spills := by
  unfold State.releaseArrivals; (try dsimp only); (repeat' split) <;> first | with_reducible rfl | simp

@[simp] theorem rejoinOutgoing_spills (s : State) (c : Image) :
    (s.rejoinOutgoing c).spills = s.spills := by
  unfold State.rejoinOutgoing; (try dsimp only); (repeat' split) <;> first | with_reducible rfl | simp

@[simp] theorem parkingRelease_spills (s : State) (c : Image) :
    (s.parkingRelease c).spills = s.spills := by
  unfold State.parkingRelease; (try dsimp only); (repeat' split) <;> first | with_reducible rfl | simp

@[simp] theorem drawFree_spills (s : State)  :
    (s.drawFree).spills = s.spills := by
  rfl

@[simp] theorem yieldAndPark_spills (s before : State) (c : Image) :
    (s.yieldAndPark before c).spills = s.spills := by
  unfold State.yieldAndPark; (try dsimp only); (repeat' split) <;> first | with_reducible rfl | simp

@[simp] theorem completeRelease_spills (s : State) (c : Image) :
    (s.completeRelease c).spills = s.spills := by
  unfold State.completeRelease; (try dsimp only); (repeat' split) <;> first | with_reducible rfl | simp

@[simp] theorem afterFrame_spills (s before : State) (c : Image) :
    (s.afterFrame before c).spills = s.spills := by
  unfold State.afterFrame; (try dsimp only); (repeat' split) <;> first | with_reducible rfl | simp

@[simp] theorem holdSample_spills (s : State) (chamber tank : Channel) :
    (s.holdSample chamber tank).spills = s.spills := by
  unfold State.holdSample; (try dsimp only); (repeat' split) <;> first | with_reducible rfl | simp

@[simp] theorem evaluateTideLock_spills (s : State) (c : Image) :
    (s.evaluateTideLock c).spills = s.spills := by
  unfold State.evaluateTideLock; (try dsimp only); (repeat' split) <;> first | with_reducible rfl | simp

@[simp] theorem recomputeUrgency_spills (s : State) (c : Image) :
    (s.recomputeUrgency c).spills = s.spills := by
  unfold State.recomputeUrgency; (try dsimp only); (repeat' split) <;> first | with_reducible rfl | simp

@[simp] theorem inletSample_spills (s : State) (c : Image) (chamber : Channel) :
    (s.inletSample c chamber).spills = s.spills := by
  unfold State.inletSample; (try dsimp only); (repeat' split) <;> first | with_reducible rfl | simp

@[simp] theorem setDrain_spills (s : State) (d : Drain) :
    (s.setDrain d).spills = s.spills := by
  unfold State.setDrain; (try dsimp only); (repeat' split) <;> first | with_reducible rfl | simp

@[simp] theorem stopDrain_spills (s : State)  :
    (s.stopDrain).spills = s.spills := by
  unfold State.stopDrain; (try dsimp only); (repeat' split) <;> first | with_reducible rfl | simp

@[simp] theorem askClaim_spills (s : State) (c : Image) :
    (s.askClaim c).spills = s.spills := by
  unfold State.askClaim; (try dsimp only); (repeat' split) <;> first | with_reducible rfl | simp

@[simp] theorem testClaim_spills (s : State) (c : Image) :
    (s.testClaim c).spills = s.spills := by
  unfold State.testClaim; (try dsimp only); (repeat' split) <;> first | with_reducible rfl | simp

@[simp] theorem withdrawIfOut_spills (s : State) (c : Image) :
    (s.withdrawIfOut c).spills = s.spills := by
  unfold State.withdrawIfOut; (try dsimp only); (repeat' split) <;> first | with_reducible rfl | simp

@[simp] theorem failedTank_spills (s : State) (c : Image) :
    (s.failedTank c).spills = s.spills := by
  unfold State.failedTank; (try dsimp only); (repeat' split) <;> first | with_reducible rfl | simp

@[simp] theorem park_spills (s : State) (c : Image) :
    (s.park c).spills = s.spills := by
  unfold State.park; (try dsimp only); (repeat' split) <;> first | with_reducible rfl | simp

@[simp] theorem drainSample_spills (s : State) (c : Image) :
    (s.drainSample c).spills = s.spills := by
  unfold State.drainSample; (try dsimp only); (repeat' split) <;> first | with_reducible rfl | simp

@[simp] theorem judgeParked_spills (s : State) (c : Image) :
    (s.judgeParked c).spills = s.spills := by
  unfold State.judgeParked; (try dsimp only); (repeat' split) <;> first | with_reducible rfl | simp

@[simp] theorem drainReport_spills (s : State) (c : Image) :
    (s.drainReport c).spills = s.spills := by
  unfold State.drainReport; (try dsimp only); (repeat' split) <;> first | with_reducible rfl | simp

@[simp] theorem drainStep_spills (s before : State) (c : Image) :
    (s.drainStep before c).spills = s.spills := by
  unfold State.drainStep; (try dsimp only); (repeat' split) <;> first | with_reducible rfl | simp

@[simp] theorem setValve_spills (s : State) (c : Image) :
    (s.setValve c).spills = s.spills := by
  unfold State.setValve; (try dsimp only); (repeat' split) <;> first | with_reducible rfl | simp

@[simp] theorem markWake_spills (s : State)  :
    (s.markWake).spills = s.spills := by
  unfold State.markWake; (try dsimp only); (repeat' split) <;> first | with_reducible rfl | simp

@[simp] theorem restDrain_spills (s : State) (c : Image) :
    (s.restDrain c).spills = s.spills := by
  unfold State.restDrain; (try dsimp only); (repeat' split) <;> first | with_reducible rfl | simp

@[simp] theorem enterDormant_spills (s : State) (c : Image) :
    (s.enterDormant c).spills = s.spills := by
  unfold State.enterDormant; (try dsimp only); (repeat' split) <;> first | with_reducible rfl | simp

@[simp] theorem enterWaking_spills (s : State) (c : Image) :
    (s.enterWaking c).spills = s.spills := by
  unfold State.enterWaking; (try dsimp only); (repeat' split) <;> first | with_reducible rfl | simp

@[simp] theorem wakeTrigger_spills (s : State) (c : Image) :
    (s.wakeTrigger c).spills = s.spills := by
  unfold State.wakeTrigger; (try dsimp only); (repeat' split) <;> first | with_reducible rfl | simp

@[simp] theorem watchDormancy_spills (s : State) (c : Image) :
    (s.watchDormancy c).spills = s.spills := by
  unfold State.watchDormancy; (try dsimp only); (repeat' split) <;> first | with_reducible rfl | simp

@[simp] theorem resetActivity_spills (s : State)  :
    (s.resetActivity).spills = s.spills := by
  unfold State.resetActivity; (try dsimp only); (repeat' split) <;> first | with_reducible rfl | simp

@[simp] theorem writeAlert_spills (s : State) (c : Image) :
    (s.writeAlert c).spills = s.spills := by
  unfold State.writeAlert; (try dsimp only); (repeat' split) <;> first | with_reducible rfl | simp

@[simp] theorem evaluateLocal_spills (s : State) (c : Image) :
    (s.evaluateLocal c).spills = s.spills := by
  unfold State.evaluateLocal; (try dsimp only); (repeat' split) <;> first | with_reducible rfl | simp

@[simp] theorem rewriteAlert_spills (s : State) (c : Image) :
    (s.rewriteAlert c).spills = s.spills := by
  unfold State.rewriteAlert; (try dsimp only); (repeat' split) <;> first | with_reducible rfl | simp

@[simp] theorem completeBucket_spills (s : State)  :
    (s.completeBucket).spills = s.spills := by
  unfold State.completeBucket; (try dsimp only); (repeat' split) <;> first | with_reducible rfl | simp

@[simp] theorem mapZone_spills (s : State) (zone : Nat) (f : ZoneEntry → ZoneEntry) :
    (s.mapZone zone f).spills = s.spills := by
  unfold State.mapZone; (try dsimp only); (repeat' split) <;> first | with_reducible rfl | simp

@[simp] theorem validateAlerts_spills (s : State)  :
    (s.validateAlerts).spills = s.spills := by
  unfold State.validateAlerts; (try dsimp only); (repeat' split) <;> first | with_reducible rfl | simp

@[simp] theorem voidAlerts_spills (s : State)  :
    (s.voidAlerts).spills = s.spills := by
  unfold State.voidAlerts; (try dsimp only); (repeat' split) <;> first | with_reducible rfl | simp

@[simp] theorem ageAlerts_spills (s : State)  :
    (s.ageAlerts).spills = s.spills := by
  unfold State.ageAlerts; (try dsimp only); (repeat' split) <;> first | with_reducible rfl | simp

@[simp] theorem ageWindow_spills (s : State)  :
    (s.ageWindow).spills = s.spills := by
  unfold State.ageWindow; (try dsimp only); (repeat' split) <;> first | with_reducible rfl | simp

@[simp] theorem controlCalm_spills (s : State) (c : Image) :
    (s.controlCalm c).spills = s.spills := by
  unfold State.controlCalm; (try dsimp only); (repeat' split) <;> first | with_reducible rfl | simp

@[simp] theorem emptySlot_spills (s : State) (c : Image) (id : SlotId) :
    (s.emptySlot c id).spills = s.spills := by
  unfold State.emptySlot; (try dsimp only); (repeat' split) <;> first | with_reducible rfl | simp

@[simp] theorem emptySlots_spills (s : State) (c : Image) (ids : List SlotId) :
    (s.emptySlots c ids).spills = s.spills := by
  exact foldl_keeps (fun x => x.spills) _ (fun t id => emptySlot_spills t c id) ids s

@[simp] theorem emptyAll_spills (s : State) (c : Image) :
    (s.emptyAll c).spills = s.spills := by
  unfold State.emptyAll; (try dsimp only); (repeat' split) <;> first | with_reducible rfl | simp

@[simp] theorem rewriteNotices_spills (s old : State)  :
    (s.rewriteNotices old).spills = s.spills := by
  refine foldl_keeps (fun x => x.spills) _ (fun t id => ?_) noticeSlots s
  try dsimp only
  split <;> simp

@[simp] theorem leaveTables_spills (s : State)  :
    (s.leaveTables).spills = s.spills := by
  unfold State.leaveTables; (try dsimp only); (repeat' split) <;> first | with_reducible rfl | simp

@[simp] theorem emptyQueue_spills (s : State)  :
    (s.emptyQueue).spills = s.spills := by
  unfold State.emptyQueue; (try dsimp only); (repeat' split) <;> first | with_reducible rfl | simp

@[simp] theorem setMembership_spills (s : State) (m : Membership) :
    (s.setMembership m).spills = s.spills := by
  unfold State.setMembership; (try dsimp only); (repeat' split) <;> first | with_reducible rfl | simp

@[simp] theorem enterFallback_spills (s : State) (c : Image) :
    (s.enterFallback c).spills = s.spills := by
  unfold State.enterFallback; (try dsimp only); (repeat' split) <;> first | with_reducible rfl | simp

@[simp] theorem enterIsolated_spills (s : State) (c : Image) :
    (s.enterIsolated c).spills = s.spills := by
  unfold State.enterIsolated; (try dsimp only); (repeat' split) <;> first | with_reducible rfl | simp

@[simp] theorem enterListening_spills (s : State) (c : Image) (hold : Bool) :
    (s.enterListening c hold).spills = s.spills := by
  unfold State.enterListening; (try dsimp only); (repeat' split) <;> first | with_reducible rfl | simp

@[simp] theorem takeRestart_spills (s : State) (c : Image) :
    (s.takeRestart c).spills = s.spills := by
  unfold State.takeRestart; (try dsimp only); (repeat' split) <;> first | with_reducible rfl | simp

@[simp] theorem discardLoad_spills (s : State)  :
    (s.discardLoad).spills = s.spills := by
  unfold State.discardLoad; (try dsimp only); (repeat' split) <;> first | with_reducible rfl | simp

@[simp] theorem spoilJoin_spills (s : State) (c : Image) :
    (s.spoilJoin c).spills = s.spills := by
  unfold State.spoilJoin; (try dsimp only); (repeat' split) <;> first | with_reducible rfl | simp

@[simp] theorem failJoin_spills (s : State) (c : Image) :
    (s.failJoin c).spills = s.spills := by
  unfold State.failJoin; (try dsimp only); (repeat' split) <;> first | with_reducible rfl | simp

@[simp] theorem isolateFor_spills (s : State) (c : Image) (f : Flag) :
    (s.isolateFor c f).spills = s.spills := by
  unfold State.isolateFor; (try dsimp only); (repeat' split) <;> first | with_reducible rfl | simp

@[simp] theorem enterLinked_spills (s : State) (c : Image) :
    (s.enterLinked c).spills = s.spills := by
  unfold State.enterLinked; (try dsimp only); (repeat' split) <;> first | with_reducible rfl | simp

@[simp] theorem found_spills (s : State) (c : Image) :
    (s.found c).spills = s.spills := by
  unfold State.found; (try dsimp only); (repeat' split) <;> first | with_reducible rfl | simp

@[simp] theorem linkLoaded_spills (s : State) (c : Image) :
    (s.linkLoaded c).spills = s.spills := by
  unfold State.linkLoaded; (try dsimp only); (repeat' split) <;> first | with_reducible rfl | simp

@[simp] theorem endLock_spills (s : State) (c : Image) :
    (s.endLock c).spills = s.spills := by
  unfold State.endLock; (try dsimp only); (repeat' split) <;> first | with_reducible rfl | simp

@[simp] theorem spoil_spills (s : State) (c : Image) :
    (s.spoil c).spills = s.spills := by
  unfold State.spoil; (try dsimp only); (repeat' split) <;> first | with_reducible rfl | simp

@[simp] theorem watchSilence_spills (s : State) (c : Image) :
    (s.watchSilence c).spills = s.spills := by
  unfold State.watchSilence; (try dsimp only); (repeat' split) <;> first | with_reducible rfl | simp

@[simp] theorem writeJoinIfDue_spills (s : State) (c : Image) :
    (s.writeJoinIfDue c).spills = s.spills := by
  unfold State.writeJoinIfDue; (try dsimp only); (repeat' split) <;> first | with_reducible rfl | simp

@[simp] theorem startFlight_spills (s : State) (c : Image) (id : SlotId) :
    (s.startFlight c id).spills = s.spills := by
  unfold State.startFlight; (try dsimp only); (repeat' split) <;> first | with_reducible rfl | simp

@[simp] theorem offerIfStillIdle_spills (s : State) (c : Image) (id : SlotId) :
    (s.offerIfStillIdle c id).spills = s.spills := by
  unfold State.offerIfStillIdle; (try dsimp only); (repeat' split) <;> first | with_reducible rfl | simp

@[simp] theorem offer_spills (s : State) (c : Image) (fresh : Bool) :
    (s.offer c fresh).spills = s.spills := by
  unfold State.offer; (try dsimp only); (repeat' split) <;> first | with_reducible rfl | simp

@[simp] theorem statusOnChange_spills (s before : State)  :
    (s.statusOnChange before).spills = s.spills := by
  unfold State.statusOnChange; (try dsimp only); (repeat' split) <;> first | with_reducible rfl | simp

@[simp] theorem endField_spills (s : State) (marks : Marks) :
    (s.endField marks).spills = s.spills := by
  unfold State.endField; (try dsimp only); (repeat' split) <;> first | with_reducible rfl | simp

@[simp] theorem reportEmptied_spills (s : State) (id : SlotId) :
    (s.reportEmptied id).spills = s.spills := by
  unfold State.reportEmptied; (try dsimp only); (repeat' split) <;> first | with_reducible rfl | simp

@[simp] theorem failFlight_spills (s : State)  :
    (s.failFlight).spills = s.spills := by
  unfold State.failFlight; (try dsimp only); (repeat' split) <;> first | with_reducible rfl | simp

@[simp] theorem bookkeep_spills (s : State) (a : Arrival) :
    (s.bookkeep a).spills = s.spills := by
  unfold State.bookkeep; (try dsimp only); (repeat' split) <;> first | with_reducible rfl | simp

@[simp] theorem hearEntry_spills (s : State) (c : Image) (n : Nat) :
    (s.hearEntry c n).spills = s.spills := by
  unfold State.hearEntry; (try dsimp only); (repeat' split) <;> first | with_reducible rfl | simp

@[simp] theorem hearSilence_spills (s : State) (c : Image) (a : Arrival) :
    (s.hearSilence c a).spills = s.spills := by
  unfold State.hearSilence; (try dsimp only); (repeat' split) <;> first | with_reducible rfl | simp

@[simp] theorem hearPopulated_spills (s : State) (f : Frame) :
    (s.hearPopulated f).spills = s.spills := by
  unfold State.hearPopulated; (try dsimp only); (repeat' split) <;> first | with_reducible rfl | simp

@[simp] theorem hear_spills (s : State) (c : Image) (a : Arrival) (f : Frame) :
    (s.hear c a f).spills = s.spills := by
  unfold State.hear; (try dsimp only); (repeat' split) <;> first | with_reducible rfl | simp

@[simp] theorem restartPresence_spills (s : State) (c : Image) (a : Arrival) :
    (s.restartPresence c a).spills = s.spills := by
  unfold State.restartPresence; (try dsimp only); (repeat' split) <;> first | with_reducible rfl | simp

@[simp] theorem concluded_spills (s : State) (c : Image) (f : Frame) :
    (s.concluded c f).spills = s.spills := by
  unfold State.concluded; (try dsimp only); (repeat' split) <;> first | with_reducible rfl | simp

@[simp] theorem heardFrame_spills (s : State) (c : Image) (f : Frame) :
    (s.heardFrame c f).spills = s.spills := by
  unfold State.heardFrame; (try dsimp only); (repeat' split) <;> first | with_reducible rfl | simp

@[simp] theorem ownerDone_spills (s : State) (c : Image) (a : Arrival) (f : Frame) :
    (s.ownerDone c a f).spills = s.spills := by
  unfold State.ownerDone; (try dsimp only); (repeat' split) <;> first | with_reducible rfl | simp

@[simp] theorem request_spills (s : State) (seconds : Nat) :
    (s.request seconds).spills = s.spills := by
  unfold State.request; (try dsimp only); (repeat' split) <;> first | with_reducible rfl | simp

@[simp] theorem goodLoad_spills (s : State) (c : Image) :
    (s.goodLoad c).spills = s.spills := by
  unfold State.goodLoad; (try dsimp only); (repeat' split) <;> first | with_reducible rfl | simp

@[simp] theorem badLoad_spills (s : State)  :
    (s.badLoad).spills = s.spills := by
  unfold State.badLoad; (try dsimp only); (repeat' split) <;> first | with_reducible rfl | simp

@[simp] theorem failedAttempt_spills (s : State)  :
    (s.failedAttempt).spills = s.spills := by
  unfold State.failedAttempt; (try dsimp only); (repeat' split) <;> first | with_reducible rfl | simp

@[simp] theorem readAttempt_spills (s : State) (read : ReadAttempt) :
    (s.readAttempt read).spills = s.spills := by
  unfold State.readAttempt; (try dsimp only); (repeat' split) <;> first | with_reducible rfl | simp

@[simp] theorem countPulse_spills (s : State) (c : Image) (time : Nat) :
    (s.countPulse c time).spills = s.spills := by
  unfold State.countPulse; (try dsimp only); (repeat' split) <;> first | with_reducible rfl | simp

@[simp] theorem timeTide_spills (s : State) (level : Tide) :
    (s.timeTide level).spills = s.spills := by
  unfold State.timeTide; (try dsimp only); (repeat' split) <;> first | with_reducible rfl | simp

@[simp] theorem keepValues_spills (s : State) (c : Image) (chamber tank : Channel) :
    (s.keepValues c chamber tank).spills = s.spills := by
  unfold State.keepValues; (try dsimp only); (repeat' split) <;> first | with_reducible rfl | simp

@[simp] theorem lineBusy_spills (s : State)  :
    (s.lineBusy).spills = s.spills := by
  unfold State.lineBusy; (try dsimp only); (repeat' split) <;> first | with_reducible rfl | simp

@[simp] theorem lineFault_spills (s : State) (c : Image) :
    (s.lineFault c).spills = s.spills := by
  unfold State.lineFault; (try dsimp only); (repeat' split) <;> first | with_reducible rfl | simp

@[simp] theorem abortOwn_spills (s : State) (c : Image) :
    (s.abortOwn c).spills = s.spills := by
  unfold State.abortOwn; (try dsimp only); (repeat' split) <;> first | with_reducible rfl | simp

@[simp] theorem busyOwn_spills (s : State)  :
    (s.busyOwn).spills = s.spills := by
  unfold State.busyOwn; (try dsimp only); (repeat' split) <;> first | with_reducible rfl | simp

@[simp] theorem hearBurst_spills (s : State) (c : Image) (segment : Nat) (f : Frame) :
    (s.hearBurst c segment f).spills = s.spills := by
  unfold State.hearBurst; (try dsimp only); (repeat' split) <;> first | with_reducible rfl | simp

@[simp] theorem enterLoading_spills (s : State) (payload : List Byte) :
    (s.enterLoading payload).spills = s.spills := by
  unfold State.enterLoading; (try dsimp only); (repeat' split) <;> first | with_reducible rfl | simp

@[simp] theorem takeSegment0_spills (s : State) (c : Image) (f : Frame) :
    (s.takeSegment0 c f).spills = s.spills := by
  unfold State.takeSegment0; (try dsimp only); (repeat' split) <;> first | with_reducible rfl | simp

@[simp] theorem loadClaims_spills (s : State) (claims : List Claim) :
    (s.loadClaims claims).spills = s.spills := by
  unfold State.loadClaims; (try dsimp only); (repeat' split) <;> first | with_reducible rfl | simp

@[simp] theorem loadSegment_spills (s : State) (c : Image) (segment : Nat) (payload : List Byte) :
    (s.loadSegment c segment payload).spills = s.spills := by
  unfold State.loadSegment; (try dsimp only); (repeat' split) <;> first | with_reducible rfl | simp

@[simp] theorem takeSegment_spills (s : State) (c : Image) (segment : Nat) (f : Frame) :
    (s.takeSegment c segment f).spills = s.spills := by
  unfold State.takeSegment; (try dsimp only); (repeat' split) <;> first | with_reducible rfl | simp

@[simp] theorem finalSegment_spills (s : State) (c : Image) (l : Lock) :
    (s.finalSegment c l).spills = s.spills := by
  unfold State.finalSegment; (try dsimp only); (repeat' split) <;> first | with_reducible rfl | simp

@[simp] theorem nextBurst_spills (s : State) (c : Image) (a : Arrival) (segment : Nat) (l : Lock) :
    (s.nextBurst c a segment l).spills = s.spills := by
  unfold State.nextBurst; (try dsimp only); (repeat' split) <;> first | with_reducible rfl | simp

@[simp] theorem burstAtLinked_spills (s : State) (c : Image) (a : Arrival) (segment : Nat) (f : Frame) :
    (s.burstAtLinked c a segment f).spills = s.spills := by
  unfold State.burstAtLinked; (try dsimp only); (repeat' split) <;> first | with_reducible rfl | simp

@[simp] theorem takeTable_spills (s : State) (c : Image) (a : Arrival) (segment : Nat) (f : Frame) :
    (s.takeTable c a segment f).spills = s.spills := by
  unfold State.takeTable; (try dsimp only); (repeat' split) <;> first | with_reducible rfl | simp

@[simp] theorem declareAbsent_spills (s : State) (c : Image) (n : Nat) :
    (s.declareAbsent c n).spills = s.spills := by
  unfold State.declareAbsent; (try dsimp only); (repeat' split) <;> first | with_reducible rfl | simp

@[simp] theorem takeAbsent_spills (s : State) (c : Image) (named : List Nat) :
    (s.takeAbsent c named).spills = s.spills := by
  unfold State.takeAbsent
  have h := foldl_keeps (fun x => x.spills) (fun t n => t.declareAbsent c n) (fun t n => by simp) (named.filter s.isLinked) s
  dsimp only at h ⊢
  split <;> simp [h]

@[simp] theorem takeReclaim_spills (s : State) (named : List Nat) :
    (s.takeReclaim named).spills = s.spills := by
  unfold State.takeReclaim
  have h := foldl_keeps (fun x => x.spills) (fun t n => t.clearEntry n) (fun t n => by simp) (named.filter fun n => decide (s.entryState n = .absent)) (s.reclaimShares (named.filter fun n => decide (s.entryState n = .absent)))
  dsimp only at h ⊢
  simp [h]

@[simp] theorem takeCurtailFrame_spills (s : State) (c : Image) (q : Nat) :
    (s.takeCurtailFrame c q).spills = s.spills := by
  unfold State.takeCurtailFrame; (try dsimp only); (repeat' split) <;> first | with_reducible rfl | simp

@[simp] theorem settleOutgoing_spills (s : State) (a : Arrival) (set : List Nat) :
    (s.settleOutgoing a set).spills = s.spills := by
  unfold State.settleOutgoing; (try dsimp only); (repeat' split) <;> first | with_reducible rfl | simp

@[simp] theorem lateWithdraw_spills (s : State) (c : Image) (a : Arrival) :
    (s.lateWithdraw c a).spills = s.spills := by
  unfold State.lateWithdraw; (try dsimp only); (repeat' split) <;> first | with_reducible rfl | simp

@[simp] theorem ownAlert_spills (s : State) (c : Image) (g : Grade) :
    (s.ownAlert c g).spills = s.spills := by
  unfold State.ownAlert; (try dsimp only); (repeat' split) <;> first | with_reducible rfl | simp

@[simp] theorem recordJoin_spills (s : State) (n : Nat) :
    (s.recordJoin n).spills = s.spills := by
  unfold State.recordJoin; (try dsimp only); (repeat' split) <;> first | with_reducible rfl | simp

@[simp] theorem enterJoining_spills (s : State) (c : Image) :
    (s.enterJoining c).spills = s.spills := by
  unfold State.enterJoining; (try dsimp only); (repeat' split) <;> first | with_reducible rfl | simp

@[simp] theorem hearJoin_spills (s : State) (n : Nat) :
    (s.hearJoin n).spills = s.spills := by
  unfold State.hearJoin; (try dsimp only); (repeat' split) <;> first | with_reducible rfl | simp

@[simp] theorem startBurst_spills (s : State) (c : Image) (l : Lock) :
    (s.startBurst c l).spills = s.spills := by
  unfold State.startBurst; (try dsimp only); (repeat' split) <;> first | with_reducible rfl | simp

@[simp] theorem markJoiner_spills (s : State) (c : Image) (n : Nat) :
    (s.markJoiner c n).spills = s.spills := by
  unfold State.markJoiner; (try dsimp only); (repeat' split) <;> first | with_reducible rfl | simp

@[simp] theorem beginLock_spills (s : State) (c : Image) (n pool : Nat) :
    (s.beginLock c n pool).spills = s.spills := by
  unfold State.beginLock; (try dsimp only); (repeat' split) <;> first | with_reducible rfl | simp

@[simp] theorem joinAtLinked_spills (s : State) (c : Image) (n pool : Nat) :
    (s.joinAtLinked c n pool).spills = s.spills := by
  unfold State.joinAtLinked; (try dsimp only); (repeat' split) <;> first | with_reducible rfl | simp

@[simp] theorem takeJoin_spills (s : State) (c : Image) (a : Arrival) (n pool : Nat) :
    (s.takeJoin c a n pool).spills = s.spills := by
  unfold State.takeJoin; (try dsimp only); (repeat' split) <;> first | with_reducible rfl | simp

@[simp] theorem takeStatus_spills (s : State) (n urgency : Nat) :
    (s.takeStatus n urgency).spills = s.spills := by
  unfold State.takeStatus; (try dsimp only); (repeat' split) <;> first | with_reducible rfl | simp

@[simp] theorem reassert_spills (s : State) (a : Arrival) :
    (s.reassert a).spills = s.spills := by
  unfold State.reassert; (try dsimp only); (repeat' split) <;> first | with_reducible rfl | simp

@[simp] theorem markDormant_spills (s : State) (c : Image) (n : Nat) :
    (s.markDormant c n).spills = s.spills := by
  unfold State.markDormant; (try dsimp only); (repeat' split) <;> first | with_reducible rfl | simp

@[simp] theorem ownDormant_spills (s : State) (c : Image) (a : Arrival) :
    (s.ownDormant c a).spills = s.spills := by
  unfold State.ownDormant; (try dsimp only); (repeat' split) <;> first | with_reducible rfl | simp

@[simp] theorem takeQuery_spills (s : State) (c : Image) (f : Frame) :
    (s.takeQuery c f).spills = s.spills := by
  unfold State.takeQuery; (try dsimp only); (repeat' split) <;> first | with_reducible rfl | simp

@[simp] theorem turnAway_spills (s : State)  :
    (s.turnAway).spills = s.spills := by
  unfold State.turnAway; (try dsimp only); (repeat' split) <;> first | with_reducible rfl | simp

@[simp] theorem clearFlags_spills (s : State) (mask : FlagSet) :
    (s.clearFlags mask).spills = s.spills := by
  unfold State.clearFlags; (try dsimp only); (repeat' split) <;> first | with_reducible rfl | simp

@[simp] theorem takeClear_spills (s : State) (c : Image) (mask : FlagSet) :
    (s.takeClear c mask).spills = s.spills := by
  unfold State.takeClear; (try dsimp only); (repeat' split) <;> first | with_reducible rfl | simp

@[simp] theorem requeueJoin_spills (s : State) (c : Image) :
    (s.requeueJoin c).spills = s.spills := by
  unfold State.requeueJoin; (try dsimp only); (repeat' split) <;> first | with_reducible rfl | simp

@[simp] theorem judgeJoin_spills (s : State) (c : Image) :
    (s.judgeJoin c).spills = s.spills := by
  unfold State.judgeJoin; (try dsimp only); (repeat' split) <;> first | with_reducible rfl | simp

@[simp] theorem recover_spills (s : State) (c : Image) :
    (s.recover c).spills = s.spills := by
  unfold State.recover; (try dsimp only); (repeat' split) <;> first | with_reducible rfl | simp

end Sys2Proof.Machine
end

