-- ==== Sys2Proof/Laws/KeepsTables.lean ====
section
/-! SUPPORT. The operations that leave the shared tables as they were: one line each. -/

namespace Sys2Proof.Machine

open Sys2Proof

set_option linter.unusedTactic false
set_option linter.unnecessarySeqFocus false
set_option linter.unreachableTactic false

@[simp] theorem mapCl_tables (s : State) (f : ClState → ClState) :
    (s.mapCl f).tables = s.tables := rfl

@[simp] theorem mapLc_tables (s : State) (f : LcState → LcState) :
    (s.mapLc f).tables = s.tables := rfl

@[simp] theorem mapMu_tables (s : State) (f : MuState → MuState) :
    (s.mapMu f).tables = s.tables := rfl

@[simp] theorem mapSa_tables (s : State) (f : SaState → SaState)
    (h0 : ∀ x, (f x).shares = x.shares) (h1 : ∀ x, (f x).curtail = x.curtail) (h2 : ∀ x, (f x).claims = x.claims) :
    (s.mapSa f).tables = s.tables := by
  simp [State.tables, h0, h1, h2]

@[simp] theorem mapTs_tables (s : State) (f : TsState → TsState) :
    (s.mapTs f).tables = s.tables := rfl

@[simp] theorem mapRu_tables (s : State) (f : RuState → RuState) :
    (s.mapRu f).tables = s.tables := rfl

@[simp] theorem mapSrm_tables (s : State) (f : SrmState → SrmState) :
    (s.mapSrm f).tables = s.tables := rfl

@[simp] theorem mapSc_tables (s : State) (f : ScState → ScState) :
    (s.mapSc f).tables = s.tables := rfl

@[simp] theorem mapRs_tables (s : State) (f : RsState → RsState) :
    (s.mapRs f).tables = s.tables := rfl

@[simp] theorem mapAc_tables (s : State) (f : AcState → AcState) :
    (s.mapAc f).tables = s.tables := rfl

@[simp] theorem settle_tables (c : Image) (b s : State) : (settle c b s).tables = s.tables := by
  simp [State.tables]

@[simp] theorem setSlot_tables (s : State) (id : SlotId) (x : Slot) :
    (s.setSlot id x).tables = s.tables := by
  unfold State.setSlot; (try dsimp only); (repeat' split) <;> first | with_reducible rfl | simp

@[simp] theorem writeSlot_tables (s : State) (id : SlotId) (c : Content) :
    (s.writeSlot id c).tables = s.tables := by
  unfold State.writeSlot; (try dsimp only); (repeat' split) <;> first | with_reducible rfl | simp

@[simp] theorem cancelSlot_tables (s : State) (id : SlotId) :
    (s.cancelSlot id).tables = s.tables := by
  unfold State.cancelSlot; (try dsimp only); (repeat' split) <;> first | with_reducible rfl | simp

@[simp] theorem pruneSlot_tables (s : State) (id : SlotId) (stations : List Nat) :
    (s.pruneSlot id stations).tables = s.tables := by
  unfold State.pruneSlot; (try dsimp only); (repeat' split) <;> first | with_reducible rfl | simp

@[simp] theorem mapEntry_tables (s : State) (n : Nat) (f : RosterEntry → RosterEntry) :
    (s.mapEntry n f).tables = s.tables := by
  unfold State.mapEntry; (try dsimp only); (repeat' split) <;> first | with_reducible rfl | simp

@[simp] theorem clearEntry_tables (s : State) (n : Nat) :
    (s.clearEntry n).tables = s.tables := by
  unfold State.clearEntry; (try dsimp only); (repeat' split) <;> first | with_reducible rfl | simp

@[simp] theorem writeNotice_tables (s : State) (c : Image) (id : SlotId) (content : Content) :
    (s.writeNotice c id content).tables = s.tables := by
  unfold State.writeNotice; (try dsimp only); (repeat' split) <;> first | with_reducible rfl | simp

@[simp] theorem joinNews_tables (s : State) (f : Flag) :
    (s.joinNews f).tables = s.tables := rfl

@[simp] theorem latch_tables (s : State) (c : Image) (f : Flag) :
    (s.latch c f).tables = s.tables := by
  unfold State.latch; (try dsimp only); (repeat' split) <;> first | with_reducible rfl | simp

@[simp] theorem latchIfStanding_tables (s : State) (c : Image) (f : Flag) :
    (s.latchIfStanding c f).tables = s.tables := by
  unfold State.latchIfStanding; (try dsimp only); (repeat' split) <;> first | with_reducible rfl | simp

@[simp] theorem latchStanding_tables (s : State) (c : Image) :
    (s.latchStanding c).tables = s.tables := by
  unfold State.latchStanding; (try dsimp only); (repeat' split) <;> first | with_reducible rfl | simp

@[simp] theorem writeStatus_tables (s : State)  :
    (s.writeStatus).tables = s.tables := by
  unfold State.writeStatus; (try dsimp only); (repeat' split) <;> first | with_reducible rfl | simp

@[simp] theorem statusForChange_tables (s : State)  :
    (s.statusForChange).tables = s.tables := by
  unfold State.statusForChange; (try dsimp only); (repeat' split) <;> first | with_reducible rfl | simp

@[simp] theorem writeRecord_tables (s : State) (c : Image) (r : SpillRecord) :
    (s.writeRecord c r).tables = s.tables := by
  unfold State.writeRecord; (try dsimp only); (repeat' split) <;> first | with_reducible rfl | simp

@[simp] theorem takeRecord_tables (s : State) (c : Image) (r : SpillRecord) :
    (s.takeRecord c r).tables = s.tables := by
  unfold State.takeRecord; (try dsimp only); (repeat' split) <;> first | with_reducible rfl | simp

@[simp] theorem acknowledge_tables (s : State) (c : Image) (sequence : Half) :
    (s.acknowledge c sequence).tables = s.tables := by
  unfold State.acknowledge; (try dsimp only); (repeat' split) <;> first | with_reducible rfl | simp

@[simp] theorem writeReplies_tables (s : State) (n : Nat) (ids : List SlotId) (rs : List Reply) :
    (s.writeReplies n ids rs).tables = s.tables := by
  induction ids generalizing s rs with
  | nil => cases rs <;> rfl
  | cons id ids ih =>
    cases rs with
    | nil => rfl
    | cons r rs => simp only [State.writeReplies, ih, writeSlot_tables]

@[simp] theorem serviceMove_tables (s : State) (c : Image) :
    (s.serviceMove c).tables = s.tables := by
  unfold State.serviceMove; (try dsimp only); (repeat' split) <;> first | with_reducible rfl | simp

@[simp] theorem serviceMoves_tables (s : State) (c : Image) (n : Nat) :
    (s.serviceMoves c n).tables = s.tables := by
  induction n generalizing s with
  | zero => rfl
  | succ n ih => simp only [State.serviceMoves, ih, serviceMove_tables]

@[simp] theorem runService_tables (s : State) (c : Image) :
    (s.runService c).tables = s.tables := by
  unfold State.runService; (try dsimp only); (repeat' split) <;> first | with_reducible rfl | simp

@[simp] theorem mapRecord_tables (s : State) (f : SpillRecord → SpillRecord) :
    (s.mapRecord f).tables = s.tables := by
  unfold State.mapRecord; (try dsimp only); (repeat' split) <;> first | with_reducible rfl | simp

@[simp] theorem openEpisode_tables (s : State) (c : Image) :
    (s.openEpisode c).tables = s.tables := by
  unfold State.openEpisode; (try dsimp only); (repeat' split) <;> first | with_reducible rfl | simp

@[simp] theorem closeEpisode_tables (s : State) (c : Image) :
    (s.closeEpisode c).tables = s.tables := by
  unfold State.closeEpisode; (try dsimp only); (repeat' split) <;> first | with_reducible rfl | simp

@[simp] theorem onsetSample_tables (s : State) (c : Image) (level : Nat) (suspect : Bool) :
    (s.onsetSample c level suspect).tables = s.tables := by
  unfold State.onsetSample; (try dsimp only); (repeat' split) <;> first | with_reducible rfl | simp

@[simp] theorem accrueSample_tables (s : State) (c : Image) (level : Nat) (suspect : Bool) :
    (s.accrueSample c level suspect).tables = s.tables := by
  unfold State.accrueSample; (try dsimp only); (repeat' split) <;> first | with_reducible rfl | simp

@[simp] theorem enterMergeWait_tables (s : State) (c : Image) :
    (s.enterMergeWait c).tables = s.tables := by
  unfold State.enterMergeWait; (try dsimp only); (repeat' split) <;> first | with_reducible rfl | simp

@[simp] theorem settleSample_tables (s : State) (c : Image) :
    (s.settleSample c).tables = s.tables := by
  unfold State.settleSample; (try dsimp only); (repeat' split) <;> first | with_reducible rfl | simp

@[simp] theorem spillingSample_tables (s : State) (c : Image) (level : Nat) (suspect : Bool) :
    (s.spillingSample c level suspect).tables = s.tables := by
  unfold State.spillingSample; (try dsimp only); (repeat' split) <;> first | with_reducible rfl | simp

@[simp] theorem nonSpillingSample_tables (s : State) (c : Image) (level : Nat) (suspect tideLocked : Bool) :
    (s.nonSpillingSample c level suspect tideLocked).tables = s.tables := by
  unfold State.nonSpillingSample; (try dsimp only); (repeat' split) <;> first | with_reducible rfl | simp

@[simp] theorem unknownSample_tables (s : State)  :
    (s.unknownSample).tables = s.tables := by
  unfold State.unknownSample; (try dsimp only); (repeat' split) <;> first | with_reducible rfl | simp

@[simp] theorem spillSample_tables (s : State) (c : Image) (chamber : Channel) :
    (s.spillSample c chamber).tables = s.tables := by
  unfold State.spillSample; (try dsimp only); (repeat' split) <;> first | with_reducible rfl | simp

@[simp] theorem stormFlag_tables (s : State)  :
    (s.stormFlag).tables = s.tables := by
  unfold State.stormFlag; (try dsimp only); (repeat' split) <;> first | with_reducible rfl | simp

@[simp] theorem cutEpisode_tables (s : State) (c : Image) :
    (s.cutEpisode c).tables = s.tables := by
  unfold State.cutEpisode; (try dsimp only); (repeat' split) <;> first | with_reducible rfl | simp

@[simp] theorem newPeriod_tables (s : State)  :
    (s.newPeriod).tables = s.tables := by
  unfold State.newPeriod; (try dsimp only); (repeat' split) <;> first | with_reducible rfl | simp

@[simp] theorem releaseShares_tables (s : State) (set : List Nat) :
    (s.releaseShares set).tables = s.tables := by
  unfold State.releaseShares; (try dsimp only); (repeat' split) <;> first | with_reducible rfl | simp

@[simp] theorem releaseAll_tables (s : State) (c : Image) :
    (s.releaseAll c).tables = s.tables := by
  unfold State.releaseAll; (try dsimp only); (repeat' split) <;> first | with_reducible rfl | simp

@[simp] theorem wantToClaim_tables (s : State) (c : Image) (urgency : Nat) :
    (s.wantToClaim c urgency).tables = s.tables := by
  unfold State.wantToClaim; (try dsimp only); (repeat' split) <;> first | with_reducible rfl | simp

@[simp] theorem requestWithdraw_tables (s : State) (c : Image) :
    (s.requestWithdraw c).tables = s.tables := by
  unfold State.requestWithdraw; (try dsimp only); (repeat' split) <;> first | with_reducible rfl | simp

@[simp] theorem dropOutgoing_tables (s : State) (set : List Nat) :
    (s.dropOutgoing set).tables = s.tables := by
  unfold State.dropOutgoing; (try dsimp only); (repeat' split) <;> first | with_reducible rfl | simp

@[simp] theorem yieldIfNamed_tables (s : State) (c : Image) :
    (s.yieldIfNamed c).tables = s.tables := by
  unfold State.yieldIfNamed; (try dsimp only); (repeat' split) <;> first | with_reducible rfl | simp

@[simp] theorem curtailRelease_tables (s : State) (c : Image) (q : Nat) :
    (s.curtailRelease c q).tables = s.tables := by
  unfold State.curtailRelease; (try dsimp only); (repeat' split) <;> first | with_reducible rfl | simp

@[simp] theorem releaseArrivals_tables (s : State) (c : Image) :
    (s.releaseArrivals c).tables = s.tables := by
  unfold State.releaseArrivals; (try dsimp only); (repeat' split) <;> first | with_reducible rfl | simp

@[simp] theorem rejoinOutgoing_tables (s : State) (c : Image) :
    (s.rejoinOutgoing c).tables = s.tables := by
  unfold State.rejoinOutgoing; (try dsimp only); (repeat' split) <;> first | with_reducible rfl | simp

@[simp] theorem parkingRelease_tables (s : State) (c : Image) :
    (s.parkingRelease c).tables = s.tables := by
  unfold State.parkingRelease; (try dsimp only); (repeat' split) <;> first | with_reducible rfl | simp

@[simp] theorem drawFree_tables (s : State)  :
    (s.drawFree).tables = s.tables := by
  rfl

@[simp] theorem yieldAndPark_tables (s before : State) (c : Image) :
    (s.yieldAndPark before c).tables = s.tables := by
  unfold State.yieldAndPark; (try dsimp only); (repeat' split) <;> first | with_reducible rfl | simp

@[simp] theorem completeRelease_tables (s : State) (c : Image) :
    (s.completeRelease c).tables = s.tables := by
  unfold State.completeRelease; (try dsimp only); (repeat' split) <;> first | with_reducible rfl | simp

@[simp] theorem afterFrame_tables (s before : State) (c : Image) :
    (s.afterFrame before c).tables = s.tables := by
  unfold State.afterFrame; (try dsimp only); (repeat' split) <;> first | with_reducible rfl | simp

@[simp] theorem holdSample_tables (s : State) (chamber tank : Channel) :
    (s.holdSample chamber tank).tables = s.tables := by
  unfold State.holdSample; (try dsimp only); (repeat' split) <;> first | with_reducible rfl | simp

@[simp] theorem evaluateTideLock_tables (s : State) (c : Image) :
    (s.evaluateTideLock c).tables = s.tables := by
  unfold State.evaluateTideLock; (try dsimp only); (repeat' split) <;> first | with_reducible rfl | simp

@[simp] theorem recomputeUrgency_tables (s : State) (c : Image) :
    (s.recomputeUrgency c).tables = s.tables := by
  unfold State.recomputeUrgency; (try dsimp only); (repeat' split) <;> first | with_reducible rfl | simp

@[simp] theorem inletSample_tables (s : State) (c : Image) (chamber : Channel) :
    (s.inletSample c chamber).tables = s.tables := by
  unfold State.inletSample; (try dsimp only); (repeat' split) <;> first | with_reducible rfl | simp

@[simp] theorem setDrain_tables (s : State) (d : Drain) :
    (s.setDrain d).tables = s.tables := by
  unfold State.setDrain; (try dsimp only); (repeat' split) <;> first | with_reducible rfl | simp

@[simp] theorem stopDrain_tables (s : State)  :
    (s.stopDrain).tables = s.tables := by
  unfold State.stopDrain; (try dsimp only); (repeat' split) <;> first | with_reducible rfl | simp

@[simp] theorem askClaim_tables (s : State) (c : Image) :
    (s.askClaim c).tables = s.tables := by
  unfold State.askClaim; (try dsimp only); (repeat' split) <;> first | with_reducible rfl | simp

@[simp] theorem testClaim_tables (s : State) (c : Image) :
    (s.testClaim c).tables = s.tables := by
  unfold State.testClaim; (try dsimp only); (repeat' split) <;> first | with_reducible rfl | simp

@[simp] theorem withdrawIfOut_tables (s : State) (c : Image) :
    (s.withdrawIfOut c).tables = s.tables := by
  unfold State.withdrawIfOut; (try dsimp only); (repeat' split) <;> first | with_reducible rfl | simp

@[simp] theorem failedTank_tables (s : State) (c : Image) :
    (s.failedTank c).tables = s.tables := by
  unfold State.failedTank; (try dsimp only); (repeat' split) <;> first | with_reducible rfl | simp

@[simp] theorem park_tables (s : State) (c : Image) :
    (s.park c).tables = s.tables := by
  unfold State.park; (try dsimp only); (repeat' split) <;> first | with_reducible rfl | simp

@[simp] theorem drainSample_tables (s : State) (c : Image) :
    (s.drainSample c).tables = s.tables := by
  unfold State.drainSample; (try dsimp only); (repeat' split) <;> first | with_reducible rfl | simp

@[simp] theorem judgeParked_tables (s : State) (c : Image) :
    (s.judgeParked c).tables = s.tables := by
  unfold State.judgeParked; (try dsimp only); (repeat' split) <;> first | with_reducible rfl | simp

@[simp] theorem drainReport_tables (s : State) (c : Image) :
    (s.drainReport c).tables = s.tables := by
  unfold State.drainReport; (try dsimp only); (repeat' split) <;> first | with_reducible rfl | simp

@[simp] theorem drainStep_tables (s before : State) (c : Image) :
    (s.drainStep before c).tables = s.tables := by
  unfold State.drainStep; (try dsimp only); (repeat' split) <;> first | with_reducible rfl | simp

@[simp] theorem setValve_tables (s : State) (c : Image) :
    (s.setValve c).tables = s.tables := by
  unfold State.setValve; (try dsimp only); (repeat' split) <;> first | with_reducible rfl | simp

@[simp] theorem markWake_tables (s : State)  :
    (s.markWake).tables = s.tables := by
  unfold State.markWake; (try dsimp only); (repeat' split) <;> first | with_reducible rfl | simp

@[simp] theorem restDrain_tables (s : State) (c : Image) :
    (s.restDrain c).tables = s.tables := by
  unfold State.restDrain; (try dsimp only); (repeat' split) <;> first | with_reducible rfl | simp

@[simp] theorem enterDormant_tables (s : State) (c : Image) :
    (s.enterDormant c).tables = s.tables := by
  unfold State.enterDormant; (try dsimp only); (repeat' split) <;> first | with_reducible rfl | simp

@[simp] theorem enterWaking_tables (s : State) (c : Image) :
    (s.enterWaking c).tables = s.tables := by
  unfold State.enterWaking; (try dsimp only); (repeat' split) <;> first | with_reducible rfl | simp

@[simp] theorem wakeTrigger_tables (s : State) (c : Image) :
    (s.wakeTrigger c).tables = s.tables := by
  unfold State.wakeTrigger; (try dsimp only); (repeat' split) <;> first | with_reducible rfl | simp

@[simp] theorem watchDormancy_tables (s : State) (c : Image) :
    (s.watchDormancy c).tables = s.tables := by
  unfold State.watchDormancy; (try dsimp only); (repeat' split) <;> first | with_reducible rfl | simp

@[simp] theorem resetActivity_tables (s : State)  :
    (s.resetActivity).tables = s.tables := by
  unfold State.resetActivity; (try dsimp only); (repeat' split) <;> first | with_reducible rfl | simp

@[simp] theorem writeAlert_tables (s : State) (c : Image) :
    (s.writeAlert c).tables = s.tables := by
  unfold State.writeAlert; (try dsimp only); (repeat' split) <;> first | with_reducible rfl | simp

@[simp] theorem evaluateLocal_tables (s : State) (c : Image) :
    (s.evaluateLocal c).tables = s.tables := by
  unfold State.evaluateLocal; (try dsimp only); (repeat' split) <;> first | with_reducible rfl | simp

@[simp] theorem rewriteAlert_tables (s : State) (c : Image) :
    (s.rewriteAlert c).tables = s.tables := by
  unfold State.rewriteAlert; (try dsimp only); (repeat' split) <;> first | with_reducible rfl | simp

@[simp] theorem completeBucket_tables (s : State)  :
    (s.completeBucket).tables = s.tables := by
  unfold State.completeBucket; (try dsimp only); (repeat' split) <;> first | with_reducible rfl | simp

@[simp] theorem mapZone_tables (s : State) (zone : Nat) (f : ZoneEntry → ZoneEntry) :
    (s.mapZone zone f).tables = s.tables := by
  unfold State.mapZone; (try dsimp only); (repeat' split) <;> first | with_reducible rfl | simp

@[simp] theorem validateAlerts_tables (s : State)  :
    (s.validateAlerts).tables = s.tables := by
  unfold State.validateAlerts; (try dsimp only); (repeat' split) <;> first | with_reducible rfl | simp

@[simp] theorem voidAlerts_tables (s : State)  :
    (s.voidAlerts).tables = s.tables := by
  unfold State.voidAlerts; (try dsimp only); (repeat' split) <;> first | with_reducible rfl | simp

@[simp] theorem ageAlerts_tables (s : State)  :
    (s.ageAlerts).tables = s.tables := by
  unfold State.ageAlerts; (try dsimp only); (repeat' split) <;> first | with_reducible rfl | simp

@[simp] theorem ageWindow_tables (s : State)  :
    (s.ageWindow).tables = s.tables := by
  unfold State.ageWindow; (try dsimp only); (repeat' split) <;> first | with_reducible rfl | simp

@[simp] theorem readinessEvent_tables (s : State) (c : Image) (g : Grade) (source : Option Nat) :
    (s.readinessEvent c g source).tables = s.tables := by
  unfold State.readinessEvent; (try dsimp only); (repeat' split) <;> first | with_reducible rfl | simp

@[simp] theorem alertEvent_tables (s : State) (c : Image) :
    (s.alertEvent c).tables = s.tables := by
  unfold State.alertEvent; (try dsimp only); (repeat' split) <;> first | with_reducible rfl | simp

@[simp] theorem controlCalm_tables (s : State) (c : Image) :
    (s.controlCalm c).tables = s.tables := by
  unfold State.controlCalm; (try dsimp only); (repeat' split) <;> first | with_reducible rfl | simp

@[simp] theorem emptySlot_tables (s : State) (c : Image) (id : SlotId) :
    (s.emptySlot c id).tables = s.tables := by
  unfold State.emptySlot; (try dsimp only); (repeat' split) <;> first | with_reducible rfl | simp

@[simp] theorem emptySlots_tables (s : State) (c : Image) (ids : List SlotId) :
    (s.emptySlots c ids).tables = s.tables := by
  exact foldl_keeps (fun x => x.tables) _ (fun t id => emptySlot_tables t c id) ids s

@[simp] theorem emptyAll_tables (s : State) (c : Image) :
    (s.emptyAll c).tables = s.tables := by
  unfold State.emptyAll; (try dsimp only); (repeat' split) <;> first | with_reducible rfl | simp

@[simp] theorem rewriteNotices_tables (s old : State)  :
    (s.rewriteNotices old).tables = s.tables := by
  refine foldl_keeps (fun x => x.tables) _ (fun t id => ?_) noticeSlots s
  try dsimp only
  split <;> simp

@[simp] theorem emptyQueue_tables (s : State)  :
    (s.emptyQueue).tables = s.tables := by
  unfold State.emptyQueue; (try dsimp only); (repeat' split) <;> first | with_reducible rfl | simp

@[simp] theorem setMembership_tables (s : State) (m : Membership) :
    (s.setMembership m).tables = s.tables := by
  unfold State.setMembership; (try dsimp only); (repeat' split) <;> first | with_reducible rfl | simp

@[simp] theorem enterListening_tables (s : State) (c : Image) (hold : Bool) :
    (s.enterListening c hold).tables = s.tables := by
  unfold State.enterListening; (try dsimp only); (repeat' split) <;> first | with_reducible rfl | simp

@[simp] theorem enterLinked_tables (s : State) (c : Image) :
    (s.enterLinked c).tables = s.tables := by
  unfold State.enterLinked; (try dsimp only); (repeat' split) <;> first | with_reducible rfl | simp

@[simp] theorem endLock_tables (s : State) (c : Image) :
    (s.endLock c).tables = s.tables := by
  unfold State.endLock; (try dsimp only); (repeat' split) <;> first | with_reducible rfl | simp

@[simp] theorem watchSilence_tables (s : State) (c : Image) :
    (s.watchSilence c).tables = s.tables := by
  unfold State.watchSilence; (try dsimp only); (repeat' split) <;> first | with_reducible rfl | simp

@[simp] theorem writeJoinIfDue_tables (s : State) (c : Image) :
    (s.writeJoinIfDue c).tables = s.tables := by
  unfold State.writeJoinIfDue; (try dsimp only); (repeat' split) <;> first | with_reducible rfl | simp

@[simp] theorem startFlight_tables (s : State) (c : Image) (id : SlotId) :
    (s.startFlight c id).tables = s.tables := by
  unfold State.startFlight; (try dsimp only); (repeat' split) <;> first | with_reducible rfl | simp

@[simp] theorem offerIfStillIdle_tables (s : State) (c : Image) (id : SlotId) :
    (s.offerIfStillIdle c id).tables = s.tables := by
  unfold State.offerIfStillIdle; (try dsimp only); (repeat' split) <;> first | with_reducible rfl | simp

@[simp] theorem offer_tables (s : State) (c : Image) (fresh : Bool) :
    (s.offer c fresh).tables = s.tables := by
  unfold State.offer; (try dsimp only); (repeat' split) <;> first | with_reducible rfl | simp

@[simp] theorem statusOnChange_tables (s before : State)  :
    (s.statusOnChange before).tables = s.tables := by
  unfold State.statusOnChange; (try dsimp only); (repeat' split) <;> first | with_reducible rfl | simp

@[simp] theorem endField_tables (s : State) (marks : Marks) :
    (s.endField marks).tables = s.tables := by
  unfold State.endField; (try dsimp only); (repeat' split) <;> first | with_reducible rfl | simp

@[simp] theorem reportEmptied_tables (s : State) (id : SlotId) :
    (s.reportEmptied id).tables = s.tables := by
  unfold State.reportEmptied; (try dsimp only); (repeat' split) <;> first | with_reducible rfl | simp

@[simp] theorem failFlight_tables (s : State)  :
    (s.failFlight).tables = s.tables := by
  unfold State.failFlight; (try dsimp only); (repeat' split) <;> first | with_reducible rfl | simp

@[simp] theorem bookkeep_tables (s : State) (a : Arrival) :
    (s.bookkeep a).tables = s.tables := by
  unfold State.bookkeep; (try dsimp only); (repeat' split) <;> first | with_reducible rfl | simp

@[simp] theorem hearEntry_tables (s : State) (c : Image) (n : Nat) :
    (s.hearEntry c n).tables = s.tables := by
  unfold State.hearEntry; (try dsimp only); (repeat' split) <;> first | with_reducible rfl | simp

@[simp] theorem hearSilence_tables (s : State) (c : Image) (a : Arrival) :
    (s.hearSilence c a).tables = s.tables := by
  unfold State.hearSilence; (try dsimp only); (repeat' split) <;> first | with_reducible rfl | simp

@[simp] theorem hearPopulated_tables (s : State) (f : Frame) :
    (s.hearPopulated f).tables = s.tables := by
  unfold State.hearPopulated; (try dsimp only); (repeat' split) <;> first | with_reducible rfl | simp

@[simp] theorem hear_tables (s : State) (c : Image) (a : Arrival) (f : Frame) :
    (s.hear c a f).tables = s.tables := by
  unfold State.hear; (try dsimp only); (repeat' split) <;> first | with_reducible rfl | simp

@[simp] theorem restartPresence_tables (s : State) (c : Image) (a : Arrival) :
    (s.restartPresence c a).tables = s.tables := by
  unfold State.restartPresence; (try dsimp only); (repeat' split) <;> first | with_reducible rfl | simp

@[simp] theorem concluded_tables (s : State) (c : Image) (f : Frame) :
    (s.concluded c f).tables = s.tables := by
  unfold State.concluded; (try dsimp only); (repeat' split) <;> first | with_reducible rfl | simp

@[simp] theorem heardFrame_tables (s : State) (c : Image) (f : Frame) :
    (s.heardFrame c f).tables = s.tables := by
  unfold State.heardFrame; (try dsimp only); (repeat' split) <;> first | with_reducible rfl | simp

@[simp] theorem cutAtPulse_tables (s : State)  :
    (s.cutAtPulse).tables = s.tables := by
  unfold State.cutAtPulse; (try dsimp only); (repeat' split) <;> first | with_reducible rfl | simp

@[simp] theorem request_tables (s : State) (seconds : Nat) :
    (s.request seconds).tables = s.tables := by
  unfold State.request; (try dsimp only); (repeat' split) <;> first | with_reducible rfl | simp

@[simp] theorem goodLoad_tables (s : State) (c : Image) :
    (s.goodLoad c).tables = s.tables := by
  unfold State.goodLoad; (try dsimp only); (repeat' split) <;> first | with_reducible rfl | simp

@[simp] theorem badLoad_tables (s : State)  :
    (s.badLoad).tables = s.tables := by
  unfold State.badLoad; (try dsimp only); (repeat' split) <;> first | with_reducible rfl | simp

@[simp] theorem failedAttempt_tables (s : State)  :
    (s.failedAttempt).tables = s.tables := by
  unfold State.failedAttempt; (try dsimp only); (repeat' split) <;> first | with_reducible rfl | simp

@[simp] theorem readAttempt_tables (s : State) (read : ReadAttempt) :
    (s.readAttempt read).tables = s.tables := by
  unfold State.readAttempt; (try dsimp only); (repeat' split) <;> first | with_reducible rfl | simp

@[simp] theorem localEvent_tables (s : State) (c : Image) :
    (s.localEvent c).tables = s.tables := by
  unfold State.localEvent; (try dsimp only); (repeat' split) <;> first | with_reducible rfl | simp

@[simp] theorem countPulse_tables (s : State) (c : Image) (time : Nat) :
    (s.countPulse c time).tables = s.tables := by
  unfold State.countPulse; (try dsimp only); (repeat' split) <;> first | with_reducible rfl | simp

@[simp] theorem timeTide_tables (s : State) (level : Tide) :
    (s.timeTide level).tables = s.tables := by
  unfold State.timeTide; (try dsimp only); (repeat' split) <;> first | with_reducible rfl | simp

@[simp] theorem keepValues_tables (s : State) (c : Image) (chamber tank : Channel) :
    (s.keepValues c chamber tank).tables = s.tables := by
  unfold State.keepValues; (try dsimp only); (repeat' split) <;> first | with_reducible rfl | simp

@[simp] theorem keepSample_tables (s : State) (c : Image) (chamber tank : Channel) :
    (s.keepSample c chamber tank).tables = s.tables := by
  unfold State.keepSample; (try dsimp only); (repeat' split) <;> first | with_reducible rfl | simp

@[simp] theorem makeSample_tables (s : State) (c : Image) (chamber tank : Channel) :
    (s.makeSample c chamber tank).tables = s.tables := by
  unfold State.makeSample; (try dsimp only); (repeat' split) <;> first | with_reducible rfl | simp

@[simp] theorem emptySample_tables (s : State) (c : Image) :
    (s.emptySample c).tables = s.tables := by
  unfold State.emptySample; (try dsimp only); (repeat' split) <;> first | with_reducible rfl | simp

@[simp] theorem lineBusy_tables (s : State)  :
    (s.lineBusy).tables = s.tables := by
  unfold State.lineBusy; (try dsimp only); (repeat' split) <;> first | with_reducible rfl | simp

@[simp] theorem busyOwn_tables (s : State)  :
    (s.busyOwn).tables = s.tables := by
  unfold State.busyOwn; (try dsimp only); (repeat' split) <;> first | with_reducible rfl | simp

@[simp] theorem hearBurst_tables (s : State) (c : Image) (segment : Nat) (f : Frame) :
    (s.hearBurst c segment f).tables = s.tables := by
  unfold State.hearBurst; (try dsimp only); (repeat' split) <;> first | with_reducible rfl | simp

@[simp] theorem finalSegment_tables (s : State) (c : Image) (l : Lock) :
    (s.finalSegment c l).tables = s.tables := by
  unfold State.finalSegment; (try dsimp only); (repeat' split) <;> first | with_reducible rfl | simp

@[simp] theorem nextBurst_tables (s : State) (c : Image) (a : Arrival) (segment : Nat) (l : Lock) :
    (s.nextBurst c a segment l).tables = s.tables := by
  unfold State.nextBurst; (try dsimp only); (repeat' split) <;> first | with_reducible rfl | simp

@[simp] theorem burstAtLinked_tables (s : State) (c : Image) (a : Arrival) (segment : Nat) (f : Frame) :
    (s.burstAtLinked c a segment f).tables = s.tables := by
  unfold State.burstAtLinked; (try dsimp only); (repeat' split) <;> first | with_reducible rfl | simp

@[simp] theorem settleOutgoing_tables (s : State) (a : Arrival) (set : List Nat) :
    (s.settleOutgoing a set).tables = s.tables := by
  unfold State.settleOutgoing; (try dsimp only); (repeat' split) <;> first | with_reducible rfl | simp

@[simp] theorem lateWithdraw_tables (s : State) (c : Image) (a : Arrival) :
    (s.lateWithdraw c a).tables = s.tables := by
  unfold State.lateWithdraw; (try dsimp only); (repeat' split) <;> first | with_reducible rfl | simp

@[simp] theorem ownAlert_tables (s : State) (c : Image) (g : Grade) :
    (s.ownAlert c g).tables = s.tables := by
  unfold State.ownAlert; (try dsimp only); (repeat' split) <;> first | with_reducible rfl | simp

@[simp] theorem heedAlert_tables (s : State) (c : Image) (g : Grade) :
    (s.heedAlert c g).tables = s.tables := by
  unfold State.heedAlert; (try dsimp only); (repeat' split) <;> first | with_reducible rfl | simp

@[simp] theorem takeAlert_tables (s : State) (c : Image) (a : Arrival) (origin zone : Nat) (g : Grade) :
    (s.takeAlert c a origin zone g).tables = s.tables := by
  unfold State.takeAlert; (try dsimp only); (repeat' split) <;> first | with_reducible rfl | simp

@[simp] theorem recordJoin_tables (s : State) (n : Nat) :
    (s.recordJoin n).tables = s.tables := by
  unfold State.recordJoin; (try dsimp only); (repeat' split) <;> first | with_reducible rfl | simp

@[simp] theorem enterJoining_tables (s : State) (c : Image) :
    (s.enterJoining c).tables = s.tables := by
  unfold State.enterJoining; (try dsimp only); (repeat' split) <;> first | with_reducible rfl | simp

@[simp] theorem hearJoin_tables (s : State) (n : Nat) :
    (s.hearJoin n).tables = s.tables := by
  unfold State.hearJoin; (try dsimp only); (repeat' split) <;> first | with_reducible rfl | simp

@[simp] theorem startBurst_tables (s : State) (c : Image) (l : Lock) :
    (s.startBurst c l).tables = s.tables := by
  unfold State.startBurst; (try dsimp only); (repeat' split) <;> first | with_reducible rfl | simp

@[simp] theorem reassert_tables (s : State) (a : Arrival) :
    (s.reassert a).tables = s.tables := by
  unfold State.reassert; (try dsimp only); (repeat' split) <;> first | with_reducible rfl | simp

@[simp] theorem markDormant_tables (s : State) (c : Image) (n : Nat) :
    (s.markDormant c n).tables = s.tables := by
  unfold State.markDormant; (try dsimp only); (repeat' split) <;> first | with_reducible rfl | simp

@[simp] theorem ownDormant_tables (s : State) (c : Image) (a : Arrival) :
    (s.ownDormant c a).tables = s.tables := by
  unfold State.ownDormant; (try dsimp only); (repeat' split) <;> first | with_reducible rfl | simp

@[simp] theorem takeQuery_tables (s : State) (c : Image) (f : Frame) :
    (s.takeQuery c f).tables = s.tables := by
  unfold State.takeQuery; (try dsimp only); (repeat' split) <;> first | with_reducible rfl | simp

@[simp] theorem turnAway_tables (s : State)  :
    (s.turnAway).tables = s.tables := by
  unfold State.turnAway; (try dsimp only); (repeat' split) <;> first | with_reducible rfl | simp

@[simp] theorem clearFlags_tables (s : State) (mask : FlagSet) :
    (s.clearFlags mask).tables = s.tables := by
  unfold State.clearFlags; (try dsimp only); (repeat' split) <;> first | with_reducible rfl | simp

@[simp] theorem takeClear_tables (s : State) (c : Image) (mask : FlagSet) :
    (s.takeClear c mask).tables = s.tables := by
  unfold State.takeClear; (try dsimp only); (repeat' split) <;> first | with_reducible rfl | simp

@[simp] theorem deliverNews_tables (s : State) (carried : FlagSet) :
    (s.deliverNews carried).tables = s.tables := rfl

@[simp] theorem deliverNotice_tables (s : State) (f : Frame) :
    (s.deliverNotice f).tables = s.tables := by
  unfold State.deliverNotice; (try dsimp only); (repeat' split) <;> first | with_reducible rfl | simp

@[simp] theorem requeueJoin_tables (s : State) (c : Image) :
    (s.requeueJoin c).tables = s.tables := by
  unfold State.requeueJoin; (try dsimp only); (repeat' split) <;> first | with_reducible rfl | simp

@[simp] theorem recover_tables (s : State) (c : Image) :
    (s.recover c).tables = s.tables := by
  unfold State.recover; (try dsimp only); (repeat' split) <;> first | with_reducible rfl | simp

end Sys2Proof.Machine
end

