-- ==== Sys2Proof/Laws/KeepsTank.lean ====
section
/-! SUPPORT. The operations that leave sampling, held values, tide and inlet as they were: one line each. -/

namespace Sys2Proof.Machine

open Sys2Proof

set_option linter.unusedTactic false
set_option linter.unnecessarySeqFocus false
set_option linter.unreachableTactic false

@[simp] theorem mapCl_tank (s : State) (f : ClState → ClState) :
    (s.mapCl f).tank = s.tank := rfl

@[simp] theorem mapLc_tank (s : State) (f : LcState → LcState) :
    (s.mapLc f).tank = s.tank := rfl

@[simp] theorem mapMu_tank (s : State) (f : MuState → MuState) :
    (s.mapMu f).tank = s.tank := rfl

@[simp] theorem mapSa_tank (s : State) (f : SaState → SaState) :
    (s.mapSa f).tank = s.tank := rfl

@[simp] theorem mapTs_tank (s : State) (f : TsState → TsState)
    (h0 : ∀ x, (f x).sampleTimer = x.sampleTimer) (h1 : ∀ x, (f x).window = x.window) (h2 : ∀ x, (f x).chamberLevel = x.chamberLevel) (h3 : ∀ x, (f x).chamberQuality = x.chamberQuality) (h4 : ∀ x, (f x).tankLevel = x.tankLevel) (h5 : ∀ x, (f x).tankQuality = x.tankQuality) (h6 : ∀ x, (f x).tide = x.tide) (h7 : ∀ x, (f x).tideStable = x.tideStable) (h8 : ∀ x, (f x).tideLock = x.tideLock) (h9 : ∀ x, (f x).inlet = x.inlet) :
    (s.mapTs f).tank = s.tank := by
  simp [State.tank, h0, h1, h2, h3, h4, h5, h6, h7, h8, h9]

@[simp] theorem mapRu_tank (s : State) (f : RuState → RuState) :
    (s.mapRu f).tank = s.tank := rfl

@[simp] theorem mapSrm_tank (s : State) (f : SrmState → SrmState) :
    (s.mapSrm f).tank = s.tank := rfl

@[simp] theorem mapSc_tank (s : State) (f : ScState → ScState) :
    (s.mapSc f).tank = s.tank := rfl

@[simp] theorem mapRs_tank (s : State) (f : RsState → RsState) :
    (s.mapRs f).tank = s.tank := rfl

@[simp] theorem mapAc_tank (s : State) (f : AcState → AcState) :
    (s.mapAc f).tank = s.tank := rfl

@[simp] theorem settle_tank (c : Image) (b s : State) : (settle c b s).tank = s.tank := by
  simp [State.tank]

@[simp] theorem setSlot_tank (s : State) (id : SlotId) (x : Slot) :
    (s.setSlot id x).tank = s.tank := by
  unfold State.setSlot; (try dsimp only); (repeat' split) <;> first | with_reducible rfl | simp

@[simp] theorem writeSlot_tank (s : State) (id : SlotId) (c : Content) :
    (s.writeSlot id c).tank = s.tank := by
  unfold State.writeSlot; (try dsimp only); (repeat' split) <;> first | with_reducible rfl | simp

@[simp] theorem cancelSlot_tank (s : State) (id : SlotId) :
    (s.cancelSlot id).tank = s.tank := by
  unfold State.cancelSlot; (try dsimp only); (repeat' split) <;> first | with_reducible rfl | simp

@[simp] theorem pruneSlot_tank (s : State) (id : SlotId) (stations : List Nat) :
    (s.pruneSlot id stations).tank = s.tank := by
  unfold State.pruneSlot; (try dsimp only); (repeat' split) <;> first | with_reducible rfl | simp

@[simp] theorem mapEntry_tank (s : State) (n : Nat) (f : RosterEntry → RosterEntry) :
    (s.mapEntry n f).tank = s.tank := by
  unfold State.mapEntry; (try dsimp only); (repeat' split) <;> first | with_reducible rfl | simp

@[simp] theorem clearEntry_tank (s : State) (n : Nat) :
    (s.clearEntry n).tank = s.tank := by
  unfold State.clearEntry; (try dsimp only); (repeat' split) <;> first | with_reducible rfl | simp

@[simp] theorem reorderClaims_tank (s : State)  :
    (s.reorderClaims).tank = s.tank := by
  unfold State.reorderClaims; (try dsimp only); (repeat' split) <;> first | with_reducible rfl | simp

@[simp] theorem writeNotice_tank (s : State) (c : Image) (id : SlotId) (content : Content) :
    (s.writeNotice c id content).tank = s.tank := by
  unfold State.writeNotice; (try dsimp only); (repeat' split) <;> first | with_reducible rfl | simp

@[simp] theorem joinNews_tank (s : State) (f : Flag) :
    (s.joinNews f).tank = s.tank := rfl

@[simp] theorem latch_tank (s : State) (c : Image) (f : Flag) :
    (s.latch c f).tank = s.tank := by
  unfold State.latch; (try dsimp only); (repeat' split) <;> first | with_reducible rfl | simp

@[simp] theorem latchIfStanding_tank (s : State) (c : Image) (f : Flag) :
    (s.latchIfStanding c f).tank = s.tank := by
  unfold State.latchIfStanding; (try dsimp only); (repeat' split) <;> first | with_reducible rfl | simp

@[simp] theorem latchStanding_tank (s : State) (c : Image) :
    (s.latchStanding c).tank = s.tank := by
  unfold State.latchStanding; (try dsimp only); (repeat' split) <;> first | with_reducible rfl | simp

@[simp] theorem writeStatus_tank (s : State)  :
    (s.writeStatus).tank = s.tank := by
  unfold State.writeStatus; (try dsimp only); (repeat' split) <;> first | with_reducible rfl | simp

@[simp] theorem statusForChange_tank (s : State)  :
    (s.statusForChange).tank = s.tank := by
  unfold State.statusForChange; (try dsimp only); (repeat' split) <;> first | with_reducible rfl | simp

@[simp] theorem writeRecord_tank (s : State) (c : Image) (r : SpillRecord) :
    (s.writeRecord c r).tank = s.tank := by
  unfold State.writeRecord; (try dsimp only); (repeat' split) <;> first | with_reducible rfl | simp

@[simp] theorem takeRecord_tank (s : State) (c : Image) (r : SpillRecord) :
    (s.takeRecord c r).tank = s.tank := by
  unfold State.takeRecord; (try dsimp only); (repeat' split) <;> first | with_reducible rfl | simp

@[simp] theorem acknowledge_tank (s : State) (c : Image) (sequence : Half) :
    (s.acknowledge c sequence).tank = s.tank := by
  unfold State.acknowledge; (try dsimp only); (repeat' split) <;> first | with_reducible rfl | simp

@[simp] theorem writeReplies_tank (s : State) (n : Nat) (ids : List SlotId) (rs : List Reply) :
    (s.writeReplies n ids rs).tank = s.tank := by
  induction ids generalizing s rs with
  | nil => cases rs <;> rfl
  | cons id ids ih =>
    cases rs with
    | nil => rfl
    | cons r rs => simp only [State.writeReplies, ih, writeSlot_tank]

@[simp] theorem serviceMove_tank (s : State) (c : Image) :
    (s.serviceMove c).tank = s.tank := by
  unfold State.serviceMove; (try dsimp only); (repeat' split) <;> first | with_reducible rfl | simp

@[simp] theorem serviceMoves_tank (s : State) (c : Image) (n : Nat) :
    (s.serviceMoves c n).tank = s.tank := by
  induction n generalizing s with
  | zero => rfl
  | succ n ih => simp only [State.serviceMoves, ih, serviceMove_tank]

@[simp] theorem runService_tank (s : State) (c : Image) :
    (s.runService c).tank = s.tank := by
  unfold State.runService; (try dsimp only); (repeat' split) <;> first | with_reducible rfl | simp

@[simp] theorem mapRecord_tank (s : State) (f : SpillRecord → SpillRecord) :
    (s.mapRecord f).tank = s.tank := by
  unfold State.mapRecord; (try dsimp only); (repeat' split) <;> first | with_reducible rfl | simp

@[simp] theorem openEpisode_tank (s : State) (c : Image) :
    (s.openEpisode c).tank = s.tank := by
  unfold State.openEpisode; (try dsimp only); (repeat' split) <;> first | with_reducible rfl | simp

@[simp] theorem closeEpisode_tank (s : State) (c : Image) :
    (s.closeEpisode c).tank = s.tank := by
  unfold State.closeEpisode; (try dsimp only); (repeat' split) <;> first | with_reducible rfl | simp

@[simp] theorem onsetSample_tank (s : State) (c : Image) (level : Nat) (suspect : Bool) :
    (s.onsetSample c level suspect).tank = s.tank := by
  unfold State.onsetSample; (try dsimp only); (repeat' split) <;> first | with_reducible rfl | simp

@[simp] theorem accrueSample_tank (s : State) (c : Image) (level : Nat) (suspect : Bool) :
    (s.accrueSample c level suspect).tank = s.tank := by
  unfold State.accrueSample; (try dsimp only); (repeat' split) <;> first | with_reducible rfl | simp

@[simp] theorem enterMergeWait_tank (s : State) (c : Image) :
    (s.enterMergeWait c).tank = s.tank := by
  unfold State.enterMergeWait; (try dsimp only); (repeat' split) <;> first | with_reducible rfl | simp

@[simp] theorem settleSample_tank (s : State) (c : Image) :
    (s.settleSample c).tank = s.tank := by
  unfold State.settleSample; (try dsimp only); (repeat' split) <;> first | with_reducible rfl | simp

@[simp] theorem spillingSample_tank (s : State) (c : Image) (level : Nat) (suspect : Bool) :
    (s.spillingSample c level suspect).tank = s.tank := by
  unfold State.spillingSample; (try dsimp only); (repeat' split) <;> first | with_reducible rfl | simp

@[simp] theorem nonSpillingSample_tank (s : State) (c : Image) (level : Nat) (suspect tideLocked : Bool) :
    (s.nonSpillingSample c level suspect tideLocked).tank = s.tank := by
  unfold State.nonSpillingSample; (try dsimp only); (repeat' split) <;> first | with_reducible rfl | simp

@[simp] theorem unknownSample_tank (s : State)  :
    (s.unknownSample).tank = s.tank := by
  unfold State.unknownSample; (try dsimp only); (repeat' split) <;> first | with_reducible rfl | simp

@[simp] theorem spillSample_tank (s : State) (c : Image) (chamber : Channel) :
    (s.spillSample c chamber).tank = s.tank := by
  unfold State.spillSample; (try dsimp only); (repeat' split) <;> first | with_reducible rfl | simp

@[simp] theorem stormFlag_tank (s : State)  :
    (s.stormFlag).tank = s.tank := by
  unfold State.stormFlag; (try dsimp only); (repeat' split) <;> first | with_reducible rfl | simp

@[simp] theorem cutEpisode_tank (s : State) (c : Image) :
    (s.cutEpisode c).tank = s.tank := by
  unfold State.cutEpisode; (try dsimp only); (repeat' split) <;> first | with_reducible rfl | simp

@[simp] theorem newPeriod_tank (s : State)  :
    (s.newPeriod).tank = s.tank := by
  unfold State.newPeriod; (try dsimp only); (repeat' split) <;> first | with_reducible rfl | simp

@[simp] theorem releaseShares_tank (s : State) (set : List Nat) :
    (s.releaseShares set).tank = s.tank := by
  unfold State.releaseShares; (try dsimp only); (repeat' split) <;> first | with_reducible rfl | simp

@[simp] theorem releaseAll_tank (s : State) (c : Image) :
    (s.releaseAll c).tank = s.tank := by
  unfold State.releaseAll; (try dsimp only); (repeat' split) <;> first | with_reducible rfl | simp

@[simp] theorem wantToClaim_tank (s : State) (c : Image) (urgency : Nat) :
    (s.wantToClaim c urgency).tank = s.tank := by
  unfold State.wantToClaim; (try dsimp only); (repeat' split) <;> first | with_reducible rfl | simp

@[simp] theorem requestWithdraw_tank (s : State) (c : Image) :
    (s.requestWithdraw c).tank = s.tank := by
  unfold State.requestWithdraw; (try dsimp only); (repeat' split) <;> first | with_reducible rfl | simp

@[simp] theorem dropOutgoing_tank (s : State) (set : List Nat) :
    (s.dropOutgoing set).tank = s.tank := by
  unfold State.dropOutgoing; (try dsimp only); (repeat' split) <;> first | with_reducible rfl | simp

@[simp] theorem voidShares_tank (s : State)  :
    (s.voidShares).tank = s.tank := by
  unfold State.voidShares; (try dsimp only); (repeat' split) <;> first | with_reducible rfl | simp

@[simp] theorem foundShares_tank (s : State) (c : Image) :
    (s.foundShares c).tank = s.tank := by
  unfold State.foundShares; (try dsimp only); (repeat' split) <;> first | with_reducible rfl | simp

@[simp] theorem returnWhere_tank (s : State) (p : Nat → Share → Bool) :
    (s.returnWhere p).tank = s.tank := by
  unfold State.returnWhere; (try dsimp only); (repeat' split) <;> first | with_reducible rfl | simp

@[simp] theorem dropClaim_tank (s : State) (n : Nat) :
    (s.dropClaim n).tank = s.tank := by
  unfold State.dropClaim; (try dsimp only); (repeat' split) <;> first | with_reducible rfl | simp

@[simp] theorem setUrgency_tank (s : State) (n urgency : Nat) :
    (s.setUrgency n urgency).tank = s.tank := by
  unfold State.setUrgency; (try dsimp only); (repeat' split) <;> first | with_reducible rfl | simp

@[simp] theorem claimShares_tank (s : State) (n count : Nat) :
    (s.claimShares n count).tank = s.tank := by
  unfold State.claimShares; (try dsimp only); (repeat' split) <;> first | with_reducible rfl | simp

@[simp] theorem takeClaim_tank (s : State) (n urgency field : Nat) :
    (s.takeClaim n urgency field).tank = s.tank := by
  unfold State.takeClaim; (try dsimp only); (repeat' split) <;> first | with_reducible rfl | simp

@[simp] theorem takeRelease_tank (s : State) (n : Nat) (set : List Nat) :
    (s.takeRelease n set).tank = s.tank := by
  unfold State.takeRelease; (try dsimp only); (repeat' split) <;> first | with_reducible rfl | simp

@[simp] theorem takeYield_tank (s : State) (n share : Nat) :
    (s.takeYield n share).tank = s.tank := by
  unfold State.takeYield; (try dsimp only); (repeat' split) <;> first | with_reducible rfl | simp

@[simp] theorem takeCurtail_tank (s : State) (c : Image) (q : Nat) :
    (s.takeCurtail c q).tank = s.tank := by
  unfold State.takeCurtail; (try dsimp only); (repeat' split) <;> first | with_reducible rfl | simp

@[simp] theorem strand_tank (s : State) (n : Nat) :
    (s.strand n).tank = s.tank := by
  unfold State.strand; (try dsimp only); (repeat' split) <;> first | with_reducible rfl | simp

@[simp] theorem reclaimShares_tank (s : State) (stations : List Nat) :
    (s.reclaimShares stations).tank = s.tank := by
  unfold State.reclaimShares; (try dsimp only); (repeat' split) <;> first | with_reducible rfl | simp

@[simp] theorem rejoinShares_tank (s : State) (n : Nat) :
    (s.rejoinShares n).tank = s.tank := by
  unfold State.rejoinShares; (try dsimp only); (repeat' split) <;> first | with_reducible rfl | simp

@[simp] theorem yieldIfNamed_tank (s : State) (c : Image) :
    (s.yieldIfNamed c).tank = s.tank := by
  unfold State.yieldIfNamed; (try dsimp only); (repeat' split) <;> first | with_reducible rfl | simp

@[simp] theorem curtailRelease_tank (s : State) (c : Image) (q : Nat) :
    (s.curtailRelease c q).tank = s.tank := by
  unfold State.curtailRelease; (try dsimp only); (repeat' split) <;> first | with_reducible rfl | simp

@[simp] theorem releaseArrivals_tank (s : State) (c : Image) :
    (s.releaseArrivals c).tank = s.tank := by
  unfold State.releaseArrivals; (try dsimp only); (repeat' split) <;> first | with_reducible rfl | simp

@[simp] theorem rejoinOutgoing_tank (s : State) (c : Image) :
    (s.rejoinOutgoing c).tank = s.tank := by
  unfold State.rejoinOutgoing; (try dsimp only); (repeat' split) <;> first | with_reducible rfl | simp

@[simp] theorem parkingRelease_tank (s : State) (c : Image) :
    (s.parkingRelease c).tank = s.tank := by
  unfold State.parkingRelease; (try dsimp only); (repeat' split) <;> first | with_reducible rfl | simp

@[simp] theorem drawFree_tank (s : State)  :
    (s.drawFree).tank = s.tank := by
  rfl

@[simp] theorem yieldAndPark_tank (s before : State) (c : Image) :
    (s.yieldAndPark before c).tank = s.tank := by
  unfold State.yieldAndPark; (try dsimp only); (repeat' split) <;> first | with_reducible rfl | simp

@[simp] theorem completeRelease_tank (s : State) (c : Image) :
    (s.completeRelease c).tank = s.tank := by
  unfold State.completeRelease State.tank
  split
  · simp only [mapTs_ts]
    split <;> rfl
  · rfl

@[simp] theorem afterFrame_tank (s before : State) (c : Image) :
    (s.afterFrame before c).tank = s.tank := by
  unfold State.afterFrame; (try dsimp only); (repeat' split) <;> first | with_reducible rfl | simp

@[simp] theorem recomputeUrgency_tank (s : State) (c : Image) :
    (s.recomputeUrgency c).tank = s.tank := by
  unfold State.recomputeUrgency; (try dsimp only); (repeat' split) <;> first | with_reducible rfl | simp

@[simp] theorem setDrain_tank (s : State) (d : Drain) :
    (s.setDrain d).tank = s.tank := by
  unfold State.setDrain; (try dsimp only); (repeat' split) <;> first | with_reducible rfl | simp

@[simp] theorem stopDrain_tank (s : State)  :
    (s.stopDrain).tank = s.tank := by
  unfold State.stopDrain; (try dsimp only); (repeat' split) <;> first | with_reducible rfl | simp

@[simp] theorem askClaim_tank (s : State) (c : Image) :
    (s.askClaim c).tank = s.tank := by
  unfold State.askClaim; (try dsimp only); (repeat' split) <;> first | with_reducible rfl | simp

@[simp] theorem testClaim_tank (s : State) (c : Image) :
    (s.testClaim c).tank = s.tank := by
  unfold State.testClaim; (try dsimp only); (repeat' split) <;> first | with_reducible rfl | simp

@[simp] theorem withdrawIfOut_tank (s : State) (c : Image) :
    (s.withdrawIfOut c).tank = s.tank := by
  unfold State.withdrawIfOut; (try dsimp only); (repeat' split) <;> first | with_reducible rfl | simp

@[simp] theorem failedTank_tank (s : State) (c : Image) :
    (s.failedTank c).tank = s.tank := by
  unfold State.failedTank; (try dsimp only); (repeat' split) <;> first | with_reducible rfl | simp

@[simp] theorem park_tank (s : State) (c : Image) :
    (s.park c).tank = s.tank := by
  unfold State.park; (try dsimp only); (repeat' split) <;> first | with_reducible rfl | simp

@[simp] theorem drainSample_tank (s : State) (c : Image) :
    (s.drainSample c).tank = s.tank := by
  unfold State.drainSample; (try dsimp only); (repeat' split) <;> first | with_reducible rfl | simp

@[simp] theorem judgeParked_tank (s : State) (c : Image) :
    (s.judgeParked c).tank = s.tank := by
  unfold State.judgeParked; (try dsimp only); (repeat' split) <;> first | with_reducible rfl | simp

@[simp] theorem drainReport_tank (s : State) (c : Image) :
    (s.drainReport c).tank = s.tank := by
  unfold State.drainReport; (try dsimp only); (repeat' split) <;> first | with_reducible rfl | simp

@[simp] theorem drainStep_tank (s before : State) (c : Image) :
    (s.drainStep before c).tank = s.tank := by
  unfold State.drainStep; (try dsimp only); (repeat' split) <;> first | with_reducible rfl | simp

@[simp] theorem setValve_tank (s : State) (c : Image) :
    (s.setValve c).tank = s.tank := by
  unfold State.setValve; (try dsimp only); (repeat' split) <;> first | with_reducible rfl | simp

@[simp] theorem markWake_tank (s : State)  :
    (s.markWake).tank = s.tank := by
  unfold State.markWake; (try dsimp only); (repeat' split) <;> first | with_reducible rfl | simp

@[simp] theorem watchDormancy_tank (s : State) (c : Image) :
    (s.watchDormancy c).tank = s.tank := by
  unfold State.watchDormancy; (try dsimp only); (repeat' split) <;> first | with_reducible rfl | simp

@[simp] theorem resetActivity_tank (s : State)  :
    (s.resetActivity).tank = s.tank := by
  unfold State.resetActivity; (try dsimp only); (repeat' split) <;> first | with_reducible rfl | simp

@[simp] theorem writeAlert_tank (s : State) (c : Image) :
    (s.writeAlert c).tank = s.tank := by
  unfold State.writeAlert; (try dsimp only); (repeat' split) <;> first | with_reducible rfl | simp

@[simp] theorem evaluateLocal_tank (s : State) (c : Image) :
    (s.evaluateLocal c).tank = s.tank := by
  unfold State.evaluateLocal; (try dsimp only); (repeat' split) <;> first | with_reducible rfl | simp

@[simp] theorem rewriteAlert_tank (s : State) (c : Image) :
    (s.rewriteAlert c).tank = s.tank := by
  unfold State.rewriteAlert; (try dsimp only); (repeat' split) <;> first | with_reducible rfl | simp

@[simp] theorem completeBucket_tank (s : State)  :
    (s.completeBucket).tank = s.tank := by
  unfold State.completeBucket; (try dsimp only); (repeat' split) <;> first | with_reducible rfl | simp

@[simp] theorem mapZone_tank (s : State) (zone : Nat) (f : ZoneEntry → ZoneEntry) :
    (s.mapZone zone f).tank = s.tank := by
  unfold State.mapZone; (try dsimp only); (repeat' split) <;> first | with_reducible rfl | simp

@[simp] theorem validateAlerts_tank (s : State)  :
    (s.validateAlerts).tank = s.tank := by
  unfold State.validateAlerts; (try dsimp only); (repeat' split) <;> first | with_reducible rfl | simp

@[simp] theorem voidAlerts_tank (s : State)  :
    (s.voidAlerts).tank = s.tank := by
  unfold State.voidAlerts; (try dsimp only); (repeat' split) <;> first | with_reducible rfl | simp

@[simp] theorem ageAlerts_tank (s : State)  :
    (s.ageAlerts).tank = s.tank := by
  unfold State.ageAlerts; (try dsimp only); (repeat' split) <;> first | with_reducible rfl | simp

@[simp] theorem ageWindow_tank (s : State)  :
    (s.ageWindow).tank = s.tank := by
  unfold State.ageWindow; (try dsimp only); (repeat' split) <;> first | with_reducible rfl | simp

@[simp] theorem controlCalm_tank (s : State) (c : Image) :
    (s.controlCalm c).tank = s.tank := by
  unfold State.controlCalm; (try dsimp only); (repeat' split) <;> first | with_reducible rfl | simp

@[simp] theorem emptySlot_tank (s : State) (c : Image) (id : SlotId) :
    (s.emptySlot c id).tank = s.tank := by
  unfold State.emptySlot; (try dsimp only); (repeat' split) <;> first | with_reducible rfl | simp

@[simp] theorem emptySlots_tank (s : State) (c : Image) (ids : List SlotId) :
    (s.emptySlots c ids).tank = s.tank := by
  exact foldl_keeps (fun x => x.tank) _ (fun t id => emptySlot_tank t c id) ids s

@[simp] theorem emptyAll_tank (s : State) (c : Image) :
    (s.emptyAll c).tank = s.tank := by
  unfold State.emptyAll; (try dsimp only); (repeat' split) <;> first | with_reducible rfl | simp

@[simp] theorem rewriteNotices_tank (s old : State)  :
    (s.rewriteNotices old).tank = s.tank := by
  refine foldl_keeps (fun x => x.tank) _ (fun t id => ?_) noticeSlots s
  try dsimp only
  split <;> simp

@[simp] theorem leaveTables_tank (s : State)  :
    (s.leaveTables).tank = s.tank := by
  unfold State.leaveTables; (try dsimp only); (repeat' split) <;> first | with_reducible rfl | simp

@[simp] theorem emptyQueue_tank (s : State)  :
    (s.emptyQueue).tank = s.tank := by
  unfold State.emptyQueue; (try dsimp only); (repeat' split) <;> first | with_reducible rfl | simp

@[simp] theorem setMembership_tank (s : State) (m : Membership) :
    (s.setMembership m).tank = s.tank := by
  unfold State.setMembership; (try dsimp only); (repeat' split) <;> first | with_reducible rfl | simp

@[simp] theorem enterFallback_tank (s : State) (c : Image) :
    (s.enterFallback c).tank = s.tank := by
  unfold State.enterFallback; (try dsimp only); (repeat' split) <;> first | with_reducible rfl | simp

@[simp] theorem enterIsolated_tank (s : State) (c : Image) :
    (s.enterIsolated c).tank = s.tank := by
  unfold State.enterIsolated; (try dsimp only); (repeat' split) <;> first | with_reducible rfl | simp

@[simp] theorem enterListening_tank (s : State) (c : Image) (hold : Bool) :
    (s.enterListening c hold).tank = s.tank := by
  unfold State.enterListening; (try dsimp only); (repeat' split) <;> first | with_reducible rfl | simp

@[simp] theorem takeRestart_tank (s : State) (c : Image) :
    (s.takeRestart c).tank = s.tank := by
  unfold State.takeRestart; (try dsimp only); (repeat' split) <;> first | with_reducible rfl | simp

@[simp] theorem discardLoad_tank (s : State)  :
    (s.discardLoad).tank = s.tank := by
  unfold State.discardLoad; (try dsimp only); (repeat' split) <;> first | with_reducible rfl | simp

@[simp] theorem spoilJoin_tank (s : State) (c : Image) :
    (s.spoilJoin c).tank = s.tank := by
  unfold State.spoilJoin; (try dsimp only); (repeat' split) <;> first | with_reducible rfl | simp

@[simp] theorem failJoin_tank (s : State) (c : Image) :
    (s.failJoin c).tank = s.tank := by
  unfold State.failJoin; (try dsimp only); (repeat' split) <;> first | with_reducible rfl | simp

@[simp] theorem isolateFor_tank (s : State) (c : Image) (f : Flag) :
    (s.isolateFor c f).tank = s.tank := by
  unfold State.isolateFor; (try dsimp only); (repeat' split) <;> first | with_reducible rfl | simp

@[simp] theorem enterLinked_tank (s : State) (c : Image) :
    (s.enterLinked c).tank = s.tank := by
  unfold State.enterLinked; (try dsimp only); (repeat' split) <;> first | with_reducible rfl | simp

@[simp] theorem found_tank (s : State) (c : Image) :
    (s.found c).tank = s.tank := by
  unfold State.found; (try dsimp only); (repeat' split) <;> first | with_reducible rfl | simp

@[simp] theorem linkLoaded_tank (s : State) (c : Image) :
    (s.linkLoaded c).tank = s.tank := by
  unfold State.linkLoaded; (try dsimp only); (repeat' split) <;> first | with_reducible rfl | simp

@[simp] theorem endLock_tank (s : State) (c : Image) :
    (s.endLock c).tank = s.tank := by
  unfold State.endLock; (try dsimp only); (repeat' split) <;> first | with_reducible rfl | simp

@[simp] theorem spoil_tank (s : State) (c : Image) :
    (s.spoil c).tank = s.tank := by
  unfold State.spoil; (try dsimp only); (repeat' split) <;> first | with_reducible rfl | simp

@[simp] theorem watchSilence_tank (s : State) (c : Image) :
    (s.watchSilence c).tank = s.tank := by
  unfold State.watchSilence; (try dsimp only); (repeat' split) <;> first | with_reducible rfl | simp

@[simp] theorem writeJoinIfDue_tank (s : State) (c : Image) :
    (s.writeJoinIfDue c).tank = s.tank := by
  unfold State.writeJoinIfDue; (try dsimp only); (repeat' split) <;> first | with_reducible rfl | simp

@[simp] theorem startFlight_tank (s : State) (c : Image) (id : SlotId) :
    (s.startFlight c id).tank = s.tank := by
  unfold State.startFlight; (try dsimp only); (repeat' split) <;> first | with_reducible rfl | simp

@[simp] theorem offerIfStillIdle_tank (s : State) (c : Image) (id : SlotId) :
    (s.offerIfStillIdle c id).tank = s.tank := by
  unfold State.offerIfStillIdle; (try dsimp only); (repeat' split) <;> first | with_reducible rfl | simp

@[simp] theorem offer_tank (s : State) (c : Image) (fresh : Bool) :
    (s.offer c fresh).tank = s.tank := by
  unfold State.offer; (try dsimp only); (repeat' split) <;> first | with_reducible rfl | simp

@[simp] theorem statusOnChange_tank (s before : State)  :
    (s.statusOnChange before).tank = s.tank := by
  unfold State.statusOnChange; (try dsimp only); (repeat' split) <;> first | with_reducible rfl | simp

@[simp] theorem endField_tank (s : State) (marks : Marks) :
    (s.endField marks).tank = s.tank := by
  unfold State.endField; (try dsimp only); (repeat' split) <;> first | with_reducible rfl | simp

@[simp] theorem reportEmptied_tank (s : State) (id : SlotId) :
    (s.reportEmptied id).tank = s.tank := by
  unfold State.reportEmptied; (try dsimp only); (repeat' split) <;> first | with_reducible rfl | simp

@[simp] theorem failFlight_tank (s : State)  :
    (s.failFlight).tank = s.tank := by
  unfold State.failFlight; (try dsimp only); (repeat' split) <;> first | with_reducible rfl | simp

@[simp] theorem bookkeep_tank (s : State) (a : Arrival) :
    (s.bookkeep a).tank = s.tank := by
  unfold State.bookkeep; (try dsimp only); (repeat' split) <;> first | with_reducible rfl | simp

@[simp] theorem hearEntry_tank (s : State) (c : Image) (n : Nat) :
    (s.hearEntry c n).tank = s.tank := by
  unfold State.hearEntry; (try dsimp only); (repeat' split) <;> first | with_reducible rfl | simp

@[simp] theorem hearSilence_tank (s : State) (c : Image) (a : Arrival) :
    (s.hearSilence c a).tank = s.tank := by
  unfold State.hearSilence; (try dsimp only); (repeat' split) <;> first | with_reducible rfl | simp

@[simp] theorem hearPopulated_tank (s : State) (f : Frame) :
    (s.hearPopulated f).tank = s.tank := by
  unfold State.hearPopulated; (try dsimp only); (repeat' split) <;> first | with_reducible rfl | simp

@[simp] theorem hear_tank (s : State) (c : Image) (a : Arrival) (f : Frame) :
    (s.hear c a f).tank = s.tank := by
  unfold State.hear; (try dsimp only); (repeat' split) <;> first | with_reducible rfl | simp

@[simp] theorem restartPresence_tank (s : State) (c : Image) (a : Arrival) :
    (s.restartPresence c a).tank = s.tank := by
  unfold State.restartPresence; (try dsimp only); (repeat' split) <;> first | with_reducible rfl | simp

@[simp] theorem concluded_tank (s : State) (c : Image) (f : Frame) :
    (s.concluded c f).tank = s.tank := by
  unfold State.concluded; (try dsimp only); (repeat' split) <;> first | with_reducible rfl | simp

@[simp] theorem heardFrame_tank (s : State) (c : Image) (f : Frame) :
    (s.heardFrame c f).tank = s.tank := by
  unfold State.heardFrame; (try dsimp only); (repeat' split) <;> first | with_reducible rfl | simp

@[simp] theorem ownerDone_tank (s : State) (c : Image) (a : Arrival) (f : Frame) :
    (s.ownerDone c a f).tank = s.tank := by
  unfold State.ownerDone; (try dsimp only); (repeat' split) <;> first | with_reducible rfl | simp

@[simp] theorem cutAtPulse_tank (s : State)  :
    (s.cutAtPulse).tank = s.tank := by
  unfold State.cutAtPulse; (try dsimp only); (repeat' split) <;> first | with_reducible rfl | simp

@[simp] theorem badLoad_tank (s : State)  :
    (s.badLoad).tank = s.tank := by
  unfold State.badLoad; (try dsimp only); (repeat' split) <;> first | with_reducible rfl | simp

@[simp] theorem failedAttempt_tank (s : State)  :
    (s.failedAttempt).tank = s.tank := by
  unfold State.failedAttempt; (try dsimp only); (repeat' split) <;> first | with_reducible rfl | simp

@[simp] theorem countPulse_tank (s : State) (c : Image) (time : Nat) :
    (s.countPulse c time).tank = s.tank := by
  unfold State.countPulse; (try dsimp only); (repeat' split) <;> first | with_reducible rfl | simp

@[simp] theorem lineBusy_tank (s : State)  :
    (s.lineBusy).tank = s.tank := by
  unfold State.lineBusy; (try dsimp only); (repeat' split) <;> first | with_reducible rfl | simp

@[simp] theorem lineFault_tank (s : State) (c : Image) :
    (s.lineFault c).tank = s.tank := by
  unfold State.lineFault; (try dsimp only); (repeat' split) <;> first | with_reducible rfl | simp

@[simp] theorem abortOwn_tank (s : State) (c : Image) :
    (s.abortOwn c).tank = s.tank := by
  unfold State.abortOwn; (try dsimp only); (repeat' split) <;> first | with_reducible rfl | simp

@[simp] theorem busyOwn_tank (s : State)  :
    (s.busyOwn).tank = s.tank := by
  unfold State.busyOwn; (try dsimp only); (repeat' split) <;> first | with_reducible rfl | simp

@[simp] theorem hearBurst_tank (s : State) (c : Image) (segment : Nat) (f : Frame) :
    (s.hearBurst c segment f).tank = s.tank := by
  unfold State.hearBurst; (try dsimp only); (repeat' split) <;> first | with_reducible rfl | simp

@[simp] theorem enterLoading_tank (s : State) (payload : List Byte) :
    (s.enterLoading payload).tank = s.tank := by
  unfold State.enterLoading; (try dsimp only); (repeat' split) <;> first | with_reducible rfl | simp

@[simp] theorem takeSegment0_tank (s : State) (c : Image) (f : Frame) :
    (s.takeSegment0 c f).tank = s.tank := by
  unfold State.takeSegment0; (try dsimp only); (repeat' split) <;> first | with_reducible rfl | simp

@[simp] theorem loadClaims_tank (s : State) (claims : List Claim) :
    (s.loadClaims claims).tank = s.tank := by
  unfold State.loadClaims; (try dsimp only); (repeat' split) <;> first | with_reducible rfl | simp

@[simp] theorem loadSegment_tank (s : State) (c : Image) (segment : Nat) (payload : List Byte) :
    (s.loadSegment c segment payload).tank = s.tank := by
  unfold State.loadSegment; (try dsimp only); (repeat' split) <;> first | with_reducible rfl | simp

@[simp] theorem takeSegment_tank (s : State) (c : Image) (segment : Nat) (f : Frame) :
    (s.takeSegment c segment f).tank = s.tank := by
  unfold State.takeSegment; (try dsimp only); (repeat' split) <;> first | with_reducible rfl | simp

@[simp] theorem finalSegment_tank (s : State) (c : Image) (l : Lock) :
    (s.finalSegment c l).tank = s.tank := by
  unfold State.finalSegment; (try dsimp only); (repeat' split) <;> first | with_reducible rfl | simp

@[simp] theorem nextBurst_tank (s : State) (c : Image) (a : Arrival) (segment : Nat) (l : Lock) :
    (s.nextBurst c a segment l).tank = s.tank := by
  unfold State.nextBurst; (try dsimp only); (repeat' split) <;> first | with_reducible rfl | simp

@[simp] theorem burstAtLinked_tank (s : State) (c : Image) (a : Arrival) (segment : Nat) (f : Frame) :
    (s.burstAtLinked c a segment f).tank = s.tank := by
  unfold State.burstAtLinked; (try dsimp only); (repeat' split) <;> first | with_reducible rfl | simp

@[simp] theorem takeTable_tank (s : State) (c : Image) (a : Arrival) (segment : Nat) (f : Frame) :
    (s.takeTable c a segment f).tank = s.tank := by
  unfold State.takeTable; (try dsimp only); (repeat' split) <;> first | with_reducible rfl | simp

@[simp] theorem declareAbsent_tank (s : State) (c : Image) (n : Nat) :
    (s.declareAbsent c n).tank = s.tank := by
  unfold State.declareAbsent; (try dsimp only); (repeat' split) <;> first | with_reducible rfl | simp

@[simp] theorem takeAbsent_tank (s : State) (c : Image) (named : List Nat) :
    (s.takeAbsent c named).tank = s.tank := by
  unfold State.takeAbsent
  have h := foldl_keeps (fun x => x.tank) (fun t n => t.declareAbsent c n) (fun t n => by simp) (named.filter s.isLinked) s
  dsimp only at h ⊢
  split <;> simp [h]

@[simp] theorem takeReclaim_tank (s : State) (named : List Nat) :
    (s.takeReclaim named).tank = s.tank := by
  unfold State.takeReclaim
  have h := foldl_keeps (fun x => x.tank) (fun t n => t.clearEntry n) (fun t n => by simp) (named.filter fun n => decide (s.entryState n = .absent)) (s.reclaimShares (named.filter fun n => decide (s.entryState n = .absent)))
  dsimp only at h ⊢
  simp [h]

@[simp] theorem takeCurtailFrame_tank (s : State) (c : Image) (q : Nat) :
    (s.takeCurtailFrame c q).tank = s.tank := by
  unfold State.takeCurtailFrame; (try dsimp only); (repeat' split) <;> first | with_reducible rfl | simp

@[simp] theorem settleOutgoing_tank (s : State) (a : Arrival) (set : List Nat) :
    (s.settleOutgoing a set).tank = s.tank := by
  unfold State.settleOutgoing; (try dsimp only); (repeat' split) <;> first | with_reducible rfl | simp

@[simp] theorem lateWithdraw_tank (s : State) (c : Image) (a : Arrival) :
    (s.lateWithdraw c a).tank = s.tank := by
  unfold State.lateWithdraw; (try dsimp only); (repeat' split) <;> first | with_reducible rfl | simp

@[simp] theorem ownAlert_tank (s : State) (c : Image) (g : Grade) :
    (s.ownAlert c g).tank = s.tank := by
  unfold State.ownAlert; (try dsimp only); (repeat' split) <;> first | with_reducible rfl | simp

@[simp] theorem recordJoin_tank (s : State) (n : Nat) :
    (s.recordJoin n).tank = s.tank := by
  unfold State.recordJoin; (try dsimp only); (repeat' split) <;> first | with_reducible rfl | simp

@[simp] theorem enterJoining_tank (s : State) (c : Image) :
    (s.enterJoining c).tank = s.tank := by
  unfold State.enterJoining; (try dsimp only); (repeat' split) <;> first | with_reducible rfl | simp

@[simp] theorem hearJoin_tank (s : State) (n : Nat) :
    (s.hearJoin n).tank = s.tank := by
  unfold State.hearJoin; (try dsimp only); (repeat' split) <;> first | with_reducible rfl | simp

@[simp] theorem markJoiner_tank (s : State) (c : Image) (n : Nat) :
    (s.markJoiner c n).tank = s.tank := by
  unfold State.markJoiner; (try dsimp only); (repeat' split) <;> first | with_reducible rfl | simp

@[simp] theorem takeStatus_tank (s : State) (n urgency : Nat) :
    (s.takeStatus n urgency).tank = s.tank := by
  unfold State.takeStatus; (try dsimp only); (repeat' split) <;> first | with_reducible rfl | simp

@[simp] theorem reassert_tank (s : State) (a : Arrival) :
    (s.reassert a).tank = s.tank := by
  unfold State.reassert; (try dsimp only); (repeat' split) <;> first | with_reducible rfl | simp

@[simp] theorem markDormant_tank (s : State) (c : Image) (n : Nat) :
    (s.markDormant c n).tank = s.tank := by
  unfold State.markDormant; (try dsimp only); (repeat' split) <;> first | with_reducible rfl | simp

@[simp] theorem turnAway_tank (s : State)  :
    (s.turnAway).tank = s.tank := by
  unfold State.turnAway; (try dsimp only); (repeat' split) <;> first | with_reducible rfl | simp

@[simp] theorem clearFlags_tank (s : State) (mask : FlagSet) :
    (s.clearFlags mask).tank = s.tank := by
  unfold State.clearFlags; (try dsimp only); (repeat' split) <;> first | with_reducible rfl | simp

@[simp] theorem takeClear_tank (s : State) (c : Image) (mask : FlagSet) :
    (s.takeClear c mask).tank = s.tank := by
  unfold State.takeClear; (try dsimp only); (repeat' split) <;> first | with_reducible rfl | simp

@[simp] theorem deliverNews_tank (s : State) (carried : FlagSet) :
    (s.deliverNews carried).tank = s.tank := rfl

@[simp] theorem deliverNotice_tank (s : State) (f : Frame) :
    (s.deliverNotice f).tank = s.tank := by
  unfold State.deliverNotice; (try dsimp only); (repeat' split) <;> first | with_reducible rfl | simp

@[simp] theorem requeueJoin_tank (s : State) (c : Image) :
    (s.requeueJoin c).tank = s.tank := by
  unfold State.requeueJoin; (try dsimp only); (repeat' split) <;> first | with_reducible rfl | simp

@[simp] theorem judgeJoin_tank (s : State) (c : Image) :
    (s.judgeJoin c).tank = s.tank := by
  unfold State.judgeJoin; (try dsimp only); (repeat' split) <;> first | with_reducible rfl | simp

end Sys2Proof.Machine
end

