-- ==== Sys2Proof/Laws/KeepsWeather.lean ====
section
/-! SUPPORT. The operations that leave the rain unit and the readiness state as they were: one line each. -/

namespace Sys2Proof.Machine

open Sys2Proof

set_option linter.unusedTactic false
set_option linter.unnecessarySeqFocus false
set_option linter.unreachableTactic false

@[simp] theorem mapCl_weather (s : State) (f : ClState → ClState) :
    (s.mapCl f).weather = s.weather := rfl

@[simp] theorem mapLc_weather (s : State) (f : LcState → LcState) :
    (s.mapLc f).weather = s.weather := rfl

@[simp] theorem mapMu_weather (s : State) (f : MuState → MuState) :
    (s.mapMu f).weather = s.weather := rfl

@[simp] theorem mapSa_weather (s : State) (f : SaState → SaState) :
    (s.mapSa f).weather = s.weather := rfl

@[simp] theorem mapTs_weather (s : State) (f : TsState → TsState) :
    (s.mapTs f).weather = s.weather := rfl

@[simp] theorem mapSrm_weather (s : State) (f : SrmState → SrmState)
    (h0 : ∀ x, (f x).readiness = x.readiness) (h1 : ∀ x, (f x).stepWindow = x.stepWindow) (h2 : ∀ x, (f x).stepFresh = x.stepFresh)
    (h3 : ∀ x, (f x).trigger = x.trigger) :
    (s.mapSrm f).weather = s.weather := by
  simp [State.weather, h0, h1, h2, h3]

@[simp] theorem mapSc_weather (s : State) (f : ScState → ScState) :
    (s.mapSc f).weather = s.weather := rfl

@[simp] theorem mapRs_weather (s : State) (f : RsState → RsState) :
    (s.mapRs f).weather = s.weather := rfl

@[simp] theorem mapAc_weather (s : State) (f : AcState → AcState) :
    (s.mapAc f).weather = s.weather := rfl

@[simp] theorem settle_weather (c : Image) (b s : State) : (settle c b s).weather = s.weather := by
  simp [State.weather]

@[simp] theorem setSlot_weather (s : State) (id : SlotId) (x : Slot) :
    (s.setSlot id x).weather = s.weather := by
  unfold State.setSlot; (try dsimp only); (repeat' split) <;> first | with_reducible rfl | simp

@[simp] theorem writeSlot_weather (s : State) (id : SlotId) (c : Content) :
    (s.writeSlot id c).weather = s.weather := by
  unfold State.writeSlot; (try dsimp only); (repeat' split) <;> first | with_reducible rfl | simp

@[simp] theorem cancelSlot_weather (s : State) (id : SlotId) :
    (s.cancelSlot id).weather = s.weather := by
  unfold State.cancelSlot; (try dsimp only); (repeat' split) <;> first | with_reducible rfl | simp

@[simp] theorem pruneSlot_weather (s : State) (id : SlotId) (stations : List Nat) :
    (s.pruneSlot id stations).weather = s.weather := by
  unfold State.pruneSlot; (try dsimp only); (repeat' split) <;> first | with_reducible rfl | simp

@[simp] theorem mapEntry_weather (s : State) (n : Nat) (f : RosterEntry → RosterEntry) :
    (s.mapEntry n f).weather = s.weather := by
  unfold State.mapEntry; (try dsimp only); (repeat' split) <;> first | with_reducible rfl | simp

@[simp] theorem clearEntry_weather (s : State) (n : Nat) :
    (s.clearEntry n).weather = s.weather := by
  unfold State.clearEntry; (try dsimp only); (repeat' split) <;> first | with_reducible rfl | simp

@[simp] theorem reorderClaims_weather (s : State)  :
    (s.reorderClaims).weather = s.weather := by
  unfold State.reorderClaims; (try dsimp only); (repeat' split) <;> first | with_reducible rfl | simp

@[simp] theorem writeNotice_weather (s : State) (c : Image) (id : SlotId) (content : Content) :
    (s.writeNotice c id content).weather = s.weather := by
  unfold State.writeNotice; (try dsimp only); (repeat' split) <;> first | with_reducible rfl | simp

@[simp] theorem joinNews_weather (s : State) (f : Flag) :
    (s.joinNews f).weather = s.weather := rfl

@[simp] theorem latch_weather (s : State) (c : Image) (f : Flag) :
    (s.latch c f).weather = s.weather := by
  unfold State.latch; (try dsimp only); (repeat' split) <;> first | with_reducible rfl | simp

@[simp] theorem latchIfStanding_weather (s : State) (c : Image) (f : Flag) :
    (s.latchIfStanding c f).weather = s.weather := by
  unfold State.latchIfStanding; (try dsimp only); (repeat' split) <;> first | with_reducible rfl | simp

@[simp] theorem latchStanding_weather (s : State) (c : Image) :
    (s.latchStanding c).weather = s.weather := by
  unfold State.latchStanding; (try dsimp only); (repeat' split) <;> first | with_reducible rfl | simp

@[simp] theorem writeStatus_weather (s : State)  :
    (s.writeStatus).weather = s.weather := by
  unfold State.writeStatus; (try dsimp only); (repeat' split) <;> first | with_reducible rfl | simp

@[simp] theorem statusForChange_weather (s : State)  :
    (s.statusForChange).weather = s.weather := by
  unfold State.statusForChange; (try dsimp only); (repeat' split) <;> first | with_reducible rfl | simp

@[simp] theorem writeRecord_weather (s : State) (c : Image) (r : SpillRecord) :
    (s.writeRecord c r).weather = s.weather := by
  unfold State.writeRecord; (try dsimp only); (repeat' split) <;> first | with_reducible rfl | simp

@[simp] theorem takeRecord_weather (s : State) (c : Image) (r : SpillRecord) :
    (s.takeRecord c r).weather = s.weather := by
  unfold State.takeRecord; (try dsimp only); (repeat' split) <;> first | with_reducible rfl | simp

@[simp] theorem acknowledge_weather (s : State) (c : Image) (sequence : Half) :
    (s.acknowledge c sequence).weather = s.weather := by
  unfold State.acknowledge; (try dsimp only); (repeat' split) <;> first | with_reducible rfl | simp

@[simp] theorem writeReplies_weather (s : State) (n : Nat) (ids : List SlotId) (rs : List Reply) :
    (s.writeReplies n ids rs).weather = s.weather := by
  induction ids generalizing s rs with
  | nil => cases rs <;> rfl
  | cons id ids ih =>
    cases rs with
    | nil => rfl
    | cons r rs => simp only [State.writeReplies, ih, writeSlot_weather]

@[simp] theorem serviceMove_weather (s : State) (c : Image) :
    (s.serviceMove c).weather = s.weather := by
  unfold State.serviceMove; (try dsimp only); (repeat' split) <;> first | with_reducible rfl | simp

@[simp] theorem serviceMoves_weather (s : State) (c : Image) (n : Nat) :
    (s.serviceMoves c n).weather = s.weather := by
  induction n generalizing s with
  | zero => rfl
  | succ n ih => simp only [State.serviceMoves, ih, serviceMove_weather]

@[simp] theorem runService_weather (s : State) (c : Image) :
    (s.runService c).weather = s.weather := by
  unfold State.runService; (try dsimp only); (repeat' split) <;> first | with_reducible rfl | simp

@[simp] theorem mapRecord_weather (s : State) (f : SpillRecord → SpillRecord) :
    (s.mapRecord f).weather = s.weather := by
  unfold State.mapRecord; (try dsimp only); (repeat' split) <;> first | with_reducible rfl | simp

@[simp] theorem openEpisode_weather (s : State) (c : Image) :
    (s.openEpisode c).weather = s.weather := by
  unfold State.openEpisode; (try dsimp only); (repeat' split) <;> first | with_reducible rfl | simp

@[simp] theorem closeEpisode_weather (s : State) (c : Image) :
    (s.closeEpisode c).weather = s.weather := by
  unfold State.closeEpisode; (try dsimp only); (repeat' split) <;> first | with_reducible rfl | simp

@[simp] theorem onsetSample_weather (s : State) (c : Image) (level : Nat) (suspect : Bool) :
    (s.onsetSample c level suspect).weather = s.weather := by
  unfold State.onsetSample; (try dsimp only); (repeat' split) <;> first | with_reducible rfl | simp

@[simp] theorem accrueSample_weather (s : State) (c : Image) (level : Nat) (suspect : Bool) :
    (s.accrueSample c level suspect).weather = s.weather := by
  unfold State.accrueSample; (try dsimp only); (repeat' split) <;> first | with_reducible rfl | simp

@[simp] theorem enterMergeWait_weather (s : State) (c : Image) :
    (s.enterMergeWait c).weather = s.weather := by
  unfold State.enterMergeWait; (try dsimp only); (repeat' split) <;> first | with_reducible rfl | simp

@[simp] theorem settleSample_weather (s : State) (c : Image) :
    (s.settleSample c).weather = s.weather := by
  unfold State.settleSample; (try dsimp only); (repeat' split) <;> first | with_reducible rfl | simp

@[simp] theorem spillingSample_weather (s : State) (c : Image) (level : Nat) (suspect : Bool) :
    (s.spillingSample c level suspect).weather = s.weather := by
  unfold State.spillingSample; (try dsimp only); (repeat' split) <;> first | with_reducible rfl | simp

@[simp] theorem nonSpillingSample_weather (s : State) (c : Image) (level : Nat) (suspect tideLocked : Bool) :
    (s.nonSpillingSample c level suspect tideLocked).weather = s.weather := by
  unfold State.nonSpillingSample; (try dsimp only); (repeat' split) <;> first | with_reducible rfl | simp

@[simp] theorem unknownSample_weather (s : State)  :
    (s.unknownSample).weather = s.weather := by
  unfold State.unknownSample; (try dsimp only); (repeat' split) <;> first | with_reducible rfl | simp

@[simp] theorem spillSample_weather (s : State) (c : Image) (chamber : Channel) :
    (s.spillSample c chamber).weather = s.weather := by
  unfold State.spillSample; (try dsimp only); (repeat' split) <;> first | with_reducible rfl | simp

@[simp] theorem stormFlag_weather (s : State)  :
    (s.stormFlag).weather = s.weather := by
  unfold State.stormFlag; (try dsimp only); (repeat' split) <;> first | with_reducible rfl | simp

@[simp] theorem cutEpisode_weather (s : State) (c : Image) :
    (s.cutEpisode c).weather = s.weather := by
  unfold State.cutEpisode; (try dsimp only); (repeat' split) <;> first | with_reducible rfl | simp

@[simp] theorem newPeriod_weather (s : State)  :
    (s.newPeriod).weather = s.weather := by
  unfold State.newPeriod; (try dsimp only); (repeat' split) <;> first | with_reducible rfl | simp

@[simp] theorem releaseShares_weather (s : State) (set : List Nat) :
    (s.releaseShares set).weather = s.weather := by
  unfold State.releaseShares; (try dsimp only); (repeat' split) <;> first | with_reducible rfl | simp

@[simp] theorem releaseAll_weather (s : State) (c : Image) :
    (s.releaseAll c).weather = s.weather := by
  unfold State.releaseAll; (try dsimp only); (repeat' split) <;> first | with_reducible rfl | simp

@[simp] theorem wantToClaim_weather (s : State) (c : Image) (urgency : Nat) :
    (s.wantToClaim c urgency).weather = s.weather := by
  unfold State.wantToClaim; (try dsimp only); (repeat' split) <;> first | with_reducible rfl | simp

@[simp] theorem requestWithdraw_weather (s : State) (c : Image) :
    (s.requestWithdraw c).weather = s.weather := by
  unfold State.requestWithdraw; (try dsimp only); (repeat' split) <;> first | with_reducible rfl | simp

@[simp] theorem dropOutgoing_weather (s : State) (set : List Nat) :
    (s.dropOutgoing set).weather = s.weather := by
  unfold State.dropOutgoing; (try dsimp only); (repeat' split) <;> first | with_reducible rfl | simp

@[simp] theorem voidShares_weather (s : State)  :
    (s.voidShares).weather = s.weather := by
  unfold State.voidShares; (try dsimp only); (repeat' split) <;> first | with_reducible rfl | simp

@[simp] theorem foundShares_weather (s : State) (c : Image) :
    (s.foundShares c).weather = s.weather := by
  unfold State.foundShares; (try dsimp only); (repeat' split) <;> first | with_reducible rfl | simp

@[simp] theorem returnWhere_weather (s : State) (p : Nat → Share → Bool) :
    (s.returnWhere p).weather = s.weather := by
  unfold State.returnWhere; (try dsimp only); (repeat' split) <;> first | with_reducible rfl | simp

@[simp] theorem dropClaim_weather (s : State) (n : Nat) :
    (s.dropClaim n).weather = s.weather := by
  unfold State.dropClaim; (try dsimp only); (repeat' split) <;> first | with_reducible rfl | simp

@[simp] theorem setUrgency_weather (s : State) (n urgency : Nat) :
    (s.setUrgency n urgency).weather = s.weather := by
  unfold State.setUrgency; (try dsimp only); (repeat' split) <;> first | with_reducible rfl | simp

@[simp] theorem claimShares_weather (s : State) (n count : Nat) :
    (s.claimShares n count).weather = s.weather := by
  unfold State.claimShares; (try dsimp only); (repeat' split) <;> first | with_reducible rfl | simp

@[simp] theorem takeClaim_weather (s : State) (n urgency field : Nat) :
    (s.takeClaim n urgency field).weather = s.weather := by
  unfold State.takeClaim; (try dsimp only); (repeat' split) <;> first | with_reducible rfl | simp

@[simp] theorem takeRelease_weather (s : State) (n : Nat) (set : List Nat) :
    (s.takeRelease n set).weather = s.weather := by
  unfold State.takeRelease; (try dsimp only); (repeat' split) <;> first | with_reducible rfl | simp

@[simp] theorem takeYield_weather (s : State) (n share : Nat) :
    (s.takeYield n share).weather = s.weather := by
  unfold State.takeYield; (try dsimp only); (repeat' split) <;> first | with_reducible rfl | simp

@[simp] theorem takeCurtail_weather (s : State) (c : Image) (q : Nat) :
    (s.takeCurtail c q).weather = s.weather := by
  unfold State.takeCurtail; (try dsimp only); (repeat' split) <;> first | with_reducible rfl | simp

@[simp] theorem strand_weather (s : State) (n : Nat) :
    (s.strand n).weather = s.weather := by
  unfold State.strand; (try dsimp only); (repeat' split) <;> first | with_reducible rfl | simp

@[simp] theorem reclaimShares_weather (s : State) (stations : List Nat) :
    (s.reclaimShares stations).weather = s.weather := by
  unfold State.reclaimShares; (try dsimp only); (repeat' split) <;> first | with_reducible rfl | simp

@[simp] theorem rejoinShares_weather (s : State) (n : Nat) :
    (s.rejoinShares n).weather = s.weather := by
  unfold State.rejoinShares; (try dsimp only); (repeat' split) <;> first | with_reducible rfl | simp

@[simp] theorem yieldIfNamed_weather (s : State) (c : Image) :
    (s.yieldIfNamed c).weather = s.weather := by
  unfold State.yieldIfNamed; (try dsimp only); (repeat' split) <;> first | with_reducible rfl | simp

@[simp] theorem curtailRelease_weather (s : State) (c : Image) (q : Nat) :
    (s.curtailRelease c q).weather = s.weather := by
  unfold State.curtailRelease; (try dsimp only); (repeat' split) <;> first | with_reducible rfl | simp

@[simp] theorem releaseArrivals_weather (s : State) (c : Image) :
    (s.releaseArrivals c).weather = s.weather := by
  unfold State.releaseArrivals; (try dsimp only); (repeat' split) <;> first | with_reducible rfl | simp

@[simp] theorem rejoinOutgoing_weather (s : State) (c : Image) :
    (s.rejoinOutgoing c).weather = s.weather := by
  unfold State.rejoinOutgoing; (try dsimp only); (repeat' split) <;> first | with_reducible rfl | simp

@[simp] theorem parkingRelease_weather (s : State) (c : Image) :
    (s.parkingRelease c).weather = s.weather := by
  unfold State.parkingRelease; (try dsimp only); (repeat' split) <;> first | with_reducible rfl | simp

@[simp] theorem drawFree_weather (s : State)  :
    (s.drawFree).weather = s.weather := by
  rfl

@[simp] theorem yieldAndPark_weather (s before : State) (c : Image) :
    (s.yieldAndPark before c).weather = s.weather := by
  unfold State.yieldAndPark; (try dsimp only); (repeat' split) <;> first | with_reducible rfl | simp

@[simp] theorem completeRelease_weather (s : State) (c : Image) :
    (s.completeRelease c).weather = s.weather := by
  unfold State.completeRelease; (try dsimp only); (repeat' split) <;> first | with_reducible rfl | simp

@[simp] theorem afterFrame_weather (s before : State) (c : Image) :
    (s.afterFrame before c).weather = s.weather := by
  unfold State.afterFrame; (try dsimp only); (repeat' split) <;> first | with_reducible rfl | simp

@[simp] theorem holdSample_weather (s : State) (chamber tank : Channel) :
    (s.holdSample chamber tank).weather = s.weather := by
  unfold State.holdSample; (try dsimp only); (repeat' split) <;> first | with_reducible rfl | simp

@[simp] theorem evaluateTideLock_weather (s : State) (c : Image) :
    (s.evaluateTideLock c).weather = s.weather := by
  unfold State.evaluateTideLock; (try dsimp only); (repeat' split) <;> first | with_reducible rfl | simp

@[simp] theorem recomputeUrgency_weather (s : State) (c : Image) :
    (s.recomputeUrgency c).weather = s.weather := by
  unfold State.recomputeUrgency; (try dsimp only); (repeat' split) <;> first | with_reducible rfl | simp

@[simp] theorem inletSample_weather (s : State) (c : Image) (chamber : Channel) :
    (s.inletSample c chamber).weather = s.weather := by
  unfold State.inletSample; (try dsimp only); (repeat' split) <;> first | with_reducible rfl | simp

@[simp] theorem setDrain_weather (s : State) (d : Drain) :
    (s.setDrain d).weather = s.weather := by
  unfold State.setDrain; (try dsimp only); (repeat' split) <;> first | with_reducible rfl | simp

@[simp] theorem stopDrain_weather (s : State)  :
    (s.stopDrain).weather = s.weather := by
  unfold State.stopDrain; (try dsimp only); (repeat' split) <;> first | with_reducible rfl | simp

@[simp] theorem askClaim_weather (s : State) (c : Image) :
    (s.askClaim c).weather = s.weather := by
  unfold State.askClaim; (try dsimp only); (repeat' split) <;> first | with_reducible rfl | simp

@[simp] theorem testClaim_weather (s : State) (c : Image) :
    (s.testClaim c).weather = s.weather := by
  unfold State.testClaim; (try dsimp only); (repeat' split) <;> first | with_reducible rfl | simp

@[simp] theorem withdrawIfOut_weather (s : State) (c : Image) :
    (s.withdrawIfOut c).weather = s.weather := by
  unfold State.withdrawIfOut; (try dsimp only); (repeat' split) <;> first | with_reducible rfl | simp

@[simp] theorem failedTank_weather (s : State) (c : Image) :
    (s.failedTank c).weather = s.weather := by
  unfold State.failedTank; (try dsimp only); (repeat' split) <;> first | with_reducible rfl | simp

@[simp] theorem park_weather (s : State) (c : Image) :
    (s.park c).weather = s.weather := by
  unfold State.park; (try dsimp only); (repeat' split) <;> first | with_reducible rfl | simp

@[simp] theorem drainSample_weather (s : State) (c : Image) :
    (s.drainSample c).weather = s.weather := by
  unfold State.drainSample; (try dsimp only); (repeat' split) <;> first | with_reducible rfl | simp

@[simp] theorem judgeParked_weather (s : State) (c : Image) :
    (s.judgeParked c).weather = s.weather := by
  unfold State.judgeParked; (try dsimp only); (repeat' split) <;> first | with_reducible rfl | simp

@[simp] theorem drainReport_weather (s : State) (c : Image) :
    (s.drainReport c).weather = s.weather := by
  unfold State.drainReport; (try dsimp only); (repeat' split) <;> first | with_reducible rfl | simp

@[simp] theorem drainStep_weather (s before : State) (c : Image) :
    (s.drainStep before c).weather = s.weather := by
  unfold State.drainStep; (try dsimp only); (repeat' split) <;> first | with_reducible rfl | simp

@[simp] theorem setValve_weather (s : State) (c : Image) :
    (s.setValve c).weather = s.weather := by
  unfold State.setValve; (try dsimp only); (repeat' split) <;> first | with_reducible rfl | simp

@[simp] theorem markWake_weather (s : State)  :
    (s.markWake).weather = s.weather := by
  unfold State.markWake; (try dsimp only); (repeat' split) <;> first | with_reducible rfl | simp

@[simp] theorem restDrain_weather (s : State) (c : Image) :
    (s.restDrain c).weather = s.weather := by
  unfold State.restDrain; (try dsimp only); (repeat' split) <;> first | with_reducible rfl | simp

@[simp] theorem enterDormant_weather (s : State) (c : Image) :
    (s.enterDormant c).weather = s.weather := by
  unfold State.enterDormant; (try dsimp only); (repeat' split) <;> first | with_reducible rfl | simp

@[simp] theorem enterWaking_weather (s : State) (c : Image) :
    (s.enterWaking c).weather = s.weather := by
  unfold State.enterWaking; (try dsimp only); (repeat' split) <;> first | with_reducible rfl | simp

@[simp] theorem wakeTrigger_weather (s : State) (c : Image) :
    (s.wakeTrigger c).weather = s.weather := by
  unfold State.wakeTrigger; (try dsimp only); (repeat' split) <;> first | with_reducible rfl | simp

@[simp] theorem watchDormancy_weather (s : State) (c : Image) :
    (s.watchDormancy c).weather = s.weather := by
  unfold State.watchDormancy; (try dsimp only); (repeat' split) <;> first | with_reducible rfl | simp

@[simp] theorem resetActivity_weather (s : State)  :
    (s.resetActivity).weather = s.weather := by
  unfold State.resetActivity; (try dsimp only); (repeat' split) <;> first | with_reducible rfl | simp

@[simp] theorem writeAlert_weather (s : State) (c : Image) :
    (s.writeAlert c).weather = s.weather := by
  unfold State.writeAlert; (try dsimp only); (repeat' split) <;> first | with_reducible rfl | simp

@[simp] theorem rewriteAlert_weather (s : State) (c : Image) :
    (s.rewriteAlert c).weather = s.weather := by
  unfold State.rewriteAlert; (try dsimp only); (repeat' split) <;> first | with_reducible rfl | simp

@[simp] theorem controlCalm_weather (s : State) (c : Image) :
    (s.controlCalm c).weather = s.weather := by
  unfold State.controlCalm; (try dsimp only); (repeat' split) <;> first | with_reducible rfl | simp

@[simp] theorem emptySlot_weather (s : State) (c : Image) (id : SlotId) :
    (s.emptySlot c id).weather = s.weather := by
  unfold State.emptySlot; (try dsimp only); (repeat' split) <;> first | with_reducible rfl | simp

@[simp] theorem emptySlots_weather (s : State) (c : Image) (ids : List SlotId) :
    (s.emptySlots c ids).weather = s.weather := by
  exact foldl_keeps (fun x => x.weather) _ (fun t id => emptySlot_weather t c id) ids s

@[simp] theorem emptyAll_weather (s : State) (c : Image) :
    (s.emptyAll c).weather = s.weather := by
  unfold State.emptyAll; (try dsimp only); (repeat' split) <;> first | with_reducible rfl | simp

@[simp] theorem rewriteNotices_weather (s old : State)  :
    (s.rewriteNotices old).weather = s.weather := by
  refine foldl_keeps (fun x => x.weather) _ (fun t id => ?_) noticeSlots s
  try dsimp only
  split <;> simp

@[simp] theorem leaveTables_weather (s : State)  :
    (s.leaveTables).weather = s.weather := by
  unfold State.leaveTables; (try dsimp only); (repeat' split) <;> first | with_reducible rfl | simp

@[simp] theorem emptyQueue_weather (s : State)  :
    (s.emptyQueue).weather = s.weather := by
  unfold State.emptyQueue; (try dsimp only); (repeat' split) <;> first | with_reducible rfl | simp

@[simp] theorem setMembership_weather (s : State) (m : Membership) :
    (s.setMembership m).weather = s.weather := by
  unfold State.setMembership; (try dsimp only); (repeat' split) <;> first | with_reducible rfl | simp

@[simp] theorem enterListening_weather (s : State) (c : Image) (hold : Bool) :
    (s.enterListening c hold).weather = s.weather := by
  unfold State.enterListening; (try dsimp only); (repeat' split) <;> first | with_reducible rfl | simp

@[simp] theorem discardLoad_weather (s : State)  :
    (s.discardLoad).weather = s.weather := by
  unfold State.discardLoad; (try dsimp only); (repeat' split) <;> first | with_reducible rfl | simp

@[simp] theorem spoilJoin_weather (s : State) (c : Image) :
    (s.spoilJoin c).weather = s.weather := by
  unfold State.spoilJoin; (try dsimp only); (repeat' split) <;> first | with_reducible rfl | simp

@[simp] theorem enterLinked_weather (s : State) (c : Image) :
    (s.enterLinked c).weather = s.weather := by
  unfold State.enterLinked; (try dsimp only); (repeat' split) <;> first | with_reducible rfl | simp

@[simp] theorem linkLoaded_weather (s : State) (c : Image) :
    (s.linkLoaded c).weather = s.weather := by
  unfold State.linkLoaded; (try dsimp only); (repeat' split) <;> first | with_reducible rfl | simp

@[simp] theorem endLock_weather (s : State) (c : Image) :
    (s.endLock c).weather = s.weather := by
  unfold State.endLock; (try dsimp only); (repeat' split) <;> first | with_reducible rfl | simp

@[simp] theorem spoil_weather (s : State) (c : Image) :
    (s.spoil c).weather = s.weather := by
  unfold State.spoil; (try dsimp only); (repeat' split) <;> first | with_reducible rfl | simp

@[simp] theorem watchSilence_weather (s : State) (c : Image) :
    (s.watchSilence c).weather = s.weather := by
  unfold State.watchSilence; (try dsimp only); (repeat' split) <;> first | with_reducible rfl | simp

@[simp] theorem writeJoinIfDue_weather (s : State) (c : Image) :
    (s.writeJoinIfDue c).weather = s.weather := by
  unfold State.writeJoinIfDue; (try dsimp only); (repeat' split) <;> first | with_reducible rfl | simp

@[simp] theorem startFlight_weather (s : State) (c : Image) (id : SlotId) :
    (s.startFlight c id).weather = s.weather := by
  unfold State.startFlight; (try dsimp only); (repeat' split) <;> first | with_reducible rfl | simp

@[simp] theorem offerIfStillIdle_weather (s : State) (c : Image) (id : SlotId) :
    (s.offerIfStillIdle c id).weather = s.weather := by
  unfold State.offerIfStillIdle; (try dsimp only); (repeat' split) <;> first | with_reducible rfl | simp

@[simp] theorem offer_weather (s : State) (c : Image) (fresh : Bool) :
    (s.offer c fresh).weather = s.weather := by
  unfold State.offer; (try dsimp only); (repeat' split) <;> first | with_reducible rfl | simp

@[simp] theorem statusOnChange_weather (s before : State)  :
    (s.statusOnChange before).weather = s.weather := by
  unfold State.statusOnChange; (try dsimp only); (repeat' split) <;> first | with_reducible rfl | simp

@[simp] theorem endField_weather (s : State) (marks : Marks) :
    (s.endField marks).weather = s.weather := by
  unfold State.endField; (try dsimp only); (repeat' split) <;> first | with_reducible rfl | simp

@[simp] theorem reportEmptied_weather (s : State) (id : SlotId) :
    (s.reportEmptied id).weather = s.weather := by
  unfold State.reportEmptied; (try dsimp only); (repeat' split) <;> first | with_reducible rfl | simp

@[simp] theorem failFlight_weather (s : State)  :
    (s.failFlight).weather = s.weather := by
  unfold State.failFlight; (try dsimp only); (repeat' split) <;> first | with_reducible rfl | simp

@[simp] theorem bookkeep_weather (s : State) (a : Arrival) :
    (s.bookkeep a).weather = s.weather := by
  unfold State.bookkeep; (try dsimp only); (repeat' split) <;> first | with_reducible rfl | simp

@[simp] theorem hearEntry_weather (s : State) (c : Image) (n : Nat) :
    (s.hearEntry c n).weather = s.weather := by
  unfold State.hearEntry; (try dsimp only); (repeat' split) <;> first | with_reducible rfl | simp

@[simp] theorem hearSilence_weather (s : State) (c : Image) (a : Arrival) :
    (s.hearSilence c a).weather = s.weather := by
  unfold State.hearSilence; (try dsimp only); (repeat' split) <;> first | with_reducible rfl | simp

@[simp] theorem hearPopulated_weather (s : State) (f : Frame) :
    (s.hearPopulated f).weather = s.weather := by
  unfold State.hearPopulated; (try dsimp only); (repeat' split) <;> first | with_reducible rfl | simp

@[simp] theorem hear_weather (s : State) (c : Image) (a : Arrival) (f : Frame) :
    (s.hear c a f).weather = s.weather := by
  unfold State.hear; (try dsimp only); (repeat' split) <;> first | with_reducible rfl | simp

@[simp] theorem restartPresence_weather (s : State) (c : Image) (a : Arrival) :
    (s.restartPresence c a).weather = s.weather := by
  unfold State.restartPresence; (try dsimp only); (repeat' split) <;> first | with_reducible rfl | simp

@[simp] theorem concluded_weather (s : State) (c : Image) (f : Frame) :
    (s.concluded c f).weather = s.weather := by
  unfold State.concluded; (try dsimp only); (repeat' split) <;> first | with_reducible rfl | simp

@[simp] theorem heardFrame_weather (s : State) (c : Image) (f : Frame) :
    (s.heardFrame c f).weather = s.weather := by
  unfold State.heardFrame; (try dsimp only); (repeat' split) <;> first | with_reducible rfl | simp

@[simp] theorem ownerDone_weather (s : State) (c : Image) (a : Arrival) (f : Frame) :
    (s.ownerDone c a f).weather = s.weather := by
  unfold State.ownerDone; (try dsimp only); (repeat' split) <;> first | with_reducible rfl | simp

@[simp] theorem cutAtPulse_weather (s : State)  :
    (s.cutAtPulse).weather = s.weather := by
  unfold State.cutAtPulse; (try dsimp only); (repeat' split) <;> first | with_reducible rfl | simp

@[simp] theorem request_weather (s : State) (seconds : Nat) :
    (s.request seconds).weather = s.weather := by
  unfold State.request; (try dsimp only); (repeat' split) <;> first | with_reducible rfl | simp

@[simp] theorem goodLoad_weather (s : State) (c : Image) :
    (s.goodLoad c).weather = s.weather := by
  unfold State.goodLoad; (try dsimp only); (repeat' split) <;> first | with_reducible rfl | simp

@[simp] theorem badLoad_weather (s : State)  :
    (s.badLoad).weather = s.weather := by
  unfold State.badLoad; (try dsimp only); (repeat' split) <;> first | with_reducible rfl | simp

@[simp] theorem failedAttempt_weather (s : State)  :
    (s.failedAttempt).weather = s.weather := by
  unfold State.failedAttempt; (try dsimp only); (repeat' split) <;> first | with_reducible rfl | simp

@[simp] theorem readAttempt_weather (s : State) (read : ReadAttempt) :
    (s.readAttempt read).weather = s.weather := by
  unfold State.readAttempt; (try dsimp only); (repeat' split) <;> first | with_reducible rfl | simp

@[simp] theorem timeTide_weather (s : State) (level : Tide) :
    (s.timeTide level).weather = s.weather := by
  unfold State.timeTide; (try dsimp only); (repeat' split) <;> first | with_reducible rfl | simp

@[simp] theorem keepValues_weather (s : State) (c : Image) (chamber tank : Channel) :
    (s.keepValues c chamber tank).weather = s.weather := by
  unfold State.keepValues; (try dsimp only); (repeat' split) <;> first | with_reducible rfl | simp

@[simp] theorem keepSample_weather (s : State) (c : Image) (chamber tank : Channel) :
    (s.keepSample c chamber tank).weather = s.weather := by
  unfold State.keepSample; (try dsimp only); (repeat' split) <;> first | with_reducible rfl | simp

@[simp] theorem makeSample_weather (s : State) (c : Image) (chamber tank : Channel) :
    (s.makeSample c chamber tank).weather = s.weather := by
  unfold State.makeSample; (try dsimp only); (repeat' split) <;> first | with_reducible rfl | simp

@[simp] theorem emptySample_weather (s : State) (c : Image) :
    (s.emptySample c).weather = s.weather := by
  unfold State.emptySample; (try dsimp only); (repeat' split) <;> first | with_reducible rfl | simp

@[simp] theorem lineBusy_weather (s : State)  :
    (s.lineBusy).weather = s.weather := by
  unfold State.lineBusy; (try dsimp only); (repeat' split) <;> first | with_reducible rfl | simp

@[simp] theorem busyOwn_weather (s : State)  :
    (s.busyOwn).weather = s.weather := by
  unfold State.busyOwn; (try dsimp only); (repeat' split) <;> first | with_reducible rfl | simp

@[simp] theorem hearBurst_weather (s : State) (c : Image) (segment : Nat) (f : Frame) :
    (s.hearBurst c segment f).weather = s.weather := by
  unfold State.hearBurst; (try dsimp only); (repeat' split) <;> first | with_reducible rfl | simp

@[simp] theorem enterLoading_weather (s : State) (payload : List Byte) :
    (s.enterLoading payload).weather = s.weather := by
  unfold State.enterLoading; (try dsimp only); (repeat' split) <;> first | with_reducible rfl | simp

@[simp] theorem loadClaims_weather (s : State) (claims : List Claim) :
    (s.loadClaims claims).weather = s.weather := by
  unfold State.loadClaims; (try dsimp only); (repeat' split) <;> first | with_reducible rfl | simp

@[simp] theorem finalSegment_weather (s : State) (c : Image) (l : Lock) :
    (s.finalSegment c l).weather = s.weather := by
  unfold State.finalSegment; (try dsimp only); (repeat' split) <;> first | with_reducible rfl | simp

@[simp] theorem nextBurst_weather (s : State) (c : Image) (a : Arrival) (segment : Nat) (l : Lock) :
    (s.nextBurst c a segment l).weather = s.weather := by
  unfold State.nextBurst; (try dsimp only); (repeat' split) <;> first | with_reducible rfl | simp

@[simp] theorem burstAtLinked_weather (s : State) (c : Image) (a : Arrival) (segment : Nat) (f : Frame) :
    (s.burstAtLinked c a segment f).weather = s.weather := by
  unfold State.burstAtLinked; (try dsimp only); (repeat' split) <;> first | with_reducible rfl | simp

@[simp] theorem declareAbsent_weather (s : State) (c : Image) (n : Nat) :
    (s.declareAbsent c n).weather = s.weather := by
  unfold State.declareAbsent; (try dsimp only); (repeat' split) <;> first | with_reducible rfl | simp

@[simp] theorem takeReclaim_weather (s : State) (named : List Nat) :
    (s.takeReclaim named).weather = s.weather := by
  unfold State.takeReclaim
  have h := foldl_keeps (fun x => x.weather) (fun t n => t.clearEntry n) (fun t n => by simp) (named.filter fun n => decide (s.entryState n = .absent)) (s.reclaimShares (named.filter fun n => decide (s.entryState n = .absent)))
  dsimp only at h ⊢
  simp [h]

@[simp] theorem takeCurtailFrame_weather (s : State) (c : Image) (q : Nat) :
    (s.takeCurtailFrame c q).weather = s.weather := by
  unfold State.takeCurtailFrame; (try dsimp only); (repeat' split) <;> first | with_reducible rfl | simp

@[simp] theorem settleOutgoing_weather (s : State) (a : Arrival) (set : List Nat) :
    (s.settleOutgoing a set).weather = s.weather := by
  unfold State.settleOutgoing; (try dsimp only); (repeat' split) <;> first | with_reducible rfl | simp

@[simp] theorem lateWithdraw_weather (s : State) (c : Image) (a : Arrival) :
    (s.lateWithdraw c a).weather = s.weather := by
  unfold State.lateWithdraw; (try dsimp only); (repeat' split) <;> first | with_reducible rfl | simp

@[simp] theorem recordJoin_weather (s : State) (n : Nat) :
    (s.recordJoin n).weather = s.weather := by
  unfold State.recordJoin; (try dsimp only); (repeat' split) <;> first | with_reducible rfl | simp

@[simp] theorem enterJoining_weather (s : State) (c : Image) :
    (s.enterJoining c).weather = s.weather := by
  unfold State.enterJoining; (try dsimp only); (repeat' split) <;> first | with_reducible rfl | simp

@[simp] theorem hearJoin_weather (s : State) (n : Nat) :
    (s.hearJoin n).weather = s.weather := by
  unfold State.hearJoin; (try dsimp only); (repeat' split) <;> first | with_reducible rfl | simp

@[simp] theorem startBurst_weather (s : State) (c : Image) (l : Lock) :
    (s.startBurst c l).weather = s.weather := by
  unfold State.startBurst; (try dsimp only); (repeat' split) <;> first | with_reducible rfl | simp

@[simp] theorem markJoiner_weather (s : State) (c : Image) (n : Nat) :
    (s.markJoiner c n).weather = s.weather := by
  unfold State.markJoiner; (try dsimp only); (repeat' split) <;> first | with_reducible rfl | simp

@[simp] theorem beginLock_weather (s : State) (c : Image) (n pool : Nat) :
    (s.beginLock c n pool).weather = s.weather := by
  unfold State.beginLock; (try dsimp only); (repeat' split) <;> first | with_reducible rfl | simp

@[simp] theorem joinAtLinked_weather (s : State) (c : Image) (n pool : Nat) :
    (s.joinAtLinked c n pool).weather = s.weather := by
  unfold State.joinAtLinked; (try dsimp only); (repeat' split) <;> first | with_reducible rfl | simp

@[simp] theorem takeStatus_weather (s : State) (n urgency : Nat) :
    (s.takeStatus n urgency).weather = s.weather := by
  unfold State.takeStatus; (try dsimp only); (repeat' split) <;> first | with_reducible rfl | simp

@[simp] theorem reassert_weather (s : State) (a : Arrival) :
    (s.reassert a).weather = s.weather := by
  unfold State.reassert; (try dsimp only); (repeat' split) <;> first | with_reducible rfl | simp

@[simp] theorem markDormant_weather (s : State) (c : Image) (n : Nat) :
    (s.markDormant c n).weather = s.weather := by
  unfold State.markDormant; (try dsimp only); (repeat' split) <;> first | with_reducible rfl | simp

@[simp] theorem ownDormant_weather (s : State) (c : Image) (a : Arrival) :
    (s.ownDormant c a).weather = s.weather := by
  unfold State.ownDormant; (try dsimp only); (repeat' split) <;> first | with_reducible rfl | simp

@[simp] theorem takeQuery_weather (s : State) (c : Image) (f : Frame) :
    (s.takeQuery c f).weather = s.weather := by
  unfold State.takeQuery; (try dsimp only); (repeat' split) <;> first | with_reducible rfl | simp

@[simp] theorem turnAway_weather (s : State)  :
    (s.turnAway).weather = s.weather := by
  unfold State.turnAway; (try dsimp only); (repeat' split) <;> first | with_reducible rfl | simp

@[simp] theorem clearFlags_weather (s : State) (mask : FlagSet) :
    (s.clearFlags mask).weather = s.weather := by
  unfold State.clearFlags; (try dsimp only); (repeat' split) <;> first | with_reducible rfl | simp

@[simp] theorem takeClear_weather (s : State) (c : Image) (mask : FlagSet) :
    (s.takeClear c mask).weather = s.weather := by
  unfold State.takeClear; (try dsimp only); (repeat' split) <;> first | with_reducible rfl | simp

@[simp] theorem deliverNews_weather (s : State) (carried : FlagSet) :
    (s.deliverNews carried).weather = s.weather := rfl

@[simp] theorem deliverNotice_weather (s : State) (f : Frame) :
    (s.deliverNotice f).weather = s.weather := by
  unfold State.deliverNotice; (try dsimp only); (repeat' split) <;> first | with_reducible rfl | simp

@[simp] theorem requeueJoin_weather (s : State) (c : Image) :
    (s.requeueJoin c).weather = s.weather := by
  unfold State.requeueJoin; (try dsimp only); (repeat' split) <;> first | with_reducible rfl | simp

@[simp] theorem recover_weather (s : State) (c : Image) :
    (s.recover c).weather = s.weather := by
  unfold State.recover; (try dsimp only); (repeat' split) <;> first | with_reducible rfl | simp

end Sys2Proof.Machine
end

