-- ==== Sys2Proof/Laws/Line.lean ====
section
/-! SUPPORT. Flights, the choice of the slot offered, and what the end of a failed flight leaves. -/

namespace Sys2Proof.Machine

open Sys2Proof

theorem mem_allSlots (id : SlotId) : id ∈ allSlots := by cases id <;> decide

theorem flight_some {s : State} {id : SlotId} (h : s.flight = some id) : s.slotInFlight id = true :=
  List.find?_some h

theorem flight_none_iff {s : State} : s.flight = none ↔ ∀ id, s.slotInFlight id = false := by
  unfold State.flight
  rw [List.find?_eq_none]
  simp [mem_allSlots]

theorem best_spec (k : SlotId → Nat) (l : List SlotId) : ∀ (b : SlotId) r,
    l.foldl (fun best id => match best with
      | none => some id
      | some b => if k id < k b then some id else some b) (some b) = some r →
    (r = b ∧ (∀ j ∈ l, k b ≤ k j)) ∨ (r ∈ l ∧ k r < k b ∧ ∀ j ∈ l, k r ≤ k j ∧ (k j = k r → l.idxOf r ≤ l.idxOf j)) := by
  induction l with
  | nil => intro b r h; simp at h; left; exact ⟨h.symm, by simp⟩
  | cons x l ih =>
    intro b r h
    simp only [List.foldl_cons] at h
    by_cases hx : k x < k b
    · rw [if_pos hx] at h
      rcases ih x r h with ⟨e, hj⟩ | ⟨hm, hlt, hj⟩
      · right; subst e
        refine ⟨by simp, hx, fun j hm => ?_⟩
        rcases List.mem_cons.mp hm with e | hm
        · subst e; simp
        · exact ⟨hj j hm, by simp⟩
      · right
        refine ⟨List.mem_cons_of_mem _ hm, by omega, fun j hm2 => ?_⟩
        have hrx : r ≠ x := by intro e; subst e; omega
        rcases List.mem_cons.mp hm2 with e | hm2
        · subst e; exact ⟨by omega, fun h => by omega⟩
        · refine ⟨(hj j hm2).1, fun h => ?_⟩
          have := (hj j hm2).2 h
          have hjx : j ≠ x := by intro e; subst e; omega
          rw [List.idxOf_cons_ne _ (Ne.symm hrx), List.idxOf_cons_ne _ (Ne.symm hjx)]; omega
    · rw [if_neg hx] at h
      rcases ih b r h with ⟨e, hj⟩ | ⟨hm, hlt, hj⟩
      · left; refine ⟨e, fun j hm => ?_⟩
        rcases List.mem_cons.mp hm with e | hm
        · subst e; omega
        · exact hj j hm
      · right
        refine ⟨List.mem_cons_of_mem _ hm, by omega, fun j hm2 => ?_⟩
        have hrx : r ≠ x := by intro e; subst e; omega
        rcases List.mem_cons.mp hm2 with e | hm2
        · subst e; exact ⟨by omega, fun h => by omega⟩
        · refine ⟨(hj j hm2).1, fun h => ?_⟩
          have := (hj j hm2).2 h
          have hjx : j ≠ x := by intro e; subst e; omega
          rw [List.idxOf_cons_ne _ (Ne.symm hrx), List.idxOf_cons_ne _ (Ne.symm hjx)]; omega

/-- The fold of the offer picks the least key, and the first among equals. -/
theorem best_spec' (k : SlotId → Nat) (l : List SlotId) (r) (h : l.foldl (fun best id => match best with
      | none => some id
      | some b => if k id < k b then some id else some b) none = some r) :
    r ∈ l ∧ ∀ j ∈ l, k r ≤ k j ∧ (k j = k r → l.idxOf r ≤ l.idxOf j) := by
  cases l with
  | nil => simp at h
  | cons x l =>
    simp only [List.foldl_cons] at h
    rcases best_spec k l x r h with ⟨e, hj⟩ | ⟨hm, hlt, hj⟩
    · subst e
      refine ⟨by simp, fun j hm => ?_⟩
      rcases List.mem_cons.mp hm with e | hm
      · subst e; simp
      · exact ⟨hj j hm, by simp⟩
    · refine ⟨List.mem_cons_of_mem _ hm, fun j hm2 => ?_⟩
      have hrx : r ≠ x := by intro e; subst e; omega
      rcases List.mem_cons.mp hm2 with e | hm2
      · subst e; exact ⟨by omega, fun h => by omega⟩
      · refine ⟨(hj j hm2).1, fun h => ?_⟩
        have := (hj j hm2).2 h
        have hjx : j ≠ x := by intro e; subst e; omega
        rw [List.idxOf_cons_ne _ (Ne.symm hrx), List.idxOf_cons_ne _ (Ne.symm hjx)]; omega

theorem idx_filter {α : Type} [DecidableEq α] (p : α → Bool) (l : List α) (a b : α) (ha : p a = true) (hb : p b = true) (hmb : b ∈ l)
    (h : (l.filter p).idxOf a ≤ (l.filter p).idxOf b) : l.idxOf a ≤ l.idxOf b := by
  induction l with
  | nil => simp at hmb
  | cons x l ih =>
    by_cases hxa : x = a
    · subst hxa; simp
    · by_cases hxb : x = b
      · subst hxb
        simp only [List.filter_cons, hb, if_true, List.idxOf_cons_self] at h
        rw [List.idxOf_cons_ne _ hxa] at h; omega
      · rw [List.idxOf_cons_ne _ hxa, List.idxOf_cons_ne _ hxb]
        have hm : b ∈ l := by
          rcases List.mem_cons.mp hmb with e | h
          · exact absurd e.symm hxb
          · exact h
        have : (l.filter p).idxOf a ≤ (l.filter p).idxOf b := by
          simp only [List.filter_cons] at h
          split at h
          · rw [List.idxOf_cons_ne _ hxa, List.idxOf_cons_ne _ hxb] at h; omega
          · exact h
        have := ih hm this
        omega

theorem slot_mapLc (s : State) (f : LcState → LcState) (h : ∀ l, (f l).slots = l.slots) (id : SlotId) : (s.mapLc f).slot id = s.slot id := by
  simp [State.slot, h]

theorem flight_mapLc (s : State) (f : LcState → LcState) (h : ∀ l, (f l).slots = l.slots) : (s.mapLc f).flight = s.flight := by
  have : ∀ id, (s.mapLc f).slotInFlight id = s.slotInFlight id := by
    intro id; unfold State.slotInFlight; rw [slot_mapLc _ _ h]
  unfold State.flight; congr 1; funext id; exact this id

theorem foldl_some (k : SlotId → Nat) (l : List SlotId) : ∀ (b : SlotId),
    l.foldl (fun best id => match best with
      | none => some id
      | some b => if k id < k b then some id else some b) (some b) ≠ none := by
  induction l with
  | nil => intro b; simp
  | cons x l ih => intro b; simp only [List.foldl_cons]; split <;> exact ih _

theorem bestSlot_none {s : State} (h : s.bestSlot = none) (id : SlotId) : s.eligible id = false := by
  unfold State.bestSlot at h
  have : allSlots.filter s.eligible = [] := by
    cases hl : allSlots.filter s.eligible with
    | nil => rfl
    | cons x l => rw [hl] at h; simp only [List.foldl_cons] at h; exact absurd h (foldl_some _ _ _)
  rw [List.filter_eq_nil_iff] at this
  simpa using this id (mem_allSlots id)

theorem startFlight_slot (s : State) (c : Image) (id j : SlotId) (content : Content) (h : (s.slot id).state = .pending content) :
    (s.startFlight c id).slot j = if j = id then { s.slot id with state := .inFlight (s.offeredContent c content) none false, backoff := none } else s.slot j := by
  unfold State.startFlight
  rw [h]; dsimp only
  show ((s.setSlot id { s.slot id with state := .inFlight (s.offeredContent c content) none false, backoff := none }).slot j) = _
  split
  · rename_i e; subst e; simp
  · rename_i e; exact setSlot_slot_other _ _ (Ne.symm e)

/-- From an offer on no flag is newly latched yet (R158). -/
theorem startFlight_newsSince (s : State) (c : Image) (id : SlotId) (content : Content)
    (h : (s.slot id).state = .pending content) : (s.startFlight c id).lc.newsSince = 0 := by
  unfold State.startFlight; rw [h]; rfl

theorem slot_other_failFlight (s : State) (id j : SlotId) (h : s.flight = some id) (hj : j ≠ id) : s.failFlight.slot j = s.slot j := by
  unfold State.failFlight; rw [h]; dsimp only
  have : ∀ x : State, ∀ k, (x.reportEmptied k).slot j = x.slot j := by
    intro x k; unfold State.reportEmptied; split <;> rfl
  split
  · rw [this]; exact setSlot_slot_other _ _ (Ne.symm hj)
  · exact setSlot_slot_other _ _ (Ne.symm hj)

theorem slot_failFlight (s : State) (id : SlotId) (h : s.flight = some id) : s.failFlight.slot id = (s.slot id).failed := by
  unfold State.failFlight; rw [h]; dsimp only
  have : ∀ x : State, ∀ k j, (x.reportEmptied k).slot j = x.slot j := by
    intro x k j; unfold State.reportEmptied; split <;> rfl
  split
  · rw [this]; simp
  · simp

theorem failFlight_lc (s : State) : s.failFlight.lc.tally = s.lc.tally ∧ s.failFlight.lc.idle = s.lc.idle := by
  unfold State.failFlight
  have : ∀ x : State, ∀ k, (x.reportEmptied k).lc = x.lc := by
    intro x k; unfold State.reportEmptied; split <;> rfl
  split
  · exact ⟨rfl, rfl⟩
  · dsimp only; split
    · rw [this]; exact ⟨rfl, rfl⟩
    · exact ⟨rfl, rfl⟩

theorem failed_cases (x : Slot) :
      (∀ f, x.state = .inFlight f none false → x.failed = { x with state := .pending f }) ∧
      (∀ f n, x.state = .inFlight f (some n) false →
        x.failed = { x with state := .pending (mergeContent f n) }) ∧
      (∀ f, x.state = .inFlight f none true → x.failed = Slot.blank) ∧
      (∀ f n, x.state = .inFlight f (some n) true → x.failed = { x with state := .pending n }) := by
  refine ⟨fun f h => ?_, fun f n h => ?_, fun f h => ?_, fun f n h => ?_⟩ <;> unfold Slot.failed <;> rw [h]

end Sys2Proof.Machine
end

