-- ==== Sys2Proof/Laws/Outputs.lean ====
section
/-! SUPPORT. The levels of the lamp and the status line, pattern by pattern. -/

namespace Sys2Proof.Machine

open Sys2Proof

@[simp] theorem lit_off (since : Nat) : LampPattern.off.lit since = false := rfl

@[simp] theorem lit_steady (since : Nat) : LampPattern.steady.lit since = true := rfl

theorem lit_slowFlash_iff (since : Nat) : LampPattern.slowFlash.lit since = true ↔ since % 2000 < 1000 := decide_eq_true_iff

theorem lit_fastFlash_iff (since : Nat) : LampPattern.fastFlash.lit since = true ↔ since % 500 < 250 := decide_eq_true_iff

@[simp] theorem high_linked (since : Nat) : StatusPattern.linked.high since = true := rfl

theorem high_down_iff (since : Nat) : StatusPattern.down.high since = true ↔ since % 2000 < 100 := decide_eq_true_iff

theorem high_joining_iff (since : Nat) : StatusPattern.joining.high since = true ↔ since % 1000 < 500 := decide_eq_true_iff

theorem high_fallenOut_iff (since : Nat) : StatusPattern.fallenOut.high since = true ↔ since % 2000 < 1900 :=
  decide_eq_true_iff

/-- R113: a flashing pattern begins with its lit half. -/
theorem lit_at_once {p : LampPattern} (h : p ≠ .off) : p.lit 0 = true := by
  cases p
  · exact absurd rfl h
  all_goals rfl

/-- R196: every pattern begins with its high part. -/
theorem high_at_once (p : StatusPattern) : p.high 0 = true := by cases p <;> rfl

end Sys2Proof.Machine
end

