-- ==== Sys2Proof/Laws/Samples.lean ====
section
/-! SUPPORT. What a kept sample does to the held values, the inlet, the tide lock and the spill counter. -/

namespace Sys2Proof.Machine

open Sys2Proof

theorem keepSample_tank (s : State) (c : Image) (ch tk : Channel) :
    (s.keepSample c ch tk).ts.chamberQuality = ch.quality ∧ (s.keepSample c ch tk).ts.tankQuality = tk.quality ∧
    (s.keepSample c ch tk).ts.chamberLevel = keepLevel s.ts.chamberLevel ch ∧
    (s.keepSample c ch tk).ts.tankLevel = keepLevel s.ts.tankLevel tk ∧
    (s.keepSample c ch tk).ts.tideLock = ((s.keepValues c ch tk).ts.tideLock) ∧
    (s.keepSample c ch tk).ts.inlet = inletNext c ch s.ts.inlet ∧
    (s.keepSample c ch tk).ts.window = s.ts.window := by
  have h1 : ((s.keepValues c ch tk).spillSample c ch).tank = (s.keepValues c ch tk).tank := by simp
  simp only [State.tank, Prod.mk.injEq] at h1
  have hv : (s.keepValues c ch tk).ts.chamberQuality = ch.quality ∧ (s.keepValues c ch tk).ts.tankQuality = tk.quality ∧
    (s.keepValues c ch tk).ts.chamberLevel = keepLevel s.ts.chamberLevel ch ∧
    (s.keepValues c ch tk).ts.tankLevel = keepLevel s.ts.tankLevel tk ∧ (s.keepValues c ch tk).ts.inlet = s.ts.inlet ∧
     (s.keepValues c ch tk).ts.window = s.ts.window := by
    unfold State.keepValues State.holdSample; dsimp only; split <;> simp [State.evaluateTideLock]
  have hd : ∀ x : State, (x.drainSample c).tank = x.tank := by intro x; simp
  unfold State.keepSample
  dsimp only
  have hd1 := hd ((((if wakingSample c ch = true then ((s.keepValues c ch tk).spillSample c ch).wakeTrigger c else (s.keepValues c ch tk).spillSample c ch)).recomputeUrgency c).inletSample c ch)
  simp only [State.tank, Prod.mk.injEq] at hd1
  have hw : ∀ x : State, (x.wakeTrigger c).ts.chamberQuality = x.ts.chamberQuality ∧ (x.wakeTrigger c).ts.tankQuality = x.ts.tankQuality ∧ (x.wakeTrigger c).ts.chamberLevel = x.ts.chamberLevel ∧ (x.wakeTrigger c).ts.tankLevel = x.ts.tankLevel ∧ (x.wakeTrigger c).ts.tideLock = x.ts.tideLock ∧ (x.wakeTrigger c).ts.inlet = x.ts.inlet ∧ (x.wakeTrigger c).ts.window = x.ts.window := by
    intro x; unfold State.wakeTrigger; split
    · exact ⟨rfl, rfl, rfl, rfl, rfl, rfl, rfl⟩
    · split <;> exact ⟨rfl, rfl, rfl, rfl, rfl, rfl, rfl⟩
    · exact ⟨rfl, rfl, rfl, rfl, rfl, rfl, rfl⟩
  rw [hd1.2.1, hd1.2.2.1, hd1.2.2.2.1, hd1.2.2.2.2.1, hd1.2.2.2.2.2.1, hd1.2.2.2.2.2.2.2.2.1, hd1.2.2.2.2.2.2.2.2.2]
  by_cases hk : wakingSample c ch = true
  · simp [hk, State.inletSample, State.recomputeUrgency, hw, h1, hv]
  · simp [hk, State.inletSample, State.recomputeUrgency, h1, hv]

section
variable (s : State) (f : TsState → TsState) (c : Image)
theorem c_writeSlot (id : SlotId) (x : Content) : (s.mapTs f).writeSlot id x = (s.writeSlot id x).mapTs f := rfl
theorem c_writeNotice (id : SlotId) (x : Content) : (s.mapTs f).writeNotice c id x = (s.writeNotice c id x).mapTs f := by
  unfold State.writeNotice; split <;> rfl
theorem c_mapRs (g : RsState → RsState) : (s.mapTs f).mapRs g = (s.mapRs g).mapTs f := rfl
theorem c_mapSc (g : ScState → ScState) : (s.mapTs f).mapSc g = (s.mapSc g).mapTs f := rfl
theorem c_mapRecord (g : SpillRecord → SpillRecord) : (s.mapTs f).mapRecord g = (s.mapRecord g).mapTs f := rfl
theorem c_latch (g : Flag) : (s.mapTs f).latch c g = (s.latch c g).mapTs f := by
  unfold State.latch; dsimp only
  by_cases h1 : inSet s.rs.latched g = true
  · have h1' : inSet (s.mapTs f).rs.latched g = true := h1
    rw [if_pos h1', if_pos h1]
  · have h1' : ¬ inSet (s.mapTs f).rs.latched g = true := h1
    rw [if_neg h1', if_neg h1]
    by_cases h2 : c.noticeTarget ≠ 0 ∧ inSet c.noticeMask g = true
    · rw [if_pos h2, if_pos h2]; rfl
    · rw [if_neg h2, if_neg h2]; rfl
theorem c_writeRecord (r : SpillRecord) : (s.mapTs f).writeRecord c r = (s.writeRecord c r).mapTs f := by
  unfold State.writeRecord; simp only [mapTs_rs, c_mapRs, c_writeNotice]
theorem c_takeRecord (r : SpillRecord) : (s.mapTs f).takeRecord c r = (s.takeRecord c r).mapTs f := by
  unfold State.takeRecord; simp only [mapTs_rs, c_latch, c_mapRs, c_writeNotice, c_writeRecord]
  split
  · rfl
  · split <;> rfl
theorem c_openEpisode : (s.mapTs f).openEpisode c = (s.openEpisode c).mapTs f := by
  have : (s.mapTs f).openedRecord = s.openedRecord := rfl
  unfold State.openEpisode; simp only [this, c_mapSc, c_writeNotice]
theorem c_closeEpisode : (s.mapTs f).closeEpisode c = (s.closeEpisode c).mapTs f := by
  unfold State.closeEpisode; simp only [mapTs_sc, c_mapSc, c_takeRecord]; split <;> rfl
theorem c_onsetSample (l : Nat) (b : Bool) : (s.mapTs f).onsetSample c l b = (s.onsetSample c l b).mapTs f := by
  unfold State.onsetSample; simp only [c_mapSc, mapTs_sc, c_openEpisode]; split <;> rfl
theorem c_accrueSample (l : Nat) (b : Bool) : (s.mapTs f).accrueSample c l b = (s.accrueSample c l b).mapTs f := rfl
theorem c_enterMergeWait : (s.mapTs f).enterMergeWait c = (s.enterMergeWait c).mapTs f := by
  unfold State.enterMergeWait; simp only [c_mapSc, c_closeEpisode]; split <;> rfl
theorem c_settleSample : (s.mapTs f).settleSample c = (s.settleSample c).mapTs f := by
  unfold State.settleSample; simp only [c_mapSc, mapTs_sc, c_enterMergeWait]; split <;> rfl
theorem c_spillSample (ch : Channel) (hf : (f s.ts).tide = s.ts.tide) : (s.mapTs f).spillSample c ch = (s.spillSample c ch).mapTs f := by
  unfold State.spillSample
  simp only [mapTs_ts, hf]
  split
  · unfold State.spillingSample; simp only [mapTs_sc]; split
    · simp only [c_mapSc, c_onsetSample]; rfl
    · simp only [c_onsetSample]
    all_goals rfl
  · unfold State.nonSpillingSample; simp only [mapTs_sc]; split
    · rfl
    · rfl
    · simp only [c_mapRecord, c_mapSc, c_settleSample]
    · simp only [c_mapRecord, c_settleSample]
    · rfl
  · unfold State.unknownSample; simp only [mapTs_sc]; split <;> rfl
end

theorem keepSample_spill (s : State) (c : Image) (ch tk : Channel) :
    (s.keepSample c ch tk).sc = (s.spillSample c ch).sc ∧ (s.keepSample c ch tk).rs.log = (s.spillSample c ch).rs.log := by
  have h1 : ∃ f : TsState → TsState, s.keepValues c ch tk = s.mapTs f ∧ (f s.ts).tide = s.ts.tide := by
    unfold State.keepValues
    dsimp only
    split
    · exact ⟨fun t => ((s.holdSample ch tk).evaluateTideLock c).ts, rfl, rfl⟩
    · exact ⟨fun t => (s.holdSample ch tk).ts, rfl, rfl⟩
  obtain ⟨f, hf, ht⟩ := h1
  have hd : ∀ x : State, (x.drainSample c).spills = x.spills := by intro x; simp
  have hw : ∀ x : State, (x.wakeTrigger c).spills = x.spills := by intro x; simp
  have : (s.keepSample c ch tk).spills = (s.spillSample c ch).spills := by
    unfold State.keepSample
    simp only [hd, hf, c_spillSample _ _ _ _ ht]
    split <;> simp
  simp only [State.spills, Prod.mk.injEq] at this
  exact ⟨this.1, this.2.1⟩

theorem keepLevel_eq (o : Option Nat) (ch : Channel) : keepLevel o ch = if ch.level.isSome then ch.level else o := by
  unfold keepLevel; cases ch.level <;> rfl

theorem keepValues_lock (s : State) (c : Image) (ch tk : Channel) :
    (s.keepValues c ch tk).ts.tideLock = match ch.level with
      | none => s.ts.tideLock
      | some l => decide (s.ts.tide = .shut ∧ c.crest ≤ l) := by
  unfold State.keepValues
  cases h : ch.level with
  | none => simp [State.holdSample]
  | some l => simp [State.evaluateTideLock, State.lockNow, State.holdSample, keepLevel, h]

end Sys2Proof.Machine
end

