-- ==== Sys2Proof/Laws/Slots.lean ====
section
/-! SUPPORT. What pruning, cancelling and writing do to one send slot, and which STATUS a change of its values leaves. -/

namespace Sys2Proof.Machine

open Sys2Proof

theorem mem_without {a b : List Nat} {n : Nat} : n ∈ without a b ↔ n ∈ a ∧ n ∉ b := by
  simp [without]

theorem without_eq_nil {a b : List Nat} : without a b = [] ↔ ∀ n ∈ a, n ∈ b := by
  simp [without, List.filter_eq_nil_iff]

theorem without_append (a b c : List Nat) : without (without a b) c = without a (b ++ c) := by
  simp only [without, List.filter_filter]
  congr 1; funext i
  by_cases hb : i ∈ b <;> by_cases hc : i ∈ c <;> simp [hb, hc]

/-- An ABSENT slot is pruned as R179 says. -/
theorem prunedFrom_absent (x : Slot) (gone : List Nat) : PrunedFrom .absent gone x (x.prune gone) := by
  intro set hx
  unfold Slot.prune; rw [hx]; dsimp only
  refine ⟨fun h => by rw [without_eq_nil.mpr h], fun ⟨n, hn, hg⟩ => ?_⟩
  cases hw : without set gone with
  | nil => exact absurd (without_eq_nil.mp hw n hn) hg
  | cons y l => exact ⟨y :: l, rfl, fun m => by rw [← hw]; exact mem_without⟩

/-- A RECLAIM slot is pruned as R179 says. -/
theorem prunedFrom_reclaim (x : Slot) (gone : List Nat) : PrunedFrom .reclaim gone x (x.prune gone) := by
  intro set hx
  unfold Slot.prune; rw [hx]; dsimp only
  refine ⟨fun h => by rw [without_eq_nil.mpr h], fun ⟨n, hn, hg⟩ => ?_⟩
  cases hw : without set gone with
  | nil => exact absurd (without_eq_nil.mp hw n hn) hg
  | cons y l => exact ⟨y :: l, rfl, fun m => by rw [← hw]; exact mem_without⟩

/-- Two prunings in a row are one. -/
theorem prune_prune_absent (x : Slot) (a b : List Nat) (set : List Nat) (h : x.state = .pending (.absent set)) :
    (x.prune a).prune b = x.prune (a ++ b) := by
  have hab := without_append set a b
  unfold Slot.prune; rw [h]; dsimp only
  cases hw : without set a with
  | nil =>
    rw [hw] at hab
    rw [← hab]; rfl
  | cons y l =>
    rw [hw] at hab
    rw [← hab]

/-- A cancel is that of R179. -/
theorem slotCancelled_cancel (x : Slot) : SlotCancelled x x.cancel := by
  refine ⟨fun h => ?_, fun c h => ?_, fun c n k h => ?_⟩ <;> unfold Slot.cancel <;> rw [h]
  exact h

/-- After a cancel a slot whose frame is not on the line is EMPTY. -/
theorem cancel_isEmpty (x : Slot) (h : x.state.isInFlight = false) : x.cancel.state.isEmpty = true := by
  unfold Slot.cancel
  split
  · rename_i e; rw [e]; rfl
  · rfl
  · rename_i e; rw [e] at h; exact absurd h (by simp [SlotState.isInFlight])

/-- A content that merges with nothing is the newest once it is written. -/
theorem write_newest (x : Slot) (c : Content) (h : ∀ old, mergeContent old c = c) :
    (x.write c).state.newest = some c := by
  unfold Slot.write
  split
  · rfl
  · simp [SlotState.newest, h]
  · rename_i f next k _
    cases next <;> simp [SlotState.newest, h]

theorem writeStatus_newest (s : State) : (s.writeStatus.slot .status).state.newest = some (.status s.statusValues) := by
  unfold State.writeStatus State.writeSlot
  rw [setSlot_slot_same]
  exact write_newest _ _ fun old => by cases old <;> rfl

/-- R53: a change of a carried value leaves STATUS with the values of the moment, at a station that is LINKED and not
DORMANT. -/
theorem statusOnChange_newest (s before : State) (hl : s.mu.membership = .linked) (ha : s.ac.activity ≠ .dormant)
    (h : before.statusValues ≠ s.statusValues) :
    ((s.statusOnChange before).slot .status).state.newest = some (.status s.statusValues) := by
  unfold State.statusOnChange State.statusForChange
  rw [if_pos h, if_pos ⟨hl, ha⟩]
  exact writeStatus_newest s

theorem statusOnChange_dormant (s before : State) (ha : s.ac.activity = .dormant) : s.statusOnChange before = s := by
  unfold State.statusOnChange State.statusForChange
  simp [ha]

end Sys2Proof.Machine
end

