-- ==== Sys2Proof/Laws/Steps.lean ====
section
/-! SUPPORT. What a step is, and what the passing of time and the LC's offer can do. -/

namespace Sys2Proof.Machine

open Sys2Proof

theorem step_front {s : State} {i : Instr} {rest : List Instr} (h : s.pending = i :: rest) :
    step s = exec i { s with pending := rest } := by
  unfold step; rw [h]

theorem step_empty {s : State} (h : s.pending = []) : step s = .next s.elapse := by
  unfold step; rw [h]

theorem elapse_of_down {s : State} (h : s.running = none) : s.elapse = s := by
  unfold State.elapse; simp [h]

theorem elapse_of_running {s : State} {c : Image} (h : s.running = some c) : s.elapse = s.ageAlerts.ageWindow := by
  unfold State.elapse; simp [h]

/-- Time moves the ages of the alert table and the step window's mark, and nothing else. -/
theorem elapse_frame (s : State) : s.elapse =
    { s with
      ru := { s.ru with alerts := s.elapse.ru.alerts }
      srm := { s.srm with stepFresh := s.elapse.srm.stepFresh } } := by
  unfold State.elapse; split <;> rfl

/-- The expiry that follows the event at the same instant has no effect (R108). -/
theorem stepWindowExpiry_fresh {s : State} (h : s.srm.stepFresh = true) : execStepWindowExpiry s = .next s := by
  have : s.timesStep = false := by unfold State.timesStep; simp [h]
  unfold execStepWindowExpiry State.onRunning
  simp only [this]
  split <;> rfl

/-- The offer leaves the state, starts the flight of the best slot, or finds that the line has been taken. -/
theorem offer_cases (s : State) (c : Image) (fresh : Bool) :
    s.offer c fresh = s ∨ ∃ id, s.mayOffer = true ∧ s.bestSlot = some id ∧
      (s.offer c fresh = s.startFlight c id ∨ s.offer c fresh = s.drawFree.startFlight c id ∨
        s.offer c fresh = s.drawFree.mapLc fun l => { l with idle := false }) := by
  unfold State.offer
  split
  · rename_i h
    split
    · exact .inl rfl
    · rename_i id hb
      refine .inr ⟨id, h, hb, ?_⟩
      split
      · exact .inl rfl
      · unfold State.offerIfStillIdle
        split
        · exact .inr (.inl rfl)
        · exact .inr (.inr rfl)
  · exact .inl rfl

/-- At the moment the line becomes idle the best slot goes (R178). -/
theorem offer_fresh {s : State} {c : Image} {id : SlotId} (h : s.mayOffer = true) (hb : s.bestSlot = some id) :
    s.offer c true = s.startFlight c id := by
  unfold State.offer; simp [h, hb]

theorem offer_none {s : State} (c : Image) (fresh : Bool) (h : s.bestSlot = none) : s.offer c fresh = s := by
  unfold State.offer; split
  · rw [h]
  · rfl

/-- After the reunion the outgoing set is the old one and every own share a slot names (R27). -/
theorem mem_rejoinOutgoing (s : State) (c : Image) (j : Nat) :
    j ∈ (s.rejoinOutgoing c).sa.outgoing ↔
      j ∈ s.sa.outgoing ∨ (j ∈ s.holdings c.station ∧ j ∈ s.namedShares) := by
  have hf : ∀ (l a : List Nat), j ∈ l.foldr (List.orderedInsert (· ≤ ·)) a ↔ j ∈ l ∨ j ∈ a := by
    intro l a
    induction l with
    | nil => simp
    | cons x l ih => rw [List.foldr_cons, List.mem_orderedInsert, ih, List.mem_cons, or_assoc]
  have hk : j ∈ (s.keptHoldings c).filter s.namedShares.contains ↔
      (j ∈ s.holdings c.station ∧ j ∉ s.sa.outgoing) ∧ j ∈ s.namedShares := by
    simp [State.keptHoldings, without, and_assoc, and_comm, and_left_comm]
  unfold State.rejoinOutgoing
  split
  · rename_i h
    rw [h] at hk
    simp only [List.not_mem_nil, false_iff, not_and] at hk
    constructor
    · exact .inl
    · rintro (h | ⟨h1, h2⟩)
      · exact h
      · by_contra hn; exact hk ⟨h1, hn⟩ h2
  · simp only [mapSa_sa, hf, hk]
    tauto

/-- The reunion touches the outgoing set alone. -/
theorem rejoinOutgoing_eq (s : State) (c : Image) :
    s.rejoinOutgoing c = s.mapSa fun a => { a with outgoing := (s.rejoinOutgoing c).sa.outgoing } := by
  unfold State.rejoinOutgoing; split <;> rfl

/-- Nothing comes back, nothing changes. -/
theorem rejoinOutgoing_of_out {s : State} {c : Image}
    (h : ∀ j ∈ s.holdings c.station, j ∈ s.namedShares → j ∈ s.sa.outgoing) : s.rejoinOutgoing c = s := by
  have : (s.keptHoldings c).filter s.namedShares.contains = [] := by
    rw [List.filter_eq_nil_iff]
    intro j hj
    simp only [State.keptHoldings, without, List.mem_filter, List.contains_iff_mem, Bool.not_eq_true'] at hj ⊢
    intro hn
    have := h j hj.1 hn
    simp [this] at hj
  unfold State.rejoinOutgoing; rw [this]

/-- The marks of a sender: a receiver's, and ABORT for having stopped (R171, R172). -/
theorem senderMarks_abort (s : State) (c : Image) (found : SenderFindings) :
    (s.senderMarks c found).abort = (found.stopped || receptionUnsound found.frame) := rfl

theorem senderMarks_busy (s : State) (c : Image) (found : SenderFindings) :
    (s.senderMarks c found).busy = (s.marksFor c { found.frame with followed := true }).busy := rfl

/-- The slot of a busy frame that is no reply, once resolved, waits with whatever content is left in it (R183). -/
theorem backOff_pending {x : Slot} {content : Content} (h : x.state = .pending content) :
    x.backOff false = { x with backoff := some 100 } := by
  unfold Slot.backOff; rw [h]; rfl

/-- A slot emptied by its cancel has nothing to hold back. -/
theorem backOff_empty {x : Slot} {reply : Bool} (h : x.state = .empty) : x.backOff reply = x := by
  unfold Slot.backOff; rw [h]

/-- A second's tick takes the mark of the instant away, so the next expiry of the window times (R108). -/
theorem stationSecondsTick_stepFresh {s t : State} (hs : s.supplyGood = true)
    (h : execStationSecondsTick s = .next t) : t.srm.stepFresh = false := by
  unfold execStationSecondsTick at h
  rw [if_pos hs] at h
  injection h with h
  rw [← h]; rfl

end Sys2Proof.Machine
end

