-- ==== Sys2Proof/WellFormed.lean ====
section
/-! DEFINITION. Which commands the world can send: the operand ranges of Tables 11-1, 11-8 and 0-3. -/

namespace Sys2Proof

/-- A payload has at most 64 bytes (R170). -/
def FrameBody.wf (f : FrameBody) : Bool := decide (f.payload.length ≤ 64)

/-- A sub-kind that Table 0-3 lists for its class. -/
def listedSubKind (cls sub : Nat) : Bool :=
  match cls with
  | 0 => decide (sub ≤ 3)
  | 1 => decide (sub ≤ 2)
  | 2 => decide (sub ≤ 2)
  | 3 => true
  | 4 => decide (sub ≤ 3)
  | 5 => decide (sub ≤ 2)
  | 6 => decide (sub ≤ 4)
  | _ => decide (sub ≤ 4)

/-- A completed read attempt clocks in exactly 128 bytes (R188). -/
def ReadAttempt.wf : ReadAttempt → Bool
  | .noAcknowledge => true
  | .clockHeld => true
  | .dataLow => true
  | .bytes l => decide (l.length = 128)

/-- The operands of a command lie in the ranges the lines and tables of the manual give. -/
def Instr.wf : Instr → Bool
  | .powerOn => true
  | .resetLinePulse => true
  | .resetLineRelease => true
  | .configReadAttempt r => r.wf
  | .configRetryWaitExpiry => true
  | .stationSecondsTick => true
  | .minuteBoundary => true
  | .rainPulse _ => true
  | .tideInputChange _ => true
  | .tideStateChange => true
  | .sampleTimerExpiry => true
  | .sensorReply r => decide (r.bytes.length ≤ 7)
  | .replyWindowClose => true
  | .mergeTimerExpiry => true
  | .lineIdle => true
  | .lostArbitration => true
  | .frameBreakOff => true
  | .frameAbortedOrBusy _ => true
  | .ownFrameAborted _ => true
  | .ownFrameBusy => true
  | .busyBackoffExpiry _ => true
  | .claimSpacingExpiry => true
  | .table _ f => f.wf
  | .absent f => f.wf
  | .reclaim f => f.wf
  | .curtail f => f.wf
  | .yield f => f.wf
  | .release f => f.wf
  | .withdraw f => f.wf
  | .claim _ f => f.wf
  | .alert _ f => f.wf
  | .join f => f.wf
  | .status f => f.wf
  | .dormant f => f.wf
  | .query f => f.wf
  | .recack f => f.wf
  | .period f => f.wf
  | .clear f => f.wf
  | .restart f => f.wf
  | .record f => f.wf
  | .norec f => f.wf
  | .counts f => f.wf
  | .conditions f => f.wf
  | .notice f => f.wf
  | .listenTimerExpiry => true
  | .restartHoldExpiry => true
  | .burstHoldExpiry => true
  | .joinWaitExpiry => true
  | .loadTimerExpiry => true
  | .lockTimerExpiry => true
  | .lastHeardExpiry n => decide (1 ≤ n ∧ n ≤ 48)
  | .strandingTimerExpiry n => decide (1 ≤ n ∧ n ≤ 48)
  | .silenceTimerExpiry => true
  | .quietTimerExpiry => true
  | .presenceTimerExpiry => true
  | .refreshTimerExpiry => true
  | .alertAgeExpiry z => decide (1 ≤ z ∧ z ≤ 15)
  | .stepWindowExpiry => true
  | .calmTimerExpiry => true
  | .parkTimerExpiry => true
  | .dormancyDelayExpiry => true
  | .wakeRecoveryExpiry => true
  | .supplyBelowThreshold => true
  | .unlistedSubKindFrame c k f => f.wf && !listedSubKind c.toNat k.toNat

end Sys2Proof
end

