-- ==== Sys2Proof/Tests/Slice0.lean ====
section
/-! SUPPORT. The model's own tests: ill-formed terms that WellFormed refuses, one-step checks from the manual's worked
sequences, and for each statement a state and operands that meet its hypotheses. -/

namespace Sys2Proof.Tests

open Sys2Proof Sys2Proof.Machine

set_option Elab.async false

/-! ## A station to test on -/

/-- Bytes 0 to 31 of the image. -/
def imageHead : List Byte :=
  [9, 3, 1, 2, 0, 0, 0, 0, 8, 4, 1, 44, 3, 132, 7, 8, 14, 216, 5, 220, 0, 200, 7, 208, 5, 0, 60, 2, 2, 0, 10, 2]

/-- Bytes 32 to 61. -/
def imageMiddle : List Byte :=
  [0, 20, 0, 50, 0, 100, 0, 40, 0, 100, 0, 200, 0, 60, 0, 180, 10, 60, 2, 10, 6, 0, 30, 20, 0, 120, 0, 30, 0, 60]

/-- Bytes 62 to 67. -/
def imageTail : List Byte := [10, 0, 24, 52, 0, 4]

/-- An image of station 9 in zone 3, heeding zone 2, with P = 8 and H = 4 (sections 12.1 and 12.4). -/
def imageBytes : List Byte := imageHead ++ imageMiddle ++ imageTail ++ List.replicate 29 0 ++ List.replicate 29 0 ++ [0x8e, 0xb6]

/-- The image's latched form. -/
def img : Image :=
  { station := 9, zone := 3, heeded := [2], bitRate := .kbit20, pool := 8, maxHold := 4,
    tankEmpty := 300, drawdown := 900, claimLevel := 1800, tankFull := 3800,
    capture := 1500, hysteresis := 200, crest := 2000, sampleInterval := 5, dormantSample := 60,
    onsetCount := 2, settleCount := 2, mergeWindow := 10, pulseDepth := 2,
    d5Watch := 20, d5Warn := 50, d5Severe := 100, d15Watch := 40, d15Warn := 100, d15Severe := 200,
    alertRefresh := 60, alertLifetime := 180, stepWindow := 10, calmTime := 60,
    presence := 2, absence := 10, silence := 6, stranding := 30, travel := 20, park := 120,
    dormancyDelay := 30, dormantPresence := 60, wakeRecovery := 10, logMode := .keep, watermark := 24,
    noticeTarget := 52, noticeMask := 4 }

/-- A running station in a membership state, following the line. -/
def on (m : Membership) : State :=
  { State.reset with
    supplyGood := true
    cl := { load := .good, image := some img, attempts := 0, retry := none, afterPulse := false }
    lc := { LcState.reset with following := true }
    mu := { MuState.reset with membership := m } }

/-- A LINKED roster entry. -/
def linkedEntry (urgency : Nat) : RosterEntry :=
  { state := .linked, dormant := false, urgency := urgency, lastHeard := some 10000, stranding := none }

/-- Station 30, declared absent. -/
def absentEntry : RosterEntry :=
  { state := .absent, dormant := false, urgency := 0, lastHeard := none, stranding := some 30000 }

/-- A roster with these entries and no others. -/
def rosterOf (l : List (Nat × RosterEntry)) : List RosterEntry :=
  l.foldl (fun r p => updateAt (fun _ => p.2) (p.1 - 1) r) (List.replicate 48 .blank)

/-- Stations 4, 9 and 15 LINKED at these urgencies, and 30 ABSENT. -/
def trioRoster (u4 u9 u15 : Nat) : List RosterEntry :=
  rosterOf [(4, linkedEntry u4), (9, RosterEntry.linkedNow none), (9, { linkedEntry u9 with lastHeard := none }),
    (15, linkedEntry u15), (30, absentEntry)]

/-- Station 9 LINKED with stations 4 and 15 (section 12.1). -/
def trio (u4 u9 u15 q : Nat) (shares : List Share) (claims : List Claim) : State :=
  { on .linked with
    mu :=
      { (on .linked).mu with
        roster := some (trioRoster u4 u9 u15), presence := some 2000, silence := some 6000 }
    sa := { SaState.reset with shares := some shares, curtail := some q, claims := claims } }

/-- Shares from holder numbers: 0 is FREE, 99 WITHHELD, 100 + n STRANDED by n. -/
def sharesFrom (l : List Nat) : List Share :=
  l.map fun n => if n = 0 then .free else if n = 99 then .withheld else if 100 < n then .stranded (n - 100) else .held n

/-- A LINKED station with some of everything in its tables. -/
def linked : State := trio 4 2 6 7 (sharesFrom [4, 9, 15, 15, 130, 15, 4, 99]) [⟨15, 1, 1⟩]

def body (sender addressee : BitVec 6) (payload : List Byte) : FrameBody :=
  { sender := sender, addressee := addressee, payload := payload }

/-- The state a command leads to. -/
def after (r : Result) : State :=
  match r with
  | .next t => t
  | _ => State.reset

/-- A slot PENDING with a content. -/
def waiting (c : Content) : Slot := { state := .pending c, backoff := none, busy := 0 }

/-- A slot IN FLIGHT. -/
def flying (c : Content) : Slot := { state := .inFlight c none false, backoff := none, busy := 0 }

/-- A STATUS content. -/
def status0 : Content := .status ⟨0, .idle, .shut, .quiet, 0⟩

/-- An open record. -/
def record0 : SpillRecord :=
  { episode := 1, start := 5000, stop := 5005, seconds := 10, spells := 1, peak := 2100, depthTime := 700,
    period := 7, sensor := false, resetCut := false, tidePart := none, stormPart := none }

/-- A log record with a sequence. -/
def logged (n : Nat) : LogRecord := { sequence := BitVec.ofNat 16 n, record := record0, announced := false }

/-- A log of n records, the first of sequence 0. -/
def logOf (n : Nat) : List LogRecord := (List.range n).map logged

/-- A chamber channel GOOD at a level. -/
def good (l : Nat) : Channel := { level := some l, quality := .good }

/-- A sound sensor reply: chamber 2,040 mm GOOD, tank 1,000 mm GOOD. -/
def reply0 : SensorReply := { bytes := [7, 248, 0, 3, 232, 0, 234], byteFault := false }

/-! ## Ill-formed terms are refused -/

theorem test_wf_payload : (Instr.status (body 4 0 (List.replicate 65 0))).wf = false := by decide
theorem test_wf_payload_at_limit : (Instr.status (body 4 0 (List.replicate 64 0))).wf = true := by decide
theorem test_wf_read_attempt : (Instr.configReadAttempt (.bytes (List.replicate 127 0))).wf = false := by decide +kernel
theorem test_wf_reply : (Instr.sensorReply { bytes := List.replicate 8 0, byteFault := false }).wf = false := by decide
theorem test_wf_last_heard : (Instr.lastHeardExpiry 49).wf = false ∧ (Instr.lastHeardExpiry 0).wf = false := by decide
theorem test_wf_stranding :
    (Instr.strandingTimerExpiry 49).wf = false ∧ (Instr.strandingTimerExpiry 0).wf = false := by decide
theorem test_wf_alert_age : (Instr.alertAgeExpiry 16).wf = false ∧ (Instr.alertAgeExpiry 0).wf = false := by decide
theorem test_wf_unlisted : (Instr.unlistedSubKindFrame 1 2 (body 4 0 [])).wf = false ∧
    (Instr.unlistedSubKindFrame 1 3 (body 4 0 [])).wf = true := by decide
theorem test_wf_unlisted_payload :
    (Instr.unlistedSubKindFrame 1 3 (body 4 0 (List.replicate 65 0))).wf = false := by decide

/-! ## Layouts -/

theorem test_check_head : (bitsOfBytes imageHead).foldl crcStep 0xFFFF#16 = 0x52bc#16 := by decide +kernel
theorem test_check_middle : (bitsOfBytes imageMiddle).foldl crcStep 0x52bc#16 = 0x443e#16 := by decide +kernel
theorem test_check_tail : (bitsOfBytes imageTail).foldl crcStep 0x443e#16 = 0xee70#16 := by decide +kernel
theorem test_check_zeros :
    (bitsOfBytes (List.replicate 29 0)).foldl crcStep 0xee70#16 = 0x5711#16 ∧
      (bitsOfBytes (List.replicate 29 0)).foldl crcStep 0x5711#16 = 0x8eb6#16 := by decide +kernel

theorem test_image_check : imageCheck imageBytes = true := by
  have parts : imageBytes.take 126 =
      imageHead ++ (imageMiddle ++ (imageTail ++ (List.replicate 29 0 ++ List.replicate 29 0))) := by decide
  have whole : crc (bitsOfBytes (imageBytes.take 126)) = 0x8eb6#16 := by
    rw [parts]
    simp only [crc, bitsOfBytes, List.flatMap_append, List.foldl_append]
    have h := test_check_head
    have m := test_check_middle
    have l := test_check_tail
    have z := test_check_zeros
    simp only [bitsOfBytes] at h m l z
    rw [h, m, l, z.1, z.2]
  simp only [imageCheck, whole]
  decide +kernel

theorem test_image_judged : judgeImage imageBytes = some img := by decide +kernel
theorem test_sensor_reply : readReply reply0 = some (good 2040, good 1000) := by decide
theorem test_station_set : stationSetBytes [1, 9, 48] = [128, 128, 0, 0, 0, 1] ∧
    stationsOf [128, 128, 0, 0, 0, 1] = [1, 9, 48] := by decide +kernel
theorem test_record_length : ({ logged 20 with
    record := { record0 with tidePart := some 10, stormPart := some ⟨3, .severe⟩ } } : LogRecord).bytes.length = 33 := by
  decide

/-! ## Section 12.1: the three-station storm, at station 9 -/

theorem test_claim_step1 : (after (exec (.claim 3 (body 4 0 [4])) (trio 0 0 0 8 (sharesFrom [0, 0, 0, 0, 0, 0, 0, 0]) []))).tables =
    (some (sharesFrom [4, 4, 4, 4, 0, 0, 0, 0]), some 8, []) := by decide +kernel
theorem test_claim_step4 : (after (exec (.claim 0 (body 15 0 [4])) (trio 4 0 2 8 (sharesFrom [4, 4, 4, 4, 9, 9, 9, 9]) []))).tables =
    (some (sharesFrom [4, 4, 4, 4, 9, 9, 9, 9]), some 8, [⟨15, 4, 1⟩]) := by decide +kernel
theorem test_yield_step5 :
    (after (exec (.yield (body 9 0 [7])) (trio 4 0 7 8 (sharesFrom [4, 4, 4, 4, 9, 9, 9, 9]) [⟨15, 4, 1⟩]))).tables =
    (some (sharesFrom [4, 4, 4, 4, 9, 9, 9, 15]), some 8, [⟨15, 3, 1⟩]) := by decide +kernel
theorem test_yield_step5_yielder : (trio 4 0 7 8 (sharesFrom [4, 4, 4, 4, 9, 9, 9, 15]) [⟨15, 3, 1⟩]).yielder = some 9 := by
  decide +kernel
theorem test_release_step6 :
    (after (exec (.release (body 9 0 [15, 0, 0, 0, 0, 0, 0, 0]))
      (trio 4 0 7 8 (sharesFrom [4, 4, 4, 4, 9, 9, 9, 15]) [⟨15, 3, 1⟩]))).tables =
    (some (sharesFrom [4, 4, 4, 4, 15, 15, 15, 15]), some 8, []) := by decide +kernel

/-! ## Section 12.2: a curtail during draining -/

theorem test_curtail_step4 :
    (after (exec (.curtail (body 50 0 [8])) (trio 4 4 7 5 (sharesFrom [4, 4, 4, 4, 15, 99, 99, 99]) [⟨9, 4, 1⟩]))).tables =
    (some (sharesFrom [4, 4, 4, 4, 15, 9, 9, 9]), some 8, [⟨9, 1, 1⟩]) := by decide +kernel
theorem test_curtail_above_pool : (after (exec (.curtail (body 50 0 [9])) linked)).tables = linked.tables := by
  decide +kernel

/-! ## Section 12.3: absence and the return -/

theorem test_absent_1010 :
    (after (exec (.absent (body 4 0 [0, 2, 0, 0, 0, 0])) (trio 4 5 6 8 (sharesFrom [4, 4, 4, 9, 15, 15, 15, 15]) [⟨9, 3, 1⟩]))).tables =
    (some (sharesFrom [4, 4, 4, 9, 115, 115, 115, 115]), some 8, [⟨9, 3, 1⟩]) := by decide +kernel

/-- Station 15 ABSENT with its shares STRANDED. -/
def after1010 : State :=
  (trio 4 5 6 8 (sharesFrom [4, 4, 4, 9, 115, 115, 115, 115]) [⟨9, 3, 1⟩]).mapEntry 15 fun _ => absentEntry

theorem test_join_1026 :
    let t := after (exec (.join (body 15 0 [8])) after1010)
    t.tables = (some (sharesFrom [4, 4, 4, 9, 9, 9, 9, 0]), some 8, []) ∧ t.entryState 15 = .joining ∧
      t.mu.lock = some ⟨15, 4, true⟩ := by decide +kernel
theorem test_reclaim_1040 :
    (after (exec (.reclaim (body 4 0 [0, 2, 0, 0, 0, 0])) after1010)).tables =
    (some (sharesFrom [4, 4, 4, 9, 9, 9, 9, 0]), some 8, []) := by decide +kernel

/-! ## Section 12.4: the episode and the log -/

/-- Station 9 one sample into the onset, at 5005 s, in STORM. -/
def at5005 : State :=
  { on .linked with
    seconds := 5005
    srm := { SrmState.reset with readiness := .storm, trigger := some ⟨3, .severe⟩ }
    sc :=
      { ScState.reset with
        episode := .onset, onsetCounter := 1, total := 20, period := 7
        onset := { start := 5000, seconds := 5, depthTime := 200, peak := 2040, sensor := false } } }

theorem test_opening_5005 :
    (at5005.spillSample img (good 2100)).sc.record = some
      { record0 with episode := 21, stormPart := some ⟨3, .severe⟩ } ∧
    (at5005.spillSample img (good 2100)).sc.total = 21 ∧ (at5005.spillSample img (good 2100)).sc.periodCount = 1 := by
  decide +kernel

/-- The log of section 12.4 before the acknowledgement. -/
def read4 : State := { linked with rs := { RsState.reset with log := [logged 17, logged 18, logged 19, logged 20], written := 21 } }

theorem test_recack_19 : (after (exec (.recack (body 52 9 [0, 19])) read4)).rs.log = [logged 20] := by decide +kernel
theorem test_query_17 :
    let t := after (exec (.query (body 52 9 [0, 0, 17])) read4)
    (t.slot .reply0).state = .pending (.reply 52 (.record 0 3 (logged 17))) ∧
      (t.slot .reply1).state = .pending (.reply 52 (.record 1 3 (logged 18))) ∧
      (t.slot .reply2).state = .pending (.reply 52 (.record 2 3 (logged 19))) ∧ t.slotEmpty .reply3 = true := by
  decide +kernel

/-! ## The rules that every step keeps, at one state that has something for each of them -/

/-- A LINKED, DRAINING station in STORM with an open episode, a claim-list entry, records, and a command waiting. -/
def kept : State :=
  { trio 4 2 6 8 (sharesFrom [4, 9, 15, 15, 130, 15, 4, 9]) [⟨15, 1, 1⟩] with
    ts :=
      { TsState.reset with
        tankLevel := some 1000, tankQuality := .suspect, chamberLevel := some 2100, chamberQuality := .good
        urgency := 7, drain := .draining, valve := 2 }
    ru := { RuState.reset with ring := List.replicate 15 0 }
    srm := { SrmState.reset with readiness := .storm, calm := some 3600000, trigger := some ⟨3, .severe⟩ }
    sc := { ScState.reset with episode := .spilling, record := some record0, total := 3 }
    rs :=
      { RsState.reset with
        log := [logged 0, logged 1], written := 2, latched := 1
        queue := List.replicate 4 ⟨52, .counts⟩ }
    pending := [.stationSecondsTick] }

theorem kept_running (c : Image) (h : kept.running = some c) : c = img := Option.some.inj (h.symm.trans rfl)

theorem hyp_Kept_step : ∃ t, step kept = .next t := ⟨_, rfl⟩

theorem hyp_ValveRuleKept : ValveRule kept := by
  refine ⟨fun h => ?_, fun c hc _ _ _ => ?_⟩
  · rcases h with h | h | h <;> exact absurd rfl h
  · rw [kept_running c hc]; decide +kernel

theorem hyp_ValveRuleKept_draining : kept.running = some img ∧ kept.mu.membership = .linked ∧
    kept.ac.activity = .active ∧ kept.ts.drain = .draining := ⟨rfl, rfl, rfl, rfl⟩

theorem hyp_FollowingRulesKept : UrgencyRule kept ∧ FlagRule kept ∧ CalmRule kept ∧ SilenceRule kept := by
  refine ⟨fun c hc => ?_, fun c hc => ?_, fun c hc _ => ?_, fun c hc => ?_⟩ <;> cases kept_running c hc
  · refine ⟨fun h => ?_, fun l _ hl => ?_⟩
    · rcases h with h | h <;> exact absurd h (by decide +kernel)
    · cases Option.some.inj (hl.symm.trans (rfl : kept.tankNow = some 1000))
      exact ⟨fun _ => rfl, fun h _ => absurd rfl h⟩
  · decide +kernel
  · exact ⟨fun _ => by decide +kernel, fun _ => rfl⟩
  · exact ⟨fun _ => ⟨rfl, 15, by decide +kernel⟩, fun _ => rfl⟩

theorem hyp_RainRuleKept : LoadRule kept ∧ RainRule kept := by
  refine ⟨⟨⟨fun _ => rfl, fun _ => rfl⟩, fun h => absurd h (by decide +kernel), fun _ => rfl⟩, by decide +kernel,
    fun h => absurd h (by decide +kernel), fun c hc => ?_⟩
  rw [kept_running c hc]; decide +kernel

theorem hyp_BoundsKept_record : QueueRule kept ∧ LogRule kept := by
  refine ⟨(by decide : kept.rs.queue.length ≤ queueSize), by decide +kernel, fun i r h => ?_⟩
  match i with
  | 0 => cases Option.some.inj (h.symm.trans (rfl : kept.rs.log[0]? = some (logged 0))); decide +kernel
  | 1 => cases Option.some.inj (h.symm.trans (rfl : kept.rs.log[1]? = some (logged 1))); decide +kernel
  | n + 2 => exact absurd h (by simp [kept])

theorem hyp_CountRuleKept : LoadRule kept ∧ CountRule kept :=
  ⟨hyp_RainRuleKept.1, by decide +kernel, by decide +kernel, fun _ => rfl⟩

theorem hyp_BoundsKept_shape : ShapeRule kept := by
  refine ⟨fun r h => ?_, fun l h => ?_⟩
  · cases Option.some.inj (h.symm.trans (rfl : kept.mu.roster = some (trioRoster 4 2 6))); decide +kernel
  · cases Option.some.inj (h.symm.trans (rfl : kept.ru.alerts = some (List.replicate 15 ZoneEntry.blank)))
    decide +kernel

theorem hyp_BoundsKept_notice : NoticeRule kept := by
  show ∀ id ∈ noticeSlots, kept.flightCancelled id = false
  decide +kernel

theorem hyp_BoundsKept_roster : LoadRule kept ∧ ShapeRule kept ∧ RosterRule kept ∧ kept.running = some img ∧
    1 ≤ img.station ∧ img.station ≤ 48 ∧ kept.mu.membership = .linked := by
  refine ⟨hyp_RainRuleKept.1, hyp_BoundsKept_shape, ⟨⟨fun _ => .inl rfl, fun _ => rfl⟩, fun c hc _ _ _ => ?_⟩, rfl,
    by decide, by decide, rfl⟩
  rw [kept_running c hc]; decide +kernel

/-- The shares of `kept`, with Q at 7 and share 7 WITHHELD. -/
def keptShares : List Share := sharesFrom [4, 9, 15, 15, 130, 15, 4, 99]

theorem hyp_WaitingRuleKept : WaitingRule linked ∧ linked.sa.claims ≠ [] ∧ isTableCommand (.yield (body 4 0 [0])) = false := by
  refine ⟨fun sh h => ?_, by decide +kernel, rfl⟩
  cases Option.some.inj (h.symm.trans (rfl : linked.sa.shares = some keptShares))
  refine ⟨fun _ => by decide +kernel, fun q hq => ?_⟩
  cases Option.some.inj (hq.symm.trans (rfl : linked.sa.curtail = some 7))
  have w : ∀ i : Fin 8, (keptShares[i.val]? = some .withheld → 7 ≤ i.val) ∧
      (keptShares[i.val]? = some .free → i.val < 7) := by decide +kernel
  refine ⟨fun i hi => ?_, fun i hi => ?_⟩
  · by_cases l : i < 8
    · exact (w ⟨i, l⟩).1 hi
    · omega
  · by_cases l : i < 8
    · exact (w ⟨i, l⟩).2 hi
    · rw [List.getElem?_eq_none (by simp [sharesFrom]; omega)] at hi; cases hi

theorem hold_of_small {s : State} {sh : List Share} (h : s.sa.shares = some sh)
    (hs : ∀ x ∈ sh, ∀ n, x = Share.held n → n < 64) (hc : ∀ e ∈ s.sa.claims, e.claimant < 64)
    (hd : (s.sa.claims.map Claim.claimant).Nodup) (hr : ∀ e ∈ s.sa.claims, 1 ≤ e.remaining)
    (small : ∀ n ∈ List.range 64, (s.holdings n).length + s.awaits n ≤ 8) : HoldRule s := by
  refine ⟨hd, hr, fun n => ?_⟩
  by_cases l : n < 64
  · exact small n (List.mem_range.mpr l)
  · have a : s.holdings n = [] := by
      simp only [State.holdings, h, heldBy, List.filter_eq_nil_iff, List.mem_range]
      intro i _ hi
      have hi : sh[i]?.getD .free = Share.held n := of_decide_eq_true hi
      have hi : sh[i]? = some (Share.held n) := by
        cases hx : sh[i]? with
        | none => rw [hx] at hi; cases hi
        | some x => rw [hx] at hi; exact congrArg some hi
      exact l (hs _ (List.mem_of_getElem? hi) n rfl)
    have b : s.claimOf n = none := by
      simp only [State.claimOf, List.find?_eq_none, decide_eq_true_eq]
      intro e he hn
      exact l (hn ▸ hc e he)
    simp [a, State.awaits, b]

theorem held_small {sh : List Share} (h : (sh.all fun x => match x with | .held n => decide (n < 64) | _ => true) = true) :
    ∀ x ∈ sh, ∀ n, x = Share.held n → n < 64 := by
  intro x hx n hn
  have := List.all_eq_true.mp h x hx
  subst hn
  simpa using this

theorem hyp_HoldRuleKept : HoldRule linked ∧ isTableCommand (.yield (body 4 0 [0])) = false :=
  ⟨hold_of_small rfl (held_small (by decide +kernel)) (by decide +kernel) (by decide +kernel) (by decide +kernel)
    (by decide +kernel), rfl⟩

/-! ## Supply, reset line, configuration, station seconds -/

theorem hyp_QueueFrontRuns : State.reset.pending = [] ∧ State.reset.running = none ∧ linked.pending = [] ∧
    linked.running = some img := ⟨rfl, rfl, rfl, rfl⟩

/-- An open record and a log of n. -/
def cutting (n : Nat) : State :=
  { linked with
    sc := { ScState.reset with episode := .spilling, record := some record0 }
    rs := { RsState.reset with log := logOf n, written := BitVec.ofNat 32 n } }

/-- A station whose image has the log mode OVERWRITE. -/
def overwriting (s : State) : State := { s with cl := { s.cl with image := some { img with logMode := .overwrite } } }

theorem hyp_ResetLinePulse : linked.supplyGood = true ∧ linked.sc.record = none ∧ (cutting 31).supplyGood = true ∧
    (cutting 31).cl.image = some img ∧ (cutting 31).sc.record = some record0 ∧ (cutting 31).rs.log.length < 32 ∧
    32 ≤ (cutting 32).rs.log.length ∧ img.logMode = .keep ∧ (overwriting (cutting 32)).supplyGood = true ∧
    (overwriting (cutting 32)).cl.image = some { img with logMode := .overwrite } ∧
    (overwriting (cutting 32)).sc.record = some record0 ∧ 32 ≤ (overwriting (cutting 32)).rs.log.length := by
  decide +kernel

theorem test_pulse_overwrites : (after (exec .resetLinePulse (overwriting (cutting 32)))).rs.log =
    (logOf 32).drop 1 ++ [{ logged 32 with record := { record0 with resetCut := true } }] := by decide +kernel

theorem hyp_SupplyAndLoading_release : { State.reset with supplyGood := true, resetHeld := true }.supplyGood = true ∧
    { State.reset with supplyGood := true, resetHeld := true }.resetHeld = true := ⟨rfl, rfl⟩

/-- A load under way, with this many failed attempts. -/
def reading (attempts : Nat) (afterPulse : Bool) (records : Nat) : State :=
  { State.reset with
    supplyGood := true
    cl := { load := .reading, image := none, attempts := attempts, retry := none, afterPulse := afterPulse }
    rs := { RsState.reset with log := logOf records } }

theorem test_bad_zone : judgeImage (updateAt (fun _ => 16) 1 imageBytes) = none := by decide +kernel

theorem hyp_SupplyAndLoading : (reading 1 false 0).attempting = true ∧ goodBytes .clockHeld = none ∧
    (reading 1 false 0).cl.attempts < 2 ∧ (reading 2 false 0).attempting = true ∧ (reading 2 false 0).cl.attempts = 2 ∧
    (reading 0 false 0).cl.load = .reading := by decide

/-- Zero bytes with their check word: an image that reads whole and is out of range. -/
def emptyImage : List Byte :=
  List.replicate 42 0 ++ List.replicate 42 0 ++ List.replicate 42 0 ++ [0x7e, 0xd1]

theorem test_check_empty :
    (bitsOfBytes (List.replicate 42 0)).foldl crcStep 0xFFFF#16 = 0xbe39#16 ∧
      (bitsOfBytes (List.replicate 42 0)).foldl crcStep 0xbe39#16 = 0x5eae#16 ∧
      (bitsOfBytes (List.replicate 42 0)).foldl crcStep 0x5eae#16 = 0x7ed1#16 := by decide +kernel

theorem test_empty_image_check : imageCheck emptyImage = true := by
  have parts : emptyImage.take 126 = List.replicate 42 0 ++ (List.replicate 42 0 ++ List.replicate 42 0) := by
    decide +kernel
  have whole : crc (bitsOfBytes (emptyImage.take 126)) = 0x7ed1#16 := by
    rw [parts]
    simp only [crc, bitsOfBytes, List.flatMap_append, List.foldl_append]
    have z := test_check_empty
    simp only [bitsOfBytes] at z
    rw [z.1, z.2.1, z.2.2]
  simp only [imageCheck, whole]
  decide +kernel

theorem hyp_SupplyAndLoading_unfit : goodBytes (.bytes emptyImage) = some emptyImage ∧
    judgeImage emptyImage = none :=
  ⟨by simp only [goodBytes, test_empty_image_check, if_pos], by decide +kernel⟩

theorem hyp_GoodLoadStartsWork : (reading 2 false 0).attempting = true ∧ (reading 0 true 24).attempting = true ∧
    (reading 0 true 24).cl.afterPulse = true ∧ (reading 2 false 0).cl.afterPulse = false ∧
    img.watermark ≤ (reading 0 true 24).rs.log.length ∧
    goodBytes (.bytes imageBytes) = some imageBytes ∧ judgeImage imageBytes = some img := by
  refine ⟨rfl, rfl, rfl, rfl, by decide, ?_, test_image_judged⟩
  simp only [goodBytes, test_image_check, if_pos]

theorem hyp_GoodImageIsChecked : judgeImage imageBytes = some img := test_image_judged

theorem hyp_StationSecondsTick : linked.supplyGood = true ∧
    { linked with seconds := 4294967295 }.seconds = 4294967295 := ⟨rfl, rfl⟩

/-! ## Plant lines -/

theorem hyp_RainCommands : linked.running = some img ∧ linked.seconds.toNat % 60 = 0 ∧
    { linked with seconds := 61 }.seconds.toNat % 60 ≠ 0 := by decide

/-- A last counted pulse at 5 s. -/
def pulsed : State := { linked with ru := { RuState.reset with chatter := some 5000 } }

theorem hyp_RainCommands_pulse : pulsed.running = some img ∧ pulsed.ru.chatter = some 5000 ∧ 5000 + 1000 ≤ 6000 ∧
    5999 < 5000 + 1000 := by decide

theorem hyp_RainCommands_dormant : { pulsed with ac := { AcState.reset with activity := .dormant } }.ac.activity = .dormant :=
  rfl

/-- The tide input has fallen and its 2 s run; the chamber stands at the crest. -/
def falling : State :=
  { linked with
    tidePin := .shut
    ts := { TsState.reset with tideStable := some 2000, chamberLevel := some 2000, chamberQuality := .good } }

theorem hyp_TideCommands : linked.running = some img ∧ Tide.shut ≠ linked.tidePin ∧ falling.running = some img ∧
    falling.ts.tideStable.isSome = true ∧ falling.tidePin = .shut ∧ img.crest ≤ 2000 := by decide

/-- A window open on a LINKED station, in an activity state. -/
def sampling (a : Activity) : State :=
  { linked with
    ts := { TsState.reset with sampleTimer := some 5000, window := some 2500 }, ac := { AcState.reset with activity := a } }

theorem hyp_SampleWindows_timer : (sampling .active).running = some img ∧ (sampling .active).ts.sampleTimer.isSome = true ∧
    (sampling .dormant).ts.window.isSome = true ∧ (sampling .dormant).ac.activity ≠ .waking ∧
    { sampling .active with ts := { TsState.reset with sampleTimer := some 5000 } }.ts.window = none := by decide

theorem hyp_SensorReplyCommand : (sampling .active).running = some img ∧ (sampling .active).ts.window.isSome = true ∧
    readReply reply0 = some (good 2040, good 1000) ∧ (sampling .active).ac.activity ≠ .waking ∧
    (good 2040).level = some 2040 ∧ (sampling .waking).ts.window.isSome = true ∧ (sampling .waking).ac.activity = .waking ∧
    readReply { bytes := [78, 33, 0, 3, 232, 0, 90], byteFault := false } = some (Channel.failed, good 1000) := by
  decide +kernel

theorem hyp_SampleWindows_close : (sampling .dormant).running = some img ∧ (sampling .dormant).ts.window.isSome = true ∧
    (sampling .dormant).ac.activity ≠ .waking ∧ (sampling .dormant).ac.activity = .dormant := by decide

/-! ## Episodes -/

theorem hyp_SampleKinds : (good 2000).level = some 2000 ∧ 2000 ≤ 2000 ∧ (good 1999).level = some 1999 ∧ 1999 < 2000 ∧
    Channel.failed.level = none := by decide

/-- A station in an episode state, the counters one short of their counts. -/
def episodeAt (e : Episode) (tide : Tide) : State :=
  { linked with
    ts := { TsState.reset with tide := tide }
    sc :=
      { ScState.reset with
        episode := e, onsetCounter := 1, settleCounter := 1, merge := some 600000
        record := if e.isOpen then some record0 else none } }

theorem hyp_SamplesMoveTheEpisode_spilling : judgeSample 2000 (good 2000) .opened = .spilling 2000 ∧
    (episodeAt .clear .opened).sc.episode = .clear ∧ 1 < img.onsetCount ∧ (episodeAt .onset .opened).sc.episode = .onset ∧
    img.onsetCount ≤ (episodeAt .onset .opened).sc.onsetCounter + 1 ∧
    (episodeAt .spilling .opened).sc.record = some record0 ∧ (episodeAt .settling .opened).sc.record = some record0 ∧
    (episodeAt .mergeWait .opened).sc.record = some record0 ∧ (episodeAt .mergeWait .opened).sc.episode = .mergeWait ∧
    { img with onsetCount := 1 }.onsetCount ≤ 1 ∧ { img with onsetCount := 16 }.onsetCount = 16 ∧ 1 + 1 < 16 := by
  decide

theorem hyp_SamplesMoveTheEpisode_nonSpilling : judgeSample 2000 (good 1999) .opened = .nonSpilling 1999 false ∧
    judgeSample 2000 (good 2000) .shut = .nonSpilling 2000 true ∧ (episodeAt .spilling .shut).sc.episode = .spilling ∧
    1 < img.settleCount ∧ (episodeAt .settling .shut).sc.episode = .settling ∧
    img.settleCount ≤ (episodeAt .settling .shut).sc.settleCounter + 1 ∧ 0 < img.mergeWindow ∧
    { img with settleCount := 1 }.settleCount ≤ 1 ∧ { img with mergeWindow := 0 }.mergeWindow = 0 ∧
    (episodeAt .settling .shut).sc.record = some record0 ∧ (episodeAt .settling .shut).rs.log.length < 32 := by decide

theorem hyp_SamplesMoveTheEpisode_unknown : judgeSample 2000 Channel.failed .opened = .unknown ∧
    (episodeAt .onset .opened).sc.episode = .onset ∧ (episodeAt .settling .opened).sc.record = some record0 := by decide

/-- A closing episode on a log of n records. -/
def closing (n : Nat) : State :=
  { episodeAt .mergeWait .opened with rs := { RsState.reset with log := logOf n } }

theorem hyp_MergeTimerExpiry : (closing 31).running = some img ∧ (closing 31).sc.merge.isSome = true ∧
    (closing 31).sc.record = some record0 ∧ (closing 31).rs.log.length < 32 ∧ 32 ≤ (closing 32).rs.log.length ∧
    img.logMode = .keep ∧ { img with logMode := .overwrite }.logMode = .overwrite := by decide +kernel

/-! ## The line -/

theorem hyp_LineIdle : (linked.setSlot .status (waiting status0)).running = some img := rfl

/-- The same station on an idle line. -/
def idled (s : State) : State := s.mapLc fun l => { l with idle := true }

theorem hyp_OfferTakesTheLowestKey :
    (idled (linked.setSlot .status (waiting status0))).mayOffer = true ∧
      (idled (linked.setSlot .status (waiting status0))).bestSlot = some .status ∧
      (idled (linked.setSlot .table (waiting (.table 0 30 [])))).bestSlot = some .table ∧
      (idled ((on .listening).setSlot .join (waiting (.join 8)))).bestSlot = some .join ∧
      (idled (linked.setSlot .claim (waiting (.claim 4 4)))).bestSlot = some .claim ∧
      (idled ((sampling .dormant).setSlot .alert (waiting (.alert 3 .warn)))).bestSlot = some .alert ∧
      (idled ((sampling .waking).setSlot .table (waiting (.table 0 30 [])))).bestSlot = some .table ∧
      (idled ((on .joining).setSlot .join (waiting (.join 8)))).eligible .join = true ∧
      (idled ((on .loading).setSlot .join (waiting (.join 8)))).eligible .join = false ∧
      (idled ((on .isolated).setSlot .noticeStart (waiting (.noticeStart 52 1 0 0 false false)))).eligible .noticeStart = true ∧
      (idled (on .linked)).bestSlot = none ∧ (on .linked).mayOffer = false := by decide +kernel

theorem test_slot_ready_on_a_busy_line :
    (after (exec .presenceTimerExpiry linked)).slotPending .status = true ∧
      (after (exec .lineIdle (after (exec .presenceTimerExpiry linked)))).flight.isSome = true := by decide +kernel

/-- A STATUS in flight, with a tally. -/
def aborting (m : Membership) (tally : Nat) : State :=
  ({ linked with mu := { linked.mu with membership := m } }.setSlot .status (flying status0)).mapLc fun l =>
    { l with tally := tally }

theorem hyp_FailedFlights : Hears (aborting .linked 6) img ∧ (aborting .linked 6).flight = some .status ∧
    (aborting .linked 6).lc.tally + 1 < 8 ∧ ((aborting .linked 6).slot .status).state = .inFlight status0 none false := by
  exact ⟨⟨rfl, rfl⟩, by decide +kernel, by decide, rfl⟩

/-- A STATUS in flight, with a next content or without, cancelled or not. -/
def flight (next : Option Content) (cancelled : Bool) : State :=
  linked.setSlot .status { state := .inFlight status0 next cancelled, backoff := none, busy := 0 }

/-- A DORMANT frame in flight, with the wake mark or without. -/
def dormantFlight (mark : Bool) : State :=
  { linked with ac := { AcState.reset with wakeMark := mark } }.setSlot .dormant
    { state := .inFlight .dormant none mark, backoff := none, busy := 0 }

theorem hyp_FailedFlights_next : (flight (some .dormant) false).flight = some .status ∧
    (flight none true).flight = some .status ∧ (flight (some .dormant) true).flight = some .status ∧
    (linked.setSlot .claim { state := .inFlight (.claim 4 4) none true, backoff := none, busy := 0 }).flight = some .claim ∧
    (linked.setSlot .claim { state := .inFlight (.claim 4 4) none true, backoff := none, busy := 0 }).flightCancelled .claim =
      true ∧ (dormantFlight true).flight = some .dormant ∧ (dormantFlight true).flightCancelled .dormant = true := by
  decide +kernel

/-- ISOLATED with a STATUS in flight, a notice waiting of each kind, and a request in service. -/
def isolatedAbort : State :=
  { ((((aborting .isolated 7).setSlot .noticeStart (waiting (.noticeStart 52 1 0 0 false false))).setSlot .noticeCondition
      (waiting (.noticeCondition 52 4 4))).setSlot .reply0 (waiting (.reply 52 (.conditions 0 0)))) with
    rs := { RsState.reset with queue := [⟨52, .conditions⟩], serving := true } }

theorem hyp_EighthAbortIsALineFault : Hears (aborting .linked 7) img ∧ (aborting .linked 7).flight.isSome = true ∧
    (aborting .linked 7).lc.tally = 7 ∧ (aborting .linked 7).mu.membership = .linked ∧ Hears isolatedAbort img ∧
    (∀ id ∈ noticeSlots, (aborting .linked 7).flightCancelled id = false) ∧
    (∀ id ∈ noticeSlots, isolatedAbort.flightCancelled id = false) ∧ isolatedAbort.flight.isSome = true ∧ isolatedAbort.lc.tally = 7 ∧ isolatedAbort.mu.membership = .isolated ∧
    (isolatedAbort.pendingNotice .noticeCondition).isSome = true ∧ (isolatedAbort.pendingNotice .noticeStart).isSome = true ∧
    isolatedAbort.rs.serving = true ∧ isolatedAbort.rs.queue ≠ [] ∧ Hears (aborting .listening 7) img := by
  exact ⟨⟨rfl, rfl⟩, by decide +kernel, rfl, rfl, ⟨rfl, rfl⟩, by decide +kernel, by decide +kernel, by decide +kernel, rfl, rfl, by decide +kernel,
    by decide +kernel, rfl, by decide +kernel, rfl, rfl⟩

/-- A reply in flight with a busy count. -/
def busyReply (busy : Nat) : State :=
  linked.setSlot .reply0 { state := .inFlight (.reply 52 (.conditions 0 0)) none false, backoff := none, busy := busy }

theorem hyp_BusyOutcomeAndLineTimers_busy : (aborting .linked 0).running = some img ∧ (aborting .linked 0).flight = some .status ∧
    ((aborting .linked 0).slot .status).state = .inFlight status0 none false ∧ isReplySlot .status = false ∧
    (busyReply 2).flight = some .reply0 ∧ ((busyReply 2).slot .reply0).busy + 1 < 4 ∧
    4 ≤ ((busyReply 3).slot .reply0).busy + 1 ∧ isReplySlot .reply0 = true := by decide +kernel

theorem hyp_BusyOutcomeAndLineTimers_next : (flight (some .dormant) false).running = some img ∧
    (flight (some .dormant) false).flight = some .status ∧
    ((flight (some .dormant) false).slot .status).state = .inFlight status0 (some .dormant) false ∧
    (flight none true).flight = some .status ∧ ((flight none true).slot .status).state = .inFlight status0 none true ∧
    (flight (some .dormant) true).flight = some .status ∧
    ((flight (some .dormant) true).slot .status).state = .inFlight status0 (some .dormant) true := by decide +kernel

/-- R183: a content written after the cancel waits out the backoff too. -/
theorem test_busy_after_cancel :
    (after (exec .ownFrameBusy (flight (some .dormant) true))).slot .status =
      { state := .pending .dormant, backoff := some 100, busy := 0 } := by decide +kernel

theorem hyp_BusyOutcomeAndLineTimers :
    ((linked.setSlot .status { state := .pending status0, backoff := some 100, busy := 0 }).slot .status).backoff.isSome = true ∧
      (linked.mapLc fun l => { l with spacing := some 250 }).lc.spacing.isSome = true := by decide

theorem hyp_MarksDriven : Hears linked img ∧
    (let f : Frame := { cls := 7, sub := 7, sender := 63, addressee := 63, payload := List.replicate 64 255 }
     f.cls < 8 ∧ f.sub < 8 ∧ f.sender < 64 ∧ f.addressee < 64 ∧ f.payload.length ≤ 64) :=
  ⟨⟨rfl, rfl⟩, by decide⟩

theorem hyp_MarksDriven_own : (aborting .linked 0).running = some img ∧ (aborting .linked 0).flight.isSome = true := by
  decide +kernel

/-- A STATUS of this station as the line carried it. -/
def ownRead : Reception := (bodyFrame (body 9 0 [0, 0, 0]) 5 1).received

/-- A listener's QUERY to this station as the line carried it. -/
def queryRead : Reception := (bodyFrame (body 52 9 [1]) 6 0).received

/-- R172: a sender that did not stop drives ABORT if its own check found a bit fault, and with no finding it drives none. -/
theorem test_own_bit_fault :
    (after (exec (.ownFrameAborted ⟨false, { ownRead with bitFault := true }⟩) (aborting .linked 0))).lc.marks =
        { abort := true, busy := false } ∧
      (after (exec (.ownFrameAborted ⟨false, ownRead⟩) (aborting .linked 0))).lc.marks = { abort := false, busy := false } := by
  decide +kernel

/-- R141, R171, R172: a sender that stopped and read a QUERY to it drives ABORT, and BUSY too if its queue is full. -/
theorem test_both_marks :
    let full := (aborting .linked 0).mapRs fun r => { r with queue := List.replicate 4 ⟨52, .counts⟩, serving := true }
    (after (exec (.ownFrameAborted ⟨true, queryRead⟩) full)).lc.marks = { abort := true, busy := true } ∧
      (after (exec (.ownFrameAborted ⟨true, queryRead⟩) (aborting .linked 0))).lc.marks = { abort := true, busy := false } := by
  decide +kernel

/-! ## Table bursts -/

/-- A segment 0 of n bytes from station 4 to 9, with a P. -/
def segment0 (pool : Byte) (n : Nat) : FrameBody := body 4 9 ([pool, 7] ++ List.replicate n 0)

theorem hyp_SegmentZero : Hears (on .joining) img ∧ (on .joining).mu.membership = .joining ∧
    (segment0 8 48).addressee.toNat = img.station ∧ (segment0 8 48).sender.toNat ≠ 0 ∧ (segment0 8 48).sender.toNat ≠ 63 ∧
    (segment0 8 48).payload.length = 50 ∧ numAt (segment0 8 48).payload 0 = img.pool ∧
    numAt (segment0 7 48).payload 0 ≠ img.pool ∧ (segment0 8 47).payload.length ≠ 50 := by
  exact ⟨⟨rfl, rfl⟩, by decide +kernel⟩

/-- A LOADING station that expects a segment. -/
def loadingAt (next : Nat) : State :=
  { on .loading with
    mu := { (on .loading).mu with roster := some (trioRoster 4 0 6), nextSegment := next }
    sa := { SaState.reset with curtail := some 8, shares := some (sharesFrom [4, 4, 0, 0, 0, 0, 0, 0]) } }

theorem hyp_LoadingSegments : Hears (loadingAt 1) img ∧ (loadingAt 1).mu.membership = .loading ∧
    unfitSegment 8 1 [68, 79, 0, 0, 158, 192, 192, 192] = false ∧ (loadingAt 2).mu.nextSegment = 2 ∧
    unfitSegment 8 2 [0, 0, 0, 0] = false ∧ (loadingAt 3).mu.nextSegment = 3 ∧
    unfitSegment 8 3 (1 :: List.replicate 47 0) = false ∧ (loadingAt 3).mu.roster = some (trioRoster 4 0 6) ∧
    1 ≤ img.station ∧ img.station ≤ (trioRoster 4 0 6).length ∧ unfitSegment 8 1 [68] = true := by
  exact ⟨⟨rfl, rfl⟩, by decide +kernel⟩

/-- A LINKED station that answers station 30's JOIN and has its segment 2 on the line. -/
def bursting : State :=
  (linked.mapMu fun m => { m with lock := some ⟨30, 9, true⟩ }).setSlot .table (flying (.table 2 30 [0, 0, 0, 0]))

theorem hyp_TableElsewhere : Hears bursting img ∧ bursting.mu.membership = .linked ∧
    bursting.mu.lock = some ⟨30, 9, true⟩ ∧ (body 9 30 [0, 0, 0, 0]).addressee.toNat = 30 ∧
    bursting.mu.roster = some (trioRoster 4 2 6) ∧ 30 ≤ (trioRoster 4 2 6).length ∧
    OwnFrom bursting img (bodyFrame (body 9 30 [0, 0, 0, 0]) 0 2) .table ∧
    (bursting.slot .table).state = .inFlight (.table 2 30 [0, 0, 0, 0]) none false ∧
    Hears (on .listening) img ∧ Hears (on .joining) img ∧ (body 4 30 []).addressee.toNat ≠ img.station ∧
    isTank (body 4 30 []).addressee.toNat = true := by
  exact ⟨⟨rfl, rfl⟩, rfl, rfl, rfl, rfl, by decide +kernel, ⟨by decide +kernel, by decide +kernel⟩, rfl, ⟨rfl, rfl⟩,
    ⟨rfl, rfl⟩, by decide, by decide⟩

/-- Table 11-4's lengths at P 8: the last payload of each segment that is too short, and the first that is not. -/
theorem hyp_TableElsewhere_length : ∀ s : Fin 4,
    (body 4 30 (List.replicate (tableLength img.pool s.val) 0)).payload.length = [50, 8, 4, 48].getD s.val 0 ∧
    (body 4 30 (List.replicate (tableLength img.pool s.val - 1) 0)).payload.length < tableLength img.pool s.val := by
  decide +kernel

/-- R199: segment 1 of another station's burst starts the burst hold of a listening station with P 8 if it has 8 bytes, and
has no effect with 7. -/
theorem test_short_table :
    (after (exec (.table 1 (body 4 30 (List.replicate 8 0))) (on .listening))).mu.burstHold = some 2000 ∧
      (after (exec (.table 1 (body 4 30 (List.replicate 7 0))) (on .listening))).mu.burstHold = none ∧
      (after (exec (.table 3 (body 4 30 [1])) ((on .listening).mapMu fun m => { m with burstHold := some 9 }))).mu.burstHold =
        some 9 := by
  decide +kernel

/-- An alert table with one entry, at the greatest age. -/
def alerts0 : List ZoneEntry :=
  updateAt (fun _ => { grade := .severe, origin := some 4, age := some 179999 }) 2 (List.replicate 15 .blank)

/-- A sender whose tables have something in every field a burst carries. -/
def sender : State :=
  { linked with
    sa := { linked.sa with claims := [⟨15, 8, 2⟩, ⟨4, 1, 1⟩] }, ru := { RuState.reset with alerts := some alerts0 } }

theorem hyp_BurstBringsTheTables : sender.mu.roster = some (trioRoster 4 2 6) ∧ sender.sa.shares = some keptShares ∧
    sender.sa.curtail = some 7 ∧ sender.ru.alerts = some alerts0 ∧ (trioRoster 4 2 6).length = 48 ∧ alerts0.length = 15 ∧
    7 < 256 ∧ img.pool < 256 ∧
    (∀ e ∈ trioRoster 4 2 6, e.urgency ≤ 7 ∧ (e.state ≠ .linked → e.dormant = false) ∧
      (e.state = .none → e.urgency = 0)) ∧
    (∀ e ∈ sender.sa.claims, e.claimant < 64 ∧ 1 ≤ e.remaining ∧ e.remaining ≤ 8) ∧
    (sender.sa.claims.map Claim.rank).Perm ((List.range sender.sa.claims.length).map (· + 1)) ∧
    sender.sa.claims.length ≤ 48 ∧ (∀ e ∈ alerts0, e.grade = .none → e = .blank) ∧ img.alertLifetime < 65536 := by
  decide +kernel

theorem hyp_BurstBringsTheTables_alerts :
    ∀ e ∈ alerts0, e.grade ≠ .none → ∃ o a, e.origin = some o ∧ o < 64 ∧ e.age = some a ∧ a / 1000 < img.alertLifetime := by
  have h : ∀ e ∈ alerts0, e.grade = .none ∨ e = { grade := .severe, origin := some 4, age := some 179999 } := by
    decide +kernel
  intro e he hg
  rcases h e he with h | rfl
  · exact absurd h hg
  · exact ⟨4, 179999, rfl, by decide, rfl, by decide⟩

theorem hyp_BurstBringsTheTables_shares : ∀ x ∈ keptShares, ∀ n, x = .held n ∨ x = .stranded n → n < 64 := by
  have h : ∀ x ∈ keptShares, x ∈ [Share.held 4, .held 9, .held 15, .stranded 30, .withheld] := by decide +kernel
  intro x hx n hn
  have := h x hx
  simp only [List.mem_cons, List.not_mem_nil, or_false] at this
  rcases hn with rfl | rfl <;> simp at this <;> omega

/-! ## Absence and shares -/

theorem takes4 : TakesFrom linked img 4 := ⟨⟨rfl, rfl⟩, rfl, rfl, by decide +kernel⟩

theorem hyp_AbsentAndReclaim : TakesFrom linked img (body 4 0 []).sender.toNat ∧ linked.mu.lock = none ∧
    6 ≤ [0, 2, 0, 4, 0, 0].length ∧ img.station ∉ stationsOf [0, 2, 0, 4, 0, 0] ∧ 15 ∈ stationsOf [0, 2, 0, 4, 0, 0] ∧
    linked.isLinked 15 = true ∧ linked.entryState 30 = .absent ∧ 30 ∈ stationsOf [0, 2, 0, 4, 0, 0] ∧
    img.station ∈ stationsOf [0, 128, 0, 0, 0, 0] := by
  exact ⟨takes4, by decide +kernel⟩

theorem hyp_AllocationRule : ∀ e ∈ linked.sa.claims, 1 ≤ e.remaining := by decide +kernel

theorem hyp_CurtailFrame : Hears linked img ∧ linked.mu.membership = .linked ∧ (body 50 0 [8]).sender.toNat ≠ 0 ∧
    (body 50 0 [8]).sender.toNat ≠ 63 ∧ 1 ≤ (body 50 0 [8]).payload.length ∧ linked.sa.shares = some keptShares ∧
    keptShares.length ≤ 64 ∧ isListener (body 50 0 [8]).sender.toNat = true ∧ numAt (body 50 0 [8]).payload 0 ≤ img.pool ∧
    keptShares[7]? = some .withheld ∧ 7 < numAt (body 50 0 [8]).payload 0 ∧ img.pool < numAt (body 50 0 [9]).payload 0 ∧
    isTank (body 4 0 [8]).sender.toNat = true ∧ 1 ∈ linked.holdings 9 ∧ numAt (body 50 0 [1]).payload 0 ≤ 1 := by
  exact ⟨⟨rfl, rfl⟩, by decide +kernel⟩

theorem hyp_ReturnFrames : TakesFrom linked img (body 4 0 [0]).sender.toNat ∧ linked.sa.shares = some keptShares ∧
    linked.sa.curtail = some 7 ∧ 1 ≤ [(0 : Byte)].length ∧ 8 ≤ [(128 : Byte), 0, 0, 0, 0, 0, 0, 0].length ∧
    linked.hasClaim 4 = false ∧ linked.claimOf 15 = some ⟨15, 1, 1⟩ := by
  exact ⟨takes4, by decide +kernel⟩

/-- A LINKED station with two FREE shares and no claim. -/
def spare : State := trio 4 2 6 8 (sharesFrom [4, 4, 9, 9, 9, 15, 0, 0]) []

theorem hyp_ClaimFrame : TakesFrom spare img (body 4 0 [2]).sender.toNat ∧ spare.mu.lock = none ∧
    spare.mu.roster = some (trioRoster 4 2 6) ∧ (trioRoster 4 2 6).length = 48 ∧
    spare.hasClaim 4 = false ∧ min (min 2 8) (8 - (spare.holdings 4).length) ≤ (sharesFrom [4, 4, 9, 9, 9, 15, 0, 0]).count .free ∧
    (sharesFrom [4, 4, 9, 9, 9, 15, 0, 0]).count .free < min (min 3 8) (8 - (spare.holdings 4).length) ∧
    min (min 0 8) (8 - (spare.holdings 4).length) = 0 ∧ linked.hasClaim 15 = true ∧
    0 < min (min 255 8) (8 - (linked.holdings 15).length) := by
  exact ⟨⟨⟨rfl, rfl⟩, rfl, rfl, by decide +kernel⟩, by decide +kernel⟩

theorem hyp_ClaimFrame_own :
    OwnFrom (spare.setSlot .claim (flying (.claim 4 4))) img (bodyFrame (body 9 0 [4]) 3 3) .claim :=
  ⟨by decide +kernel, by decide +kernel⟩

theorem hyp_YieldRule : spare.sa.claims = [] ∧ linked.sa.claims = ⟨15, 1, 1⟩ :: [] := ⟨rfl, rfl⟩

/-- A lock for station 30 at a station that only hears it. -/
def locked : State := linked.mapMu fun m => { m with lock := some ⟨30, 4, true⟩ }

theorem hyp_AllocationFramesSpoil : Instr.unlistedSubKindFrame 1 3 (body 4 0 []) ∈ allocationCommands 3 (body 4 0 []) ∧
    Hears locked img ∧ (body 4 0 []).sender.toNat ≠ 0 ∧ (body 4 0 []).sender.toNat ≠ 63 ∧
    locked.mu.membership = .linked ∧ locked.mu.lock = some ⟨30, 4, true⟩ ∧ (30 : Nat) ≠ img.station ∧ Hears (on .joining) img ∧
    Hears (loadingAt 1) img := by
  exact ⟨by decide, ⟨rfl, rfl⟩, by decide, by decide, rfl, rfl, by decide, ⟨rfl, rfl⟩, rfl, rfl⟩

/-- This station's own JOIN on the line at a LINKED station, and the lock that it begins. -/
def ownJoining : State := linked.setSlot .join (flying (.join 8))
def ownLocked : State := linked.mapMu fun m => { m with lock := some ⟨9, 4, true⟩ }

/-- R36, R54: the own entry stays LINKED and untimed at the own JOIN, the lock's end by segment 3, by the lock timer and by
an allocation frame; the responder is another station. -/
theorem test_own_join_linked :
    let t := after (exec (.join (body 9 0 [8])) ownJoining)
    t.mu.lock = some ⟨9, 4, true⟩ ∧ t.entryState 9 = .linked ∧ (t.entry 9).lastHeard = none ∧ t.holdings 9 = [] := by
  decide +kernel
theorem test_own_lock_ends : ∀ i ∈ [Instr.table 3 (body 4 9 []), .lockTimerExpiry, .yield (body 30 0 [4])],
    (after (exec i ownLocked)).mu.lock = none ∧ (after (exec i ownLocked)).entryState 9 = .linked ∧
      ((after (exec i ownLocked)).entry 9).lastHeard = none := by
  decide +kernel

theorem hyp_UnheededAllocationFrames : Instr.yield (body 30 0 [4]) ∈ allocationCommands 0 (body 30 0 [4]) ∧ Hears locked img ∧
    (body 30 0 [4]).sender.toNat ≠ 0 ∧ (body 30 0 [4]).sender.toNat ≠ 63 ∧ locked.mu.membership = .linked ∧
    isTank (body 30 0 [4]).sender.toNat = true ∧ locked.isLinked 30 = false ∧ locked.mu.lock = some ⟨30, 4, true⟩ ∧
    Hears (on .listening) img ∧ Hears (on .fallback) img ∧ Hears (on .isolated) img := by
  exact ⟨by decide, ⟨rfl, rfl⟩, by decide, by decide, rfl, by decide, by decide +kernel, rfl, ⟨rfl, rfl⟩, ⟨rfl, rfl⟩, rfl, rfl⟩

/-- Station 9 the yielder to 15, of its shares 4 to 7; and the same with the roster urgency of 15 not yet raised. -/
def yielding (u15 : Nat) : State := trio 4 0 u15 8 (sharesFrom [4, 4, 4, 4, 9, 9, 9, 9]) [⟨15, 4, 1⟩]

/-- A machine in a drain state, under the release mark or not, with shares and a list. -/
def draining (d : Drain) (mark : Bool) (shares : List Nat) (claims : List Claim) : State :=
  { trio 4 2 6 8 (sharesFrom shares) claims with
    ts := { TsState.reset with drain := d, tankLevel := some 1000, tankQuality := .good }
    sa := { SaState.reset with shares := some (sharesFrom shares), curtail := some 8, claims := claims, releaseMark := mark } }

theorem hyp_TheStationsOwnShares : (on .fallback).mu.membership ≠ .linked ∧ (yielding 7).mu.membership = .linked ∧
    (yielding 7).ts.drain ≠ .parked ∧ (yielding 7).sa.releaseMark = false ∧
    tablesChanged (yielding 2) (yielding 7) = true ∧ (yielding 7).yielder = some img.station ∧
    (yielding 7).slotEmpty .yield = true ∧ 7 ∈ (yielding 7).holdings img.station ∧ 7 ∉ (yielding 7).sa.outgoing ∧
    (∀ j ∈ (yielding 7).holdings img.station, j ∉ (yielding 7).sa.outgoing → j ≤ 7) ∧
    tablesChanged (yielding 7) (yielding 7) = false := by decide +kernel

/-- The yielder again, with a RELEASE waiting that names a share it holds and has not in its outgoing set. -/
def regained : State := (yielding 7).setSlot .release (waiting (.release [7]))

theorem hyp_TheStationsOwnShares_regained : regained.mu.membership = .linked ∧ regained.ts.drain ≠ .parked ∧
    regained.sa.releaseMark = false ∧ tablesChanged (yielding 2) regained = true ∧ regained.yielder = some img.station ∧
    regained.slotEmpty .yield = true ∧ 7 ∈ regained.holdings img.station ∧ 7 ∈ regained.namedShares ∧
    7 ∉ regained.sa.outgoing ∧ 6 ∈ regained.holdings img.station ∧ 6 ∉ regained.namedShares ∧
    (∀ j ∈ regained.holdings img.station, j ∉ regained.sa.outgoing → j ∉ regained.namedShares → j ≤ 6) ∧
    tablesChanged regained regained = false := by decide +kernel

/-- R27, R86: a share that comes back while a RELEASE names it is outgoing, and the valve does not count it. -/
theorem test_regained_share :
    let t := after (exec (.release (body 4 0 [64, 0, 0, 0, 0, 0, 0, 0]))
      ((draining .draining false [9, 4] [⟨9, 1, 1⟩]).setSlot .release (waiting (.release [1]))))
    t.holdings 9 = [0, 1] ∧ t.sa.outgoing = [1] ∧ t.ts.valve = 1 := by decide +kernel

theorem hyp_TheStationsOwnShares_release :
    (draining .parked true [4, 9, 9] []).sa.releaseMark = true ∧ 1 ∈ (draining .parked true [4, 9, 9] []).holdings img.station ∧
    1 ∉ (draining .parked true [4, 9, 9] []).sa.outgoing ∧ (draining .parked true [4, 0, 0] []).holdings img.station = [] ∧
    (draining .parked true [4, 0, 0] []).hasClaim img.station = false ∧
    (draining .parked true [4, 0, 0] []).slotEmpty .claim = true ∧ (draining .parked true [4, 0, 0] []).slotEmpty .release = true ∧
    (draining .parked false [4, 9, 9] [⟨15, 1, 1⟩]).sa.claims ≠ [] ∧ (draining .parked false [4, 9, 9] []).sa.claims = [] ∧
    (draining .parked false [4, 9, 9] [⟨15, 1, 1⟩]).holdings img.station ≠ [] ∧
    ((draining .parked true [4, 9, 9] []).setSlot .release (waiting (.release [1]))).slotPending .release = true := by
  decide +kernel

theorem hyp_TheStationsOwnShares_accepted :
    OwnFrom ((yielding 7).setSlot .yield (flying (.yield 7))) img (bodyFrame (body 9 0 [7]) 2 0) .yield ∧
    OwnFrom ((yielding 7).setSlot .release (flying (.release [4, 5]))) img
      (bodyFrame (body 9 0 [12, 0, 0, 0, 0, 0, 0, 0]) 2 1) .release ∧
    OwnFrom ((yielding 7).setSlot .claim { state := .inFlight (.claim 0 4) none true, backoff := none, busy := 0 }) img
      (bodyFrame (body 9 0 [4]) 3 7) .claim ∧ isTank img.station = true := by
  exact ⟨⟨by decide +kernel, by decide +kernel⟩, ⟨by decide +kernel, by decide +kernel⟩,
    ⟨by decide +kernel, by decide +kernel⟩, rfl⟩

theorem test_yield_after_claim :
    ((after (exec (.claim 0 (body 15 0 [4])) (trio 4 0 2 8 (sharesFrom [4, 4, 4, 4, 9, 9, 9, 9]) []))).slot .yield).state.newest =
      some (.yield 7) := by decide +kernel

/-! ## The drain machine and what the blocks write -/

/-- A window open on a machine in a drain state. -/
def drainSample (d : Drain) : State :=
  { linked with ts := { TsState.reset with drain := d, window := some 2500 } }

/-- A sound reply with the tank at 2,000 mm, at 300 mm, and FAILED. -/
def replyFull : SensorReply := { bytes := [7, 208, 0, 7, 208, 0, 174], byteFault := false }
def replyEmpty : SensorReply := { bytes := [3, 232, 0, 1, 44, 0, 24], byteFault := false }

theorem hyp_DrainMachine_samples : (drainSample .idle).running = some img ∧ (drainSample .idle).ts.window.isSome = true ∧
    readReply replyFull = some (good 2000, good 2000) ∧ readReply replyEmpty = some (good 1000, good 300) ∧
    readReply { bytes := [3, 232, 0, 78, 33, 0, 90], byteFault := false } = some (good 1000, Channel.failed) ∧
    (drainSample .parked).ac.activity = .active ∧ img.claimLevel ≤ 2000 ∧ 300 ≤ img.tankEmpty ∧ img.tankEmpty < 301 ∧
    (drainSample .idle).holdings img.station ≠ [] ∧ (spare.holdings 30) = [] ∧ (drainSample .parked).sa.releaseMark = false := by
  decide +kernel

theorem hyp_DrainMachine_report : (on .fallback).mu.membership ≠ .linked ∧
    (draining .idle false [4, 9] []).holdings img.station ≠ [] ∧ (draining .idle false [4, 0] []).holdings img.station = [] ∧
    (draining .idle false [4, 0] []).tankNow = some 1000 ∧ (draining .wanting false [4, 9] []).ts.drain = .wanting ∧
    (draining .draining false [4, 0] []).hasClaim img.station = false ∧ (draining .parked false [4, 0] []).sa.releaseMark = false ∧
    (draining .parked false [4, 9] []).ts.parkJudged = false ∧ (draining .parked false [4, 9] [⟨15, 1, 1⟩]).sa.claims ≠ [] ∧
    img.park ≠ 0 := by decide +kernel

theorem test_idle_claims_at_the_level :
    let t := after (exec (.sensorReply replyFull) { draining .idle false [4, 0] [] with
      ts := { TsState.reset with window := some 2500 } })
    t.ts.drain = .wanting ∧ t.slotPending .claim = true := by decide +kernel

/-- LINKED with a notice of each kind waiting. -/
def withNotices : State :=
  ((linked.setSlot .noticeStart (waiting (.noticeStart 52 1 0 0 false false))).setSlot .noticeCondition
    (waiting (.noticeCondition 52 4 4)))

theorem hyp_AlertsAndNoticesWritten : linked.running = some img ∧ linked.seconds.toNat % 60 = 0 ∧
    pulsed.ru.chatter = some 5000 ∧ linked.slotInFlight .alert = false ∧ Hears withNotices img ∧
    withNotices.mu.membership = .linked ∧ withNotices.mu.silence.isSome = true ∧
    isListener (body 49 9 []).sender.toNat = true ∧ (body 49 9 []).addressee.toNat = img.station ∧
    (∀ id ∈ noticeSlots, withNotices.flightCancelled id = false) ∧
    (withNotices.pendingNotice .noticeCondition).isSome = true ∧
    judgeSample img.crest (good 2000) (episodeAt .onset .opened).ts.tide = .spilling 2000 ∧
    (episodeAt .onset .opened).sc.episode = .onset ∧ img.onsetCount ≤ (episodeAt .onset .opened).sc.onsetCounter + 1 ∧
    img.noticeTarget ≠ 0 ∧ { img with noticeTarget := 0 }.noticeTarget = 0 ∧ (closing 31).sc.merge.isSome = true ∧
    (closing 31).sc.record = some record0 ∧ inSet linked.rs.latched .logHigh = false ∧
    inSet kept.rs.latched .sensorFault = true ∧ inSet img.noticeMask .sensorFault = false ∧
    inSet img.noticeMask .logHigh = true := by
  exact ⟨rfl, by decide, rfl, by decide +kernel, ⟨rfl, rfl⟩, rfl, rfl, by decide, by decide, by decide +kernel,
    by decide +kernel, by decide, rfl, by decide, by decide, rfl, rfl, rfl, by decide +kernel, by decide +kernel,
    by decide +kernel, by decide +kernel⟩

theorem test_alert_at_a_grade : ((after (exec (.rainPulse 9000) { linked with
    ru := { RuState.reset with current := 18, alerts := some alerts0 } })).slot .alert).state.newest =
      some (.alert 3 .watch) := by decide +kernel

/-- A LINKED station at which the dormancy conditions hold, with the delay running. -/
def restful : State :=
  { trio 4 0 6 8 (sharesFrom [4, 0, 0, 0, 0, 0, 0, 0]) [] with
    ts := { TsState.reset with inlet := .shut }, ac := { AcState.reset with delay := some 1800000 } }

theorem hyp_DormancyDelayKept : DelayRule restful ∧ DelayRule linked ∧ restful.dormancyConditions img = true ∧
    linked.dormancyConditions img = false ∧ ∃ t, step restful = .next t := by
  refine ⟨fun c hc => ?_, fun c hc => ?_, by decide +kernel, by decide +kernel, _, rfl⟩
  · cases Option.some.inj (hc.symm.trans (rfl : restful.running = some img)); decide +kernel
  · cases Option.some.inj (hc.symm.trans (rfl : linked.running = some img)); decide +kernel

/-- A LINKED station in WAKING, its drain machine IDLE. -/
theorem hyp_DormancyDelayKept_rest : LoadRule (sampling .waking) ∧ RestRule (sampling .waking) ∧
    (sampling .waking).ac.activity ≠ .active ∧ ∃ t, step (sampling .waking) = .next t :=
  ⟨⟨⟨fun _ => rfl, fun _ => rfl⟩, fun h => absurd h (by decide +kernel), fun _ => rfl⟩, fun _ => ⟨rfl, rfl⟩,
    by decide, _, rfl⟩

theorem hyp_DormancyDelayKept_pulse : (dormantFlight false).running = some img ∧ (dormantFlight false).ac.activity = .active ∧
    (dormantFlight false).enteringInFlight = true ∧ (dormantFlight false).ru.chatter = none := by decide +kernel

theorem hyp_Outputs : ValveRule kept ∧ HoldRule kept ∧ kept.running = some img ∧ kept.ts.valve ≤ 8 ∧
    linked.supplyGood = true :=
  ⟨hyp_ValveRuleKept, hold_of_small rfl (held_small (by decide +kernel)) (by decide +kernel) (by decide +kernel)
    (by decide +kernel) (by decide +kernel), rfl, by decide, rfl⟩

/-! ## Hearing, alerts, joins -/

theorem hyp_FramesThatAreOnlyHeard : Instr.conditions (body 4 0 []) ∈ heardOnlyCommands 5 (body 4 0 []) ∧
    Instr.unlistedSubKindFrame 5 5 (body 4 0 []) ∈ heardOnlyCommands 5 (body 4 0 []) ∧ Hears linked img ∧
    linked.isLinked 4 = true ∧ (body 4 0 []).sender.toNat ≠ img.station ∧ linked.flight = none ∧ linked.lc.orphan = none ∧
    Hears (on .listening) img ∧ Hears (on .joining) img := by
  exact ⟨by decide, by decide, ⟨rfl, rfl⟩, by decide +kernel, by decide, by decide +kernel, rfl, ⟨rfl, rfl⟩, rfl, rfl⟩

theorem hyp_FramesThatAreOnlyHeard_own :
    OwnFrom (busyReply 0) img (bodyFrame (body 9 52 [0, 0, 0, 0]) 7 3) .reply0 ∧
      ((busyReply 0).slot .reply0).state = .inFlight (.reply 52 (.conditions 0 0)) none false :=
  ⟨⟨by decide +kernel, by decide +kernel⟩, rfl⟩

theorem hyp_AlertFrame : Hears linked img ∧ 1 ≤ (body 4 0 [3]).payload.length ∧ isTank (body 4 0 [3]).sender.toNat = true ∧
    numAt [(15 : Byte)] 0 % 16 ≠ 0 ∧ numAt [(16 : Byte)] 0 % 16 = 0 ∧ isListener (body 50 0 [3]).sender.toNat = true ∧
    linked.ru.alerts = some (List.replicate 15 .blank) ∧ isHeeded img 3 = true ∧ isHeeded img 2 = true ∧
    isHeeded img 4 = false ∧
    OwnFrom (linked.setSlot .alert (flying (.alert 3 .severe))) img (bodyFrame (body 9 0 [3]) 4 0) .alert := by
  exact ⟨⟨rfl, rfl⟩, by decide, by decide, by decide, by decide, by decide, rfl, rfl, rfl, rfl, by decide +kernel,
    by decide +kernel⟩

theorem test_alert_zone_byte_22 : ((after (exec (.alert 0 (body 4 0 [22])) linked)).zoneEntry 6).grade = .severe := by
  decide +kernel

theorem test_age_counts_ms : ((after (step { linked with ru := { RuState.reset with alerts := some alerts0 } })).zoneEntry 3).age =
    some 180000 := by decide +kernel

theorem hyp_JoinHeardAndClash : Hears (on .listening) img ∧ Hears (on .joining) img ∧ isTank (body 9 0 [8]).sender.toNat = true ∧
    1 ≤ (body 9 0 [8]).payload.length ∧
    OwnFrom ((on .listening).setSlot .join (flying (.join 8))) img (bodyFrame (body 9 0 [8]) 5 0) .join ∧
    Foreign (on .listening) img (bodyFrame (body 30 0 [8]) 5 0) ∧ (body 30 0 [8]).sender.toNat ≠ img.station ∧
    Foreign linked img (bodyFrame (body 9 0 [8]) 5 0) ∧ (body 9 0 [8]).sender.toNat = img.station ∧
    linked.mu.membership ≠ .isolated ∧ Hears (on .fallback) img ∧ Hears (on .isolated) img ∧ Hears (loadingAt 1) img := by
  exact ⟨⟨rfl, rfl⟩, ⟨rfl, rfl⟩, by decide, by decide, ⟨by decide +kernel, by decide +kernel⟩,
    (by decide +kernel : ((on .listening).arrival img (bodyFrame (body 30 0 [8]) 5 0)).own = false), by decide,
    (by decide +kernel : (linked.arrival img (bodyFrame (body 9 0 [8]) 5 0)).own = false), by decide, by decide,
    ⟨rfl, rfl⟩, ⟨rfl, rfl⟩, rfl, rfl⟩

theorem hyp_JoinAtALinkedStation : Hears linked img ∧ linked.mu.membership = .linked ∧
    isTank (body 30 0 [8]).sender.toNat = true ∧ (body 30 0 [8]).sender.toNat ≠ img.station ∧
    1 ≤ (body 30 0 [8]).payload.length ∧ linked.mu.roster = some (trioRoster 4 2 6) ∧ linked.sa.shares = some keptShares ∧
    linked.sa.curtail = some 7 ∧ linked.mu.lock = none ∧ locked.mu.lock.isSome = true ∧ linked.entryState 30 = .absent ∧
    linked.entryState 15 = .linked ∧ linked.entryState 31 = .none := by
  exact ⟨⟨rfl, rfl⟩, by decide +kernel⟩

/-- Alone and LINKED but for station 30's JOIN: the responder is the station itself. -/
def alone : State :=
  { linked with mu := { linked.mu with roster := some (rosterOf [(9, linkedEntry 0)]) }, ac := { AcState.reset with activity := .dormant } }

theorem hyp_JoinAtALinkedStation_own : Hears ownJoining img ∧ (body 9 0 [8]).sender.toNat = img.station ∧
    OwnFrom ownJoining img (bodyFrame (body 9 0 [8]) 5 0) .join ∧ ownJoining.mu.lock = none ∧
    (ownJoining.mapMu fun m => { m with lock := some ⟨30, 4, true⟩ }).mu.lock.isSome = true ∧
    ownJoining.mu.roster = some (trioRoster 4 2 6) ∧ ownJoining.sa.shares = some keptShares ∧
    ownJoining.sa.curtail = some 7 ∧ ownJoining.entryState 9 = .linked := by
  exact ⟨⟨rfl, rfl⟩, rfl, ⟨by decide +kernel, by decide +kernel⟩, rfl, rfl, rfl, rfl, rfl, by decide +kernel⟩

theorem hyp_JoinAtALinkedStation_responder : Hears alone img ∧ alone.ac.activity = .dormant ∧
    (alone.markJoiner img 30).chooseResponder 30 = 9 := by
  exact ⟨⟨rfl, rfl⟩, rfl, by decide +kernel⟩

theorem hyp_PresenceFrames : Hears linked img ∧ isTank (body 4 0 [7, 0, 0]).sender.toNat = true ∧
    linked.mu.roster = some (trioRoster 4 2 6) ∧ (trioRoster 4 2 6).length = 48 ∧ linked.isLinked 4 = true ∧
    3 ≤ (body 4 0 [7, 0, 0]).payload.length ∧ Hears (loadingAt 1) img ∧ (loadingAt 1).isLinked 4 = true := by
  exact ⟨⟨rfl, rfl⟩, by decide, rfl, by decide +kernel, by decide +kernel, by decide, ⟨rfl, rfl⟩, by decide +kernel⟩

theorem hyp_PresenceFrames_own : linked.isLinked 9 = true ∧
    OwnFrom (dormantFlight false) img (bodyFrame (body 9 0 []) 5 2) .dormant ∧
    (dormantFlight false).flightCancelled .dormant = false ∧ (dormantFlight false).ac.activity = .active ∧
    OwnFrom (dormantFlight true) img (bodyFrame (body 9 0 []) 5 2) .dormant ∧ (dormantFlight true).ac.wakeMark = true ∧
    OwnFrom ((sampling .dormant).setSlot .status (flying status0)) img (bodyFrame (body 9 0 [0, 0, 0]) 5 1) .status := by
  exact ⟨by decide +kernel, ⟨by decide +kernel, by decide +kernel⟩, rfl, rfl, ⟨by decide +kernel, by decide +kernel⟩, rfl,
    by decide +kernel, by decide +kernel⟩

/-- A DORMANT in flight, during which a sample took the machine to WANTING with its CLAIM PENDING. -/
def wantingInFlight : State :=
  ((dormantFlight true).mapTs fun t => { t with drain := .wanting }).setSlot .claim (waiting (.claim 3 8))

theorem hyp_PresenceFrames_wanting : OwnFrom wantingInFlight img (bodyFrame (body 9 0 []) 5 2) .dormant ∧
    wantingInFlight.ac.wakeMark = true ∧ wantingInFlight.ts.drain ≠ .idle ∧ wantingInFlight.slotPending .claim = true := by
  exact ⟨⟨by decide +kernel, by decide +kernel⟩, rfl, by decide, rfl⟩

/-- R84, R167: WAKING has the machine IDLE, and the claim gone. -/
theorem test_waking_is_idle :
    let t := after (exec (.dormant (body 9 0 [])) wantingInFlight)
    t.ac.activity = .waking ∧ t.ts.drain = .idle ∧ t.slotEmpty .claim = true := by
  decide +kernel

/-! ## Queries and records -/

/-- A LINKED station with n requests waiting. -/
def asked (n : Nat) : State := { linked with rs := { RsState.reset with queue := List.replicate n ⟨52, .counts⟩ } }

theorem hyp_QueryFrame : Hears (asked 3) img ∧ isListener (body 49 9 [1]).sender.toNat = true ∧
    isListener (body 62 9 [1]).sender.toNat = true ∧ (body 49 9 [1]).addressee.toNat = img.station ∧
    (asked 3).mu.membership ≠ .fallback ∧ (asked 3).rs.queue.length < 4 ∧ 4 ≤ (asked 4).rs.queue.length ∧
    (body 49 8 [1]).addressee.toNat ≠ img.station ∧ Hears (on .fallback) img := by
  exact ⟨⟨rfl, rfl⟩, by decide, by decide, by decide, by decide, by decide, by decide, by decide, rfl, rfl⟩

/-- A request of a kind at the head of the queue, over the log of section 12.4. -/
def serving (k : QueryKind) (busy : Bool) : State :=
  { read4 with rs := { read4.rs with queue := [⟨52, k⟩], serving := busy } }

theorem hyp_RequestService : (serving .counts false).rs.queue = ⟨52, .counts⟩ :: [] ∧
    (serving .counts false).rs.serving = false ∧ (∀ id ∈ replySlots, (serving .counts false).slot id = Slot.blank) ∧
    (∀ x ∈ (serving (.records 21) false).rs.log, x.sequence ≠ 21) ∧ logged 17 ∈ (serving (.records 17) false).rs.log ∧
    (logged 17).sequence = 17 ∧ (serving .counts true).rs.serving = true ∧
    (serving .counts true).slotsEmpty replySlots = true ∧
    ((serving .counts true).setSlot .reply0 (waiting (.reply 52 (.conditions 0 0)))).slotsEmpty replySlots = false ∧
    (serving .unknown false).rs.queue = ⟨52, .unknown⟩ :: [] ∧ logged 17 ∈ (serving (.records 18) false).rs.log := by decide +kernel

theorem hyp_RequestService_kept : ServiceRule State.reset ∧
    ServiceRule ((serving .counts true).setSlot .reply0 (waiting (.reply 52 (.conditions 0 0)))) ∧
    ∃ t, step ((serving .counts true).setSlot .reply0 (waiting (.reply 52 (.conditions 0 0)))) = .next t := by
  unfold ServiceRule
  exact ⟨by decide +kernel, by decide +kernel, _, rfl⟩

theorem test_query_18 :
    let t := after (exec (.query (body 52 9 [0, 0, 18])) read4)
    (t.slot .reply0).state = .pending (.reply 52 (.record 0 3 (logged 18))) ∧
      (t.slot .reply2).state = .pending (.reply 52 (.record 2 3 (logged 17))) := by decide +kernel

theorem hyp_RecackFrame : Hears read4 img ∧ 2 ≤ (body 52 9 [0, 19]).payload.length ∧
    isListener (body 52 9 [0, 19]).sender.toNat = true ∧ (body 52 9 [0, 19]).addressee.toNat = img.station ∧
    read4.rs.log = [logged 17, logged 18] ++ logged 19 :: [logged 20] ∧
    (logged 19).sequence = halfAt (body 52 9 [0, 19]).payload 0 ∧
    (∀ y ∈ [logged 17, logged 18], y.sequence ≠ halfAt (body 52 9 [0, 19]).payload 0) ∧
    (∀ y ∈ read4.rs.log, y.sequence ≠ halfAt (body 52 9 [0, 21]).payload 0) ∧ isTank (body 4 9 []).sender.toNat = true ∧
    State.reset.mu.membership = .down := by
  exact ⟨⟨rfl, rfl⟩, by decide +kernel⟩

theorem hyp_PeriodFrame : Hears linked img ∧ isListener (body 62 0 []).sender.toNat = true ∧ (body 62 0 []).addressee = 0 ∧
    (body 62 9 []).addressee.toNat = img.station ∧ isTank (body 48 0 []).sender.toNat = true ∧
    State.reset.mu.membership = .down := by
  exact ⟨⟨rfl, rfl⟩, by decide⟩

/-- A NOTICE-CLOSED of record 20 and a NOTICE-CONDITION in flight. -/
def noticing (id : SlotId) (content : Content) : State := read4.setSlot id (flying content)

/-- A logged NOTICE-CLOSED's content. -/
def closedNotice : Content := .noticeClosed 52 (some 20) record0

theorem hyp_ClearAndNoticeFrames : Hears read4 img ∧ 2 ≤ (body 52 9 [3, 255]).payload.length ∧
    isListener (body 52 9 [3, 255]).sender.toNat = true ∧ (body 52 9 [3, 255]).addressee.toNat = img.station ∧
    Foreign read4 img (bodyFrame (body 4 52 []) 7 4) ∧
    OwnFrom (noticing .noticeClosed closedNotice) img (bodyFrame (body 9 52 closedNotice.payload) 7 4) .noticeClosed ∧
    numAt closedNotice.payload 0 = 1 ∧ numAt closedNotice.payload 1 = 1 ∧ 22 ≤ closedNotice.payload.length ∧
    OwnFrom (noticing .noticeCondition (.noticeCondition 52 4 4)) img
      (bodyFrame (body 9 52 (Content.noticeCondition 52 4 4).payload) 7 4) .noticeCondition ∧
    numAt (Content.noticeCondition 52 4 4).payload 0 = 2 ∧ 5 ≤ (Content.noticeCondition 52 4 4).payload.length ∧
    OwnFrom (noticing .noticeStart (.noticeStart 52 1 0 0 false false)) img
      (bodyFrame (body 9 52 (Content.noticeStart 52 1 0 0 false false).payload) 7 4) .noticeStart := by
  exact ⟨⟨rfl, rfl⟩, by decide, by decide, by decide,
    (by decide +kernel : (read4.arrival img (bodyFrame (body 4 52 []) 7 4)).own = false),
    ⟨by decide +kernel, by decide +kernel⟩, by decide +kernel, by decide +kernel, by decide +kernel,
    ⟨by decide +kernel, by decide +kernel⟩, by decide +kernel, by decide +kernel, by decide +kernel, by decide +kernel⟩

/-- R158: LOG_HIGH, carried by the notice in flight and cleared since, latches again and stays news when that frame is
accepted; the acceptance of the next one takes it out. -/
theorem test_news_latched_in_flight :
    let told := Content.noticeCondition 52 4 4
    let s := { noticing .noticeCondition told with rs := { RsState.reset with log := logOf 24, news := 4 } }
    let accept := exec (.notice (body 9 52 told.payload))
    let t := after (accept (after (exec .presenceTimerExpiry s)))
    let u := t.setSlot .noticeCondition (flying told)
    t.rs.news = 4 ∧ t.slotPending .noticeCondition = true ∧ (after (accept s)).rs.news = 4 ∧
      (after (accept { s with rs := { s.rs with latched := 4 } })).rs.news = 0 ∧
      (after (accept (u.mapLc fun l => { l with newsSince := 0 }))).rs.news = 0 := by decide +kernel

/-- SENSOR_FAULT latched with its cause standing. -/
def faulty : State :=
  { linked with
    ts := { TsState.reset with tankQuality := .failed }, rs := { RsState.reset with latched := Flag.sensorFault.mask } }

/-- The notice in flight, and LOG_HIGH newly latched since. -/
theorem hyp_ClearAndNoticeFrames_since :
    let s := (noticing .noticeCondition (.noticeCondition 52 4 4)).mapLc fun l => { l with newsSince := 4 }
    OwnFrom s img (bodyFrame (body 9 52 (Content.noticeCondition 52 4 4).payload) 7 4) .noticeCondition ∧
      inSet s.lc.newsSince .logHigh = true := by
  exact ⟨⟨by decide +kernel, by decide +kernel⟩, by decide +kernel⟩

theorem hyp_ClearAndNoticeFrames_status : Hears faulty img ∧ faulty.rs.latched &&& halfAt (body 52 9 [0, 1]).payload 0 ≠ 0 ∧
    faulty.mu.membership = .linked ∧ faulty.ac.activity ≠ .dormant ∧ isListener (body 52 9 [0, 1]).sender.toNat = true ∧
    (body 52 9 [0, 1]).addressee.toNat = img.station := by
  exact ⟨⟨rfl, rfl⟩, by decide +kernel⟩

/-- R153: the flag latches again at once, and STATUS carries the result. -/
theorem test_clear_of_a_standing_flag :
    let t := after (exec (.clear (body 52 9 [0, 1])) faulty)
    t.rs.latched = faulty.rs.latched ∧ (t.slot .status).state.newest = some (.status t.statusValues) := by decide +kernel

theorem hyp_RestartFrame : Hears linked img ∧ isListener (body 49 9 []).sender.toNat = true ∧
    (body 49 9 []).addressee.toNat = img.station ∧ isTank (body 4 9 []).sender.toNat = true ∧
    (body 49 0 []).addressee.toNat ≠ img.station := by
  exact ⟨⟨rfl, rfl⟩, by decide⟩

/-! ## Timers -/

/-- A running station with its MU changed. -/
def timed (m : Membership) (f : MuState → MuState) : State := (on m).mapMu f

theorem hyp_JoiningTimers :
    (timed .listening fun m => { m with listen := some 4000 }).mu.listen.isSome = true ∧
      (timed .listening fun m => { m with restartHold := some 20000 }).mu.restartHold.isSome = true ∧
      (timed .listening fun m => { m with burstHold := some 2000 }).mu.burstHold.isSome = true ∧
      (timed .joining fun m => { m with joinWait := some 3000, populated := true, failures := 1 }).mu.failures + 1 = 2 ∧
      (timed .joining fun m => { m with joinWait := some 3000, newlyPopulated := true }).mu.newlyPopulated = true ∧
      (timed .joining fun m => { m with joinWait := some 3000, joinRecord := [9, 30] }).mu.joinRecord.head? = some img.station ∧
      (timed .loading fun m => { m with load := some 2000 }).mu.load.isSome = true ∧
      (timed .linked fun m => { m with load := some 2000, joinWait := some 3000 }).mu.membership ≠ .loading := by decide

/-- Station 1 and station 48 at the ends of the roster. -/
def edges : State := { linked with mu := { linked.mu with roster := some (rosterOf [(1, linkedEntry 0), (48, linkedEntry 0)]) } }

theorem hyp_MembershipTimers : locked.mu.lock = some ⟨30, 4, true⟩ ∧ edges.isLinked 1 = true ∧ edges.isLinked 48 = true ∧
    (edges.entry 48).lastHeard.isSome = true ∧ edges.slotEmpty .absent = true ∧
    ((edges.setSlot .absent (waiting (.absent [1]))).slot .absent).state = .pending (.absent [1]) ∧
    linked.entryState 30 = .absent ∧ (linked.entry 30).stranding.isSome = true ∧ linked.slotEmpty .reclaim = true ∧
    linked.mu.silence.isSome = true ∧ (timed .fallback fun m => { m with quiet := some 20000 }).mu.quiet.isSome = true ∧
    linked.mu.presence.isSome = true ∧ linked.slotEmpty .status = true ∧ ownLocked.mu.lock = some ⟨9, 4, true⟩ := by
  decide +kernel

/-- A running station with something for each of the other blocks' timers. -/
def ticking : State :=
  { linked with
    ru := { RuState.reset with refresh := some 60000, alerts := some alerts0 }
    srm := { SrmState.reset with readiness := .armed, stepWindow := some 600000 }
    ts := { TsState.reset with drain := .parked, parkTimer := some 120000 }
    ac := { AcState.reset with delay := some 1800000 } }

theorem hyp_BlockTimers : ticking.running = some img ∧ ticking.ru.refresh.isSome = true ∧ ticking.slotEmpty .alert = true ∧
    (ticking.zoneEntry 3).age.isSome = true ∧ isHeeded img 3 = true ∧ isHeeded img 4 = false ∧
    ticking.srm.stepWindow.isSome = true ∧ ticking.srm.stepFresh = false ∧
    { SrmState.reset with readiness := .armed, stepWindow := some 600000, stepFresh := true }.stepFresh = true ∧
    ticking.srm.readiness = .armed ∧ kept.srm.calm.isSome = true ∧
    kept.srm.readiness = .storm ∧ ticking.ts.parkTimer.isSome = true ∧ ticking.ts.drain = .parked ∧
    ticking.ac.delay.isSome = true ∧ ticking.ac.activity = .active ∧
    { linked with ac := { AcState.reset with activity := .waking, recovery := some 10000 } }.ac.recovery.isSome = true := by
  decide +kernel

/-- In WATCH, with the step window running. -/
def watching : State :=
  { linked with
    ru := { RuState.reset with alerts := some alerts0 }
    srm := { SrmState.reset with readiness := .watch, stepWindow := some 600000 } }

/-- R108: the event first, then the expiry of the same instant; the expiry first; and the expiry of a later moment. -/
theorem test_event_and_expiry :
    let event := Instr.alert 1 (body 4 0 [2])
    let t := after (exec event watching)
    t.srm.readiness = .armed ∧ (after (exec .stepWindowExpiry t)).srm.readiness = .armed ∧
      (after (exec event (after (exec .stepWindowExpiry watching)))).srm.readiness = .watch ∧
      (after (exec .stepWindowExpiry (after (step t)))).srm.readiness = .quiet ∧
      (after (exec .stepWindowExpiry (after (exec .stationSecondsTick t)))).srm.readiness = .quiet := by decide +kernel

theorem hyp_StoppedTimersAndDown_line : (on .linked).flight = none ∧ (on .linked).lc.orphan = none ∧
    isFrameCommand (.status (body 4 0 [0, 0, 0])) = true ∧
    ((on .linked).mapLc fun l => { l with following := false }).lc.following = false := by decide +kernel

theorem hyp_StoppedTimersAndDown : State.reset.mu.membership = .down ∧ actsInDown .lineIdle = false ∧
    (on .linked).mu.listen = none ∧ (on .linked).mu.silence = none ∧ (on .linked).ts.window = none ∧
    ((on .linked).entry 4).lastHeard = none ∧ ((on .linked).zoneEntry 3).age = none ∧
    ((on .linked).slot .status).backoff = none := by decide +kernel

/-! ## STATUS on a change, and the sensor's damaged replies -/

/-- A kept sample at the capture level opens the inlet of a LINKED, ACTIVE station: the urgency and the inlet change. -/
def opening : State := (sampling .active).mapTs fun t => { t with inlet := .shut }

theorem hyp_FollowingRulesKept_status :
    let s := { opening with pending := [.sensorReply replyFull] }
    let t := after (step s)
    step s = .next t ∧ t.mu.membership = .linked ∧ t.ac.activity ≠ .dormant ∧ t.ts.inlet ≠ s.ts.inlet ∧
      t.ts.urgency ≠ s.ts.urgency ∧ (sampling .dormant).ac.activity = .dormant := by
  exact ⟨rfl, by decide +kernel⟩

/-- R53, R72: the change is in the STATUS that is queued. -/
theorem test_status_on_change :
    let t := after (exec (.sensorReply replyFull) opening)
    (t.slot .status).state = .pending (.status t.statusValues) ∧ t.statusValues.inlet = .opened := by decide +kernel

theorem hyp_SensorReplyCommand_damaged :
    readReply { reply0 with byteFault := true } = none ∧
    readReply { reply0 with bytes := [7, 248, 0, 3, 232, 0] } = none ∧
    readReply { reply0 with bytes := [7, 248, 0, 3, 232, 0, 235] } = none ∧
    readReply { reply0 with bytes := [7, 248, 3, 3, 232, 0, 237] } = none ∧
    readReply { reply0 with bytes := [7, 248, 0, 3, 232, 3, 237] } = none ∧
    readReply { reply0 with bytes := [7, 248, 2, 3, 232, 2, 238] } = some (Channel.failed, Channel.failed) ∧
    linked.ts.window = none := by decide +kernel

/-- R63: of two replies in one window the second has no effect, and neither has a damaged one. -/
theorem test_discarded_replies :
    let t := after (exec (.sensorReply reply0) (sampling .active))
    after (exec (.sensorReply replyFull) t) = t ∧ t.ts.chamberLevel = some 2040 ∧
      after (exec (.sensorReply { reply0 with byteFault := true }) (sampling .active)) = sampling .active := by
  decide +kernel

/-! ## Flights that fail, orphans and cancels -/

/-- A frame of this station's own on the line whose slot has been emptied. -/
def orphaned : State := linked.mapLc fun l => { l with orphan := some (bodyFrame (body 9 0 [0, 0, 0]) 5 1) }

theorem hyp_FailedFlights_any_tally : Hears (aborting .linked 7) img ∧ (aborting .linked 7).flight = some .status ∧
    ¬ (aborting .linked 7).lc.tally + 1 < 8 ∧ Hears orphaned img ∧ orphaned.flight = none ∧
    orphaned.lc.orphan.isSome = true := by
  exact ⟨⟨rfl, rfl⟩, by decide +kernel, by decide, ⟨rfl, rfl⟩, by decide +kernel, rfl⟩

theorem test_lost_arbitration_at_seven :
    let t := after (exec .lostArbitration (aborting .linked 7))
    t.mu.membership = .linked ∧ t.lc.tally = 7 ∧ t.slotPending .status = true := by decide +kernel

/-- The responder to station 30, with a segment waiting, or with one on the line. -/
def responding : State :=
  (linked.mapMu fun m => { m with lock := some ⟨30, 9, true⟩ }).setSlot .table (waiting (.table 1 30 []))

theorem hyp_AllocationFramesSpoil_responder : Hears responding img ∧ responding.mu.membership = .linked ∧
    responding.mu.lock = some ⟨30, img.station, true⟩ ∧ Hears bursting img ∧
    bursting.mu.lock = some ⟨30, img.station, true⟩ ∧ responding.slotPending .table = true ∧
    bursting.slotInFlight .table = true := by
  exact ⟨⟨rfl, rfl⟩, rfl, rfl, ⟨rfl, rfl⟩, rfl, rfl, rfl⟩

/-- R47, R48, R49: the responder's TABLE slot at the lock's end, by another's frame and by the timer. -/
theorem test_responder_cancels :
    (after (exec (.yield (body 4 0 [0])) responding)).slotEmpty .table = true ∧
      (after (exec (.yield (body 4 0 [0])) bursting)).slotEmpty .table = true ∧
      (after (exec (.table 3 (body 9 30 [])) responding)).slotEmpty .table = true ∧
      (after (exec .lockTimerExpiry responding)).slotEmpty .table = true ∧
      (after (exec .lockTimerExpiry bursting)).flightCancelled .table = true := by decide +kernel

/-- The responder to a joiner whose P differs: segment 0, and no other. -/
def mismatched : State :=
  (linked.mapMu fun m => { m with lock := some ⟨30, 9, false⟩ }).setSlot .table (flying (.table 0 30 []))

theorem hyp_TableElsewhere_responder : Hears responding img ∧ responding.mu.lock = some ⟨30, img.station, true⟩ ∧
    responding.mu.membership = .linked ∧ (body 4 30 []).addressee.toNat = 30 ∧ Hears mismatched img ∧
    mismatched.mu.lock = some ⟨30, img.station, false⟩ ∧ OwnFrom mismatched img (bodyFrame (body 9 30 []) 0 0) .table ∧
    (mismatched.slot .table).state = .inFlight (.table 0 30 []) none false := by
  exact ⟨⟨rfl, rfl⟩, rfl, rfl, by decide, ⟨rfl, rfl⟩, rfl, ⟨by decide +kernel, by decide +kernel⟩, rfl⟩

/-! ## Pruning -/

/-- LINKED with sets of stations waiting in the ABSENT and RECLAIM slots. -/
def declaring (absent reclaim : List Nat) : State :=
  (linked.setSlot .absent (waiting (.absent absent))).setSlot .reclaim (waiting (.reclaim reclaim))

theorem declaring_slots (a r : List Nat) : ((declaring a r).slot .absent).state = .pending (.absent a) ∧
    ((declaring a r).slot .reclaim).state = .pending (.reclaim r) := ⟨rfl, rfl⟩

theorem declaring_takes4 (a r : List Nat) : TakesFrom (declaring a r) img 4 :=
  ⟨⟨rfl, rfl⟩, rfl, rfl, takes4.2.2.2⟩

/-- The own ABSENT or RECLAIM on the line, with a next content waiting. -/
def declared (id : SlotId) (content next : Content) : State :=
  linked.setSlot id { state := .inFlight content (some next) false, backoff := none, busy := 0 }

theorem hyp_AbsentAndReclaim_pruned : (declaring [15] [30]).mu.lock = none ∧
    stationsOf [0, 2, 0, 4, 0, 0] = [15, 30] ∧ (∀ n ∈ [4, 15], n ∈ 4 :: stationsOf [0, 2, 0, 4, 0, 0]) ∧
    (∃ n ∈ [15, 16], n ∉ 4 :: stationsOf [0, 2, 0, 4, 0, 0]) ∧ (∀ n ∈ [30], n ∈ stationsOf [0, 2, 0, 4, 0, 0]) ∧
    (∃ n ∈ [30, 31], n ∉ stationsOf [0, 2, 0, 4, 0, 0]) ∧
    OwnFrom (declared .absent (.absent [15, 30]) (.absent [15, 16])) img
      (bodyFrame (body 9 0 [0, 2, 0, 4, 0, 0]) 1 0) .absent ∧
    OwnFrom (declared .reclaim (.reclaim [15, 30]) (.reclaim [30, 31])) img
      (bodyFrame (body 9 0 [0, 2, 0, 4, 0, 0]) 1 1) .reclaim ∧
    TakesFrom (declared .absent (.absent [15, 30]) (.absent [15, 16])) img 9 := by
  exact ⟨rfl, by decide +kernel, by decide +kernel, ⟨16, by decide +kernel⟩, by decide +kernel, ⟨31, by decide +kernel⟩,
    ⟨by decide +kernel, by decide +kernel⟩, ⟨by decide +kernel, by decide +kernel⟩, ⟨rfl, rfl⟩, rfl, rfl,
    by decide +kernel⟩

/-- R54, R55, R57, R179: the sender and the stations named leave the sets, and an empty set empties its slot. -/
theorem test_pruned_by_name :
    let absent := Instr.absent (body 4 0 [0, 2, 0, 4, 0, 0])
    let reclaim := Instr.reclaim (body 4 0 [0, 2, 0, 4, 0, 0])
    (after (exec absent (declaring [4, 15] [30]))).slot .absent = Slot.blank ∧
      (after (exec absent (declaring [4, 15, 16] [30]))).slot .absent = waiting (.absent [16]) ∧
      (after (exec absent (declaring [4, 15] [30]))).slot .reclaim = waiting (.reclaim [30]) ∧
      (after (exec reclaim (declaring [4, 15] [30]))).slot .absent = waiting (.absent [15]) ∧
      (after (exec reclaim (declaring [4, 15] [30]))).slot .reclaim = Slot.blank ∧
      (after (exec reclaim (declaring [4] [30, 31]))).slot .reclaim = waiting (.reclaim [31]) := by decide +kernel

theorem test_pruned_after_the_own_frame :
    (after (exec (.absent (body 9 0 [0, 2, 0, 4, 0, 0])) (declared .absent (.absent [15, 30]) (.absent [15, 16])))).slot
        .absent = waiting (.absent [16]) ∧
      (after (exec (.reclaim (body 9 0 [0, 2, 0, 4, 0, 0])) (declared .reclaim (.reclaim [15, 30]) (.reclaim [30])))).slot
        .reclaim = Slot.blank := by decide +kernel

theorem hyp_JoinAtALinkedStation_pruned : Hears (declaring [30] [30]) img ∧ (declaring [30] [30]).mu.lock = none ∧
    ((declaring [30] [30]).mapMu fun m => { m with lock := some ⟨15, 4, true⟩ }).mu.lock.isSome = true ∧
    (∀ n ∈ [30], n ∈ [(body 30 0 [8]).sender.toNat]) ∧ ∃ n ∈ [30, 31], n ∉ [(body 30 0 [8]).sender.toNat] := by
  exact ⟨⟨rfl, rfl⟩, rfl, rfl, by decide, 31, by decide, by decide⟩

/-- R45, R54, R57: a JOIN takes its station out of both sets, under a standing lock out of the ABSENT set alone. -/
theorem test_pruned_by_join :
    let t := after (exec (.join (body 30 0 [8])) (declaring [30] [30, 31]))
    let u := after (exec (.join (body 30 0 [8])) ((declaring [30] [30]).mapMu fun m => { m with lock := some ⟨15, 4, true⟩ }))
    t.slot .absent = Slot.blank ∧ t.slot .reclaim = waiting (.reclaim [31]) ∧ u.slot .absent = Slot.blank ∧
      u.slot .reclaim = waiting (.reclaim [30]) := by decide +kernel

/-- The sender of a frame that is heard, in the ABSENT set alone and with another: for ClaimFrame and
FramesThatAreOnlyHeard too. -/
theorem hyp_PresenceFrames_pruned : Hears (declaring [4] [30]) img ∧ isTank (body 4 0 []).sender.toNat = true ∧
    (declaring [4] [30]).isLinked 4 = true ∧ (∀ n ∈ [4], n ∈ [(body 4 0 []).sender.toNat]) ∧
    (∃ n ∈ [4, 15], n ∉ [(body 4 0 []).sender.toNat]) ∧ (declaring [4] [30]).mu.roster = some (trioRoster 4 2 6) ∧
    (declaring [4] [30]).sa.shares = some keptShares ∧ (declaring [4] [30]).mu.lock = none := by
  exact ⟨⟨rfl, rfl⟩, by decide, by decide +kernel, by decide, ⟨15, by decide, by decide⟩, rfl, rfl, rfl⟩

theorem test_pruned_by_hearing : ∀ i ∈ [Instr.table 1 (body 4 30 []), .status (body 4 0 [0, 0, 0]), .dormant (body 4 0 []),
      .claim 3 (body 4 0 [1]), .conditions (body 4 0 []), .withdraw (body 4 0 [])],
    (after (exec i (declaring [4, 15] [30]))).slot .absent = waiting (.absent [15]) ∧
      (after (exec i (declaring [4] [30]))).slot .absent = Slot.blank := by decide +kernel

/-! ## Presence and the timers of a loaded roster -/

theorem hyp_PresenceFrames_any : (Instr.notice (body 9 52 []), bodyFrame (body 9 52 []) 7 4) ∈
      tankFrameCommands 0 0 (body 9 52 []) ∧
    isTank (body 9 52 []).sender.toNat = true ∧
    Hears (noticing .noticeStart (.noticeStart 52 1 0 0 false false)) img ∧
    ((noticing .noticeStart (.noticeStart 52 1 0 0 false false)).arrival img (bodyFrame (body 9 52 []) 7 4)).own = true ∧
    (orphaned.arrival img (bodyFrame (body 9 0 [0, 0, 0]) 5 1)).own = true ∧ Hears orphaned img := by
  exact ⟨by decide, by decide, ⟨rfl, rfl⟩, by decide +kernel, by decide +kernel, rfl, rfl⟩

/-- R53: the presence timer restarts at an own frame, at the dormant interval while DORMANT, and not at another's. -/
theorem test_presence_restarts :
    let own := Instr.status (body 9 0 [0, 0, 0])
    let half (a : Activity) := ((sampling a).setSlot .status (flying status0)).mapMu fun m => { m with presence := some 7 }
    (after (exec own (half .active))).mu.presence = some 2000 ∧ (after (exec own (half .dormant))).mu.presence = some 60000 ∧
      (after (exec (.status (body 4 0 [0, 0, 0])) (half .active))).mu.presence = some 7 := by decide +kernel

theorem hyp_LoadingSegments_timers : RestRule (loadingAt 3) ∧ (4 : Nat) ≠ img.station ∧ (loadingAt 3).entryState 4 = .linked ∧
    (loadingAt 3).entryState 30 = .absent ∧ ((body 4 9 []).sender.toNat = 4) ∧ (15 : Nat) ≠ (body 4 9 []).sender.toNat ∧
    (loadingAt 3).entryState 15 = .linked := by
  exact ⟨fun h => absurd rfl h, by decide +kernel⟩

/-- R51: the timers of what a joiner has loaded, and its STATUS. -/
theorem test_loaded_timers :
    let mark := (loadingAt 3).mapEntry 15 fun e => { e with dormant := true, lastHeard := none }
    let t := after (exec (.table 3 (body 4 9 (1 :: List.replicate 47 0))) (mark.mapEntry 30 fun e => { e with stranding := none }))
    t.mu.membership = .linked ∧ (t.entry 4).lastHeard = some 10000 ∧ (t.entry 15).lastHeard = some 180000 ∧
      (t.entry 30).stranding = some 30000 ∧ (t.entry 9).lastHeard = none ∧
      (t.slot .status).state.newest = some (.status t.statusValues) := by decide +kernel

theorem hyp_JoiningTimers_status :
    RestRule (timed .joining fun m => { m with joinWait := some 3000, joinRecord := [9, 30] }) ∧
      1 ≤ img.station ∧ img.station ≤ 48 :=
  ⟨fun h => absurd rfl h, by decide, by decide⟩

theorem test_founder_status :
    let t := after (exec .joinWaitExpiry (timed .joining fun m => { m with joinWait := some 3000, joinRecord := [9, 30] }))
    t.mu.membership = .linked ∧ (t.slot .status).state.newest = some (.status t.statusValues) := by decide +kernel

theorem hyp_MembershipTimers_slots : responding.mu.lock = some ⟨30, img.station, true⟩ ∧
    (responding.slot .table).state = .pending (.table 1 30 []) ∧ bursting.mu.lock = some ⟨30, img.station, true⟩ ∧
    (bursting.slot .table).state = .inFlight (.table 2 30 [0, 0, 0, 0]) none false ∧
    ((edges.setSlot .absent (flying (.absent [48]))).slot .absent).state = .inFlight (.absent [48]) none false ∧
    ((linked.setSlot .reclaim (flying (.reclaim [15]))).slot .reclaim).state = .inFlight (.reclaim [15]) none false ∧
    ((linked.setSlot .reclaim (waiting (.reclaim [15]))).slot .reclaim).state = .pending (.reclaim [15]) := by
  decide +kernel

theorem test_reclaim_joins_its_slot :
    ((after (exec (.strandingTimerExpiry 30) (linked.setSlot .reclaim (waiting (.reclaim [15]))))).slot .reclaim).state =
        .pending (.reclaim [15, 30]) ∧
      ((after (exec (.strandingTimerExpiry 30) (linked.setSlot .reclaim (flying (.reclaim [15]))))).slot .reclaim).state =
        .inFlight (.reclaim [15]) (some (.reclaim [30])) false := by decide +kernel

/-! ## The outputs' levels -/

/-- In WATCH, under the tide lock, and in STORM, beside QUIET. -/
theorem hyp_Outputs_patterns : watching.lampPattern = .slowFlash ∧
    (watching.mapTs fun t => { t with tideLock := true }).lampPattern = .fastFlash ∧ kept.lampPattern = .steady ∧
    linked.lampPattern = .off ∧ State.reset.statusPattern = .down ∧ (on .loading).statusPattern = .joining ∧
    linked.statusPattern = .linked ∧ (on .isolated).statusPattern = .fallenOut := by decide +kernel

theorem hyp_Outputs_down : DownRule State.reset ∧ State.reset.mu.membership = .down ∧ ∃ t, step State.reset = .next t :=
  ⟨fun _ => by decide +kernel, rfl, _, rfl⟩

/-- Table 5-3: the last lit ms and the first dark one of either flash, and the next period. -/
theorem test_lamp_levels :
    [0, 999, 1000, 1999, 2000].map watching.lampOutput = [true, true, false, false, true] ∧
      [0, 249, 250, 499, 500].map (watching.mapTs fun t => { t with tideLock := true }).lampOutput =
        [true, true, false, false, true] ∧
      [0, 1999].map kept.lampOutput = [true, true] ∧ [0, 1999].map linked.lampOutput = [false, false] := by decide +kernel

/-- Table 10-4. -/
theorem test_status_line_levels :
    [0, 99, 100, 1999, 2000].map State.reset.statusOutput = [true, true, false, false, true] ∧
      [0, 499, 500, 999, 1000].map (on .joining).statusOutput = [true, true, false, false, true] ∧
      [0, 1999].map linked.statusOutput = [true, true] ∧
      [0, 1899, 1900, 1999, 2000].map (on .fallback).statusOutput = [true, true, false, false, true] := by decide +kernel

end Sys2Proof.Tests
end

namespace Sys2Proof.Machine

open Sys2Proof

/-! ## The allocation rule (R9) -/

/-- The list after its head has been given one share. -/
def servedOnce (h : Claim) (t : List Claim) : List Claim :=
  if h.remaining ≤ 1 then closeRank h.rank t else { h with remaining := h.remaining - 1 } :: t

theorem allocate_free_cons (sh : List Share) (h : Claim) (t : List Claim) :
    allocate (.free :: sh) (h :: t) =
      (.held h.claimant :: (allocate sh (servedOnce h t)).1, (allocate sh (servedOnce h t)).2) := rfl

theorem allocate_cons_of_ne {x : Share} (hx : x ≠ .free) (sh : List Share) (cl : List Claim) :
    allocate (x :: sh) cl = (x :: (allocate sh cl).1, (allocate sh cl).2) := by
  cases x with
  | free => exact absurd rfl hx
  | _ => rfl

theorem allocate_nil (sh : List Share) : allocate sh [] = (sh, []) := by
  induction sh with
  | nil => rfl
  | cons x sh ih => cases x <;> simp [allocate, ih]

/-- Induction along a run of the allocation rule: the shares are used up, the list is empty, the head takes a FREE share,
or a share is passed over. -/
theorem allocate_induction {P : List Share → List Claim → Prop} (done : ∀ cl, P [] cl) (idle : ∀ sh, P sh [])
    (serve : ∀ sh h t, P sh (servedOnce h t) → P (.free :: sh) (h :: t))
    (pass : ∀ x sh cl, x ≠ .free → P sh cl → P (x :: sh) cl) : ∀ sh cl, P sh cl := by
  intro sh
  induction sh with
  | nil => exact done
  | cons x sh ih =>
    intro cl
    by_cases hx : x = .free
    · subst hx
      cases cl with
      | nil => exact idle _
      | cons h t => exact serve sh h t (ih _)
    · exact pass x sh cl hx (ih cl)

@[simp] theorem closeRank_map_claimant (r : Nat) (l : List Claim) :
    (closeRank r l).map Claim.claimant = l.map Claim.claimant := by
  simp only [closeRank, List.map_map]
  exact List.map_congr_left fun e _ => by simp only [Function.comp]; split <;> rfl

theorem mem_closeRank {r : Nat} {l : List Claim} {e : Claim} (h : e ∈ closeRank r l) :
    ∃ e' ∈ l, e'.claimant = e.claimant ∧ e'.remaining = e.remaining := by
  obtain ⟨e', hm, rfl⟩ := List.mem_map.mp h
  exact ⟨e', hm, by split <;> exact ⟨rfl, rfl⟩⟩

@[simp] theorem waitingShares_closeRank (r : Nat) (l : List Claim) :
    waitingShares (closeRank r l) = waitingShares l := by
  simp only [waitingShares, closeRank, List.flatMap_map]
  congr 1; funext e; split <;> rfl

@[simp] theorem waitingShares_cons (e : Claim) (l : List Claim) :
    waitingShares (e :: l) = List.replicate e.remaining (.held e.claimant) ++ waitingShares l := rfl

theorem servedOnce_waits {h : Claim} {t : List Claim} (hw : ∀ e ∈ h :: t, 1 ≤ e.remaining) :
    ∀ e ∈ servedOnce h t, 1 ≤ e.remaining := by
  intro e he
  unfold servedOnce at he
  split at he
  · obtain ⟨e', hm, -, hr⟩ := mem_closeRank he
    exact hr ▸ hw e' (List.mem_cons_of_mem _ hm)
  · rcases List.mem_cons.mp he with rfl | hm
    · simp only; omega
    · exact hw e (List.mem_cons_of_mem _ hm)

/-- The share that the head is given is the first of those the list waits for. -/
theorem waitingShares_head {h : Claim} {t : List Claim} (hw : 1 ≤ h.remaining) :
    waitingShares (h :: t) = .held h.claimant :: waitingShares (servedOnce h t) := by
  unfold servedOnce
  split
  · have : h.remaining = 1 := by omega
    simp [this]
  · obtain ⟨k, hk⟩ : ∃ k, h.remaining = k + 1 := ⟨h.remaining - 1, by omega⟩
    simp [hk, List.replicate_succ]

@[simp] theorem allocate_length (sh : List Share) (cl : List Claim) : (allocate sh cl).1.length = sh.length := by
  induction sh, cl using allocate_induction with
  | done cl => rfl
  | idle sh => rw [allocate_nil]
  | serve sh h t ih => simp [allocate_free_cons, ih]
  | pass x sh cl hx ih => simp [allocate_cons_of_ne hx, ih]

/-- Only a FREE share is given away. -/
theorem allocate_getElem?_of_ne (sh : List Share) (cl : List Claim) :
    ∀ (i : Nat) (x : Share), sh[i]? = some x → x ≠ .free → (allocate sh cl).1[i]? = some x := by
  induction sh, cl using allocate_induction with
  | done cl => simp
  | idle sh => intro i x h _; rwa [allocate_nil]
  | serve sh h t ih =>
    intro i x hi hx
    cases i with
    | zero => exact absurd (by simpa using hi.symm) hx
    | succ i => exact ih i x hi hx
  | pass y sh cl hy ih =>
    intro i x hi hx
    rw [allocate_cons_of_ne hy]
    cases i with
    | zero => exact hi
    | succ i => exact ih i x hi hx

/-- What the rule leaves at an index is the share that was there, or a FREE one now HELD. -/
theorem allocate_getElem? {sh : List Share} {cl : List Claim} {i : Nat} {y : Share}
    (h : (allocate sh cl).1[i]? = some y) : sh[i]? = some y ∨ sh[i]? = some .free ∧ ∃ n, y = .held n := by
  induction sh, cl using allocate_induction generalizing i with
  | done cl => simp [allocate] at h
  | idle sh => rw [allocate_nil] at h; exact .inl h
  | serve sh e t ih =>
    rw [allocate_free_cons] at h
    cases i with
    | zero => exact .inr ⟨rfl, e.claimant, by simpa using h.symm⟩
    | succ i => exact ih (by simpa using h)
  | pass x sh cl hx ih =>
    rw [allocate_cons_of_ne hx] at h
    cases i with
    | zero => exact .inl h
    | succ i => exact ih (by simpa using h)

/-- While the list still waits, no share is FREE. -/
theorem allocate_no_free (sh : List Share) (cl : List Claim) :
    (allocate sh cl).2 ≠ [] → Share.free ∉ (allocate sh cl).1 := by
  induction sh, cl using allocate_induction with
  | done cl => simp [allocate]
  | idle sh => simp [allocate_nil]
  | serve sh h t ih => intro hn; simpa [allocate_free_cons] using ih hn
  | pass x sh cl hx ih =>
    rw [allocate_cons_of_ne hx]
    intro hn
    simpa [Ne.symm hx] using ih hn

/-- The shares that stand in `out` where `sh` has FREE ones, in ascending index. -/
def atFree (sh out : List Share) : List Share :=
  ((List.range sh.length).filter fun i => decide (sh[i]? = some Share.free)).filterMap fun i => out[i]?

theorem atFree_cons (x y : Share) (sh out : List Share) :
    atFree (x :: sh) (y :: out) = (if x = .free then [y] else []) ++ atFree sh out := by
  unfold atFree
  simp only [List.length_cons, List.range_succ_eq_map, List.filter_cons, List.filter_map, List.getElem?_cons_zero]
  have hs : ((fun i => decide ((x :: sh)[i]? = some Share.free)) ∘ Nat.succ) =
      fun i => decide (sh[i]? = some Share.free) := by
    funext i; simp
  rw [hs]
  by_cases hx : x = .free <;> simp [hx, List.filterMap_map]

theorem atFree_self (sh : List Share) : atFree sh sh = List.replicate (sh.count .free) .free := by
  induction sh with
  | nil => rfl
  | cons x sh ih =>
    rw [atFree_cons, ih]
    by_cases hx : x = .free
    · simp [hx, List.replicate_succ]
    · simp [hx]

/-- The FREE shares, in ascending index, go to the waiting stations in the list's order (R9). -/
theorem allocate_atFree (sh : List Share) (cl : List Claim) (hw : ∀ e ∈ cl, 1 ≤ e.remaining) (k : Nat) :
    atFree sh (allocate sh cl).1 =
      (waitingShares cl ++ List.replicate (sh.length + k) Share.free).take (sh.count Share.free) := by
  induction sh, cl using allocate_induction generalizing k with
  | done cl => simp [atFree]
  | idle sh =>
    rw [allocate_nil, atFree_self]
    have : sh.count .free ≤ sh.length := List.count_le_length
    simp [waitingShares, List.take_replicate]
    omega
  | serve sh h t ih =>
    rw [allocate_free_cons, atFree_cons, ih (servedOnce_waits hw) (k + 1),
      waitingShares_head (hw h List.mem_cons_self)]
    simp [Nat.add_right_comm, Nat.add_assoc]
  | pass x sh cl hx ih =>
    rw [allocate_cons_of_ne hx, atFree_cons, ih hw (k + 1)]
    simp [hx, Nat.add_right_comm, Nat.add_assoc]

/-- The list goes on waiting for what it has not been given (R9). -/
theorem allocate_waitingShares (sh : List Share) (cl : List Claim) (hw : ∀ e ∈ cl, 1 ≤ e.remaining) :
    waitingShares (allocate sh cl).2 = (waitingShares cl).drop (sh.count Share.free) := by
  induction sh, cl using allocate_induction with
  | done cl => rfl
  | idle sh => simp [allocate_nil, waitingShares]
  | serve sh h t ih =>
    rw [allocate_free_cons, ih (servedOnce_waits hw), waitingShares_head (hw h List.mem_cons_self)]
    simp
  | pass x sh cl hx ih =>
    rw [allocate_cons_of_ne hx, ih hw]
    simp [hx]

/-- Settles O34: each clause is an induction along the run of the rule. -/
theorem allocationRule : Obligations.AllocationRule := fun sh cl hw =>
  ⟨allocate_length sh cl, allocate_getElem?_of_ne sh cl, allocate_atFree sh cl hw 0,
    allocate_waitingShares sh cl hw, allocate_no_free sh cl⟩

end Sys2Proof.Machine

namespace Sys2Proof.Machine

open Sys2Proof

/-! ## The shares a station holds and waits for -/

/-- An index is in a station's holdings exactly if the share there is HELD by it. -/
theorem mem_heldBy {sh : List Share} {n i : Nat} : i ∈ heldBy sh n ↔ sh[i]? = some (.held n) := by
  simp only [heldBy, List.mem_filter, List.mem_range, decide_eq_true_eq, List.getD_eq_getElem?_getD]
  by_cases h : i < sh.length <;> simp [h]

theorem heldBy_length (sh : List Share) (n : Nat) : (heldBy sh n).length = sh.count (.held n) := by
  have hr : (List.range sh.length).map (fun i => sh.getD i .free) = sh :=
    List.ext_getElem (by simp) fun i h _ => by simp at h; simp [h]
  calc (heldBy sh n).length
      = ((List.range sh.length).map fun i => sh.getD i .free).countP fun x => decide (x = .held n) := by
        rw [List.countP_map, List.countP_eq_length_filter]; rfl
    _ = sh.count (.held n) := by rw [hr, List.count_eq_countP]; congr 1

theorem holdings_of_shares {s : State} {sh : List Share} (h : s.sa.shares = some sh) (n : Nat) :
    s.holdings n = heldBy sh n := by
  unfold State.holdings; rw [h]

/-- What a claim list still waits for on behalf of one station. -/
def awaitsIn (cl : List Claim) (n : Nat) : Nat :=
  match cl.find? fun e => decide (e.claimant = n) with
  | none => 0
  | some e => e.remaining

theorem awaits_eq (s : State) (n : Nat) : s.awaits n = awaitsIn s.sa.claims n := rfl

@[simp] theorem awaitsIn_nil (n : Nat) : awaitsIn [] n = 0 := rfl

theorem awaitsIn_cons (e : Claim) (cl : List Claim) (n : Nat) :
    awaitsIn (e :: cl) n = if e.claimant = n then e.remaining else awaitsIn cl n := by
  unfold awaitsIn
  by_cases h : e.claimant = n <;> simp [h]

theorem awaitsIn_of_not_mem {cl : List Claim} {n : Nat} (h : n ∉ cl.map Claim.claimant) : awaitsIn cl n = 0 := by
  induction cl with
  | nil => rfl
  | cons e cl ih =>
    simp only [List.map_cons, List.mem_cons, not_or] at h
    rw [awaitsIn_cons, if_neg (Ne.symm h.1), ih h.2]

/-- A change of the entries that keeps claimants and counts keeps what is waited for. -/
theorem awaitsIn_map {f : Claim → Claim} (hc : ∀ e, (f e).claimant = e.claimant)
    (hr : ∀ e, (f e).remaining = e.remaining) (cl : List Claim) (n : Nat) :
    awaitsIn (cl.map f) n = awaitsIn cl n := by
  induction cl with
  | nil => rfl
  | cons e cl ih => simp only [List.map_cons, awaitsIn_cons, ih, hc, hr]

@[simp] theorem awaitsIn_closeRank (r : Nat) (cl : List Claim) (n : Nat) :
    awaitsIn (closeRank r cl) n = awaitsIn cl n :=
  awaitsIn_map (fun e => by split <;> rfl) (fun e => by split <;> rfl) cl n

/-- An entry is found under its claimant, where each station has at most one. -/
theorem awaitsIn_of_mem {cl : List Claim} (hn : (cl.map Claim.claimant).Nodup) {e : Claim} (he : e ∈ cl) :
    awaitsIn cl e.claimant = e.remaining := by
  induction cl with
  | nil => simp at he
  | cons x cl ih =>
    rw [List.map_cons, List.nodup_cons] at hn
    rw [awaitsIn_cons]
    rcases List.mem_cons.mp he with rfl | he
    · rw [if_pos rfl]
    · have hx : x.claimant ≠ e.claimant := fun h => hn.1 (List.mem_map.mpr ⟨e, he, h.symm⟩)
      rw [if_neg hx, ih hn.2 he]

/-- What is waited for does not depend on the order of the list. -/
theorem awaitsIn_perm {a b : List Claim} (h : a.Perm b) (hn : (a.map Claim.claimant).Nodup) (n : Nat) :
    awaitsIn a n = awaitsIn b n := by
  have hb := (h.map Claim.claimant).nodup_iff.mp hn
  by_cases hm : n ∈ a.map Claim.claimant
  · obtain ⟨e, he, rfl⟩ := List.mem_map.mp hm
    rw [awaitsIn_of_mem hn he, awaitsIn_of_mem hb (h.mem_iff.mp he)]
  · rw [awaitsIn_of_not_mem hm, awaitsIn_of_not_mem fun h' => hm ((h.map Claim.claimant).mem_iff.mpr h')]

/-- R5 and R11 of tables: HoldRule, said of the share table's count of a station's HELD shares. -/
def HoldTables (held : Nat → Nat) (cl : List Claim) : Prop :=
  (cl.map Claim.claimant).Nodup ∧ (∀ e ∈ cl, 1 ≤ e.remaining) ∧ ∀ n, held n + awaitsIn cl n ≤ 8

theorem holdRule_iff (s : State) :
    HoldRule s ↔ HoldTables (fun n => (s.holdings n).length) s.sa.claims := Iff.rfl

theorem holdRule_of_shares {s : State} {sh : List Share} (h : s.sa.shares = some sh) :
    HoldRule s ↔ HoldTables (fun n => sh.count (.held n)) s.sa.claims := by
  simp only [holdRule_iff, holdings_of_shares h, heldBy_length]

theorem HoldTables.mono {f g : Nat → Nat} {cl : List Claim} (h : HoldTables f cl) (hg : ∀ n, g n ≤ f n) :
    HoldTables g cl :=
  ⟨h.1, h.2.1, fun n => by have := h.2.2 n; have := hg n; omega⟩

theorem HoldTables.perm {f : Nat → Nat} {a b : List Claim} (h : HoldTables f a) (hp : a.Perm b) : HoldTables f b := by
  obtain ⟨hn, hr, hh⟩ := h
  exact ⟨(hp.map _).nodup_iff.mp hn, fun e he => hr e (hp.mem_iff.mpr he), fun n => awaitsIn_perm hp hn n ▸ hh n⟩

/-- What the head takes is no longer waited for. -/
theorem awaitsIn_servedOnce {h : Claim} {t : List Claim} (hn : h.claimant ∉ t.map Claim.claimant)
    (hw : 1 ≤ h.remaining) (n : Nat) :
    (if h.claimant = n then 1 else 0) + awaitsIn (servedOnce h t) n = awaitsIn (h :: t) n := by
  rw [awaitsIn_cons]
  by_cases hr : h.remaining ≤ 1
  · rw [servedOnce, if_pos hr, awaitsIn_closeRank]
    by_cases hc : h.claimant = n
    · rw [if_pos hc, if_pos hc, awaitsIn_of_not_mem (hc ▸ hn)]; omega
    · simp [hc]
  · rw [servedOnce, if_neg hr, awaitsIn_cons]
    by_cases hc : h.claimant = n
    · simp only [hc, if_true]; omega
    · simp [hc]

/-- The share that the head takes moves from what it waits for to what it holds. -/
theorem HoldTables.serve {f : Nat → Nat} {h : Claim} {t : List Claim} (hh : HoldTables f (h :: t)) :
    HoldTables (fun n => f n + if h.claimant = n then 1 else 0) (servedOnce h t) := by
  obtain ⟨hn, hr, hb⟩ := hh
  simp only [List.map_cons, List.nodup_cons] at hn
  refine ⟨?_, servedOnce_waits hr, fun n => ?_⟩
  · unfold servedOnce
    split
    · simpa using hn.2
    · simpa using hn
  · have hb := hb n
    rw [← awaitsIn_servedOnce hn.1 (hr h List.mem_cons_self)] at hb
    simp only
    omega

/-- The allocation rule keeps, for each station, what it holds and waits for within the limit. -/
theorem HoldTables.allocate (sh : List Share) (cl : List Claim) : ∀ f : Nat → Nat,
    HoldTables (fun n => f n + sh.count (.held n)) cl →
      HoldTables (fun n => f n + (allocate sh cl).1.count (.held n)) (allocate sh cl).2 := by
  induction sh, cl using allocate_induction with
  | done cl => exact fun f h => h
  | idle sh => intro f h; rwa [allocate_nil]
  | serve sh h t ih =>
    intro f hf
    rw [allocate_free_cons]
    have := ih (fun n => f n + if h.claimant = n then 1 else 0)
      (hf.serve.mono fun n => by simp only [List.count_cons]; simp; omega)
    exact this.mono fun n => by simp only [List.count_cons]; simp; omega
  | pass x sh cl hx ih =>
    intro f hf
    rw [allocate_cons_of_ne hx]
    have := ih (fun n => f n + if x = .held n then 1 else 0)
      (hf.mono fun n => by simp only [List.count_cons]; simp; omega)
    exact this.mono fun n => by simp only [List.count_cons]; simp; omega

/-- R4 and R9 of tables: WaitingRule of a valid share table, without the state. -/
def WaitingTables (sh : List Share) (q : Option Nat) (cl : List Claim) : Prop :=
  (cl ≠ [] → Share.free ∉ sh) ∧
    ∀ q', q = some q' → (∀ i : Nat, sh[i]? = some .withheld → q' ≤ i) ∧ ∀ i : Nat, sh[i]? = some .free → i < q'

theorem waitingRule_iff (s : State) :
    WaitingRule s ↔ ∀ sh, s.sa.shares = some sh → WaitingTables sh s.sa.curtail s.sa.claims := Iff.rfl

theorem waitingRule_of_shares {s : State} {sh : List Share} (h : s.sa.shares = some sh) :
    WaitingRule s ↔ WaitingTables sh s.sa.curtail s.sa.claims := by
  simp [waitingRule_iff, h]

/-- Shares that stay in the curtail level's order stay so when the allocation rule has run. -/
theorem waitingTables_allocate {sh : List Share} {q : Option Nat} (cl : List Claim)
    (h : ∀ q', q = some q' →
      (∀ i : Nat, sh[i]? = some .withheld → q' ≤ i) ∧ ∀ i : Nat, sh[i]? = some .free → i < q') :
    WaitingTables (allocate sh cl).1 q (allocate sh cl).2 := by
  refine ⟨allocate_no_free sh cl, fun q' hq => ⟨fun i hi => ?_, fun i hi => ?_⟩⟩
  · rcases allocate_getElem? hi with hi | ⟨-, n, hn⟩
    · exact (h q' hq).1 i hi
    · cases hn
  · rcases allocate_getElem? hi with hi | ⟨-, n, hn⟩
    · exact (h q' hq).2 i hi
    · cases hn

end Sys2Proof.Machine

namespace Sys2Proof.Machine

open Sys2Proof

/-! ## What each operation does to the share table and the claim list -/

theorem count_le_of_getElem? {α : Type} [DecidableEq α] {a : α} : ∀ {l l' : List α},
    (∀ i : Nat, l[i]? = some a → l'[i]? = some a) → l.count a ≤ l'.count a
  | [], _, _ => by simp
  | x :: l, [], h => by
    have hx : ∀ y ∈ x :: l, y ≠ a := fun y hy e => by
      obtain ⟨i, hi⟩ := List.getElem?_of_mem hy
      simpa using h i (e ▸ hi)
    rw [List.count_eq_zero_of_not_mem fun hm => hx a hm rfl]
    exact Nat.zero_le _
  | x :: l, y :: l', h => by
    have ih : l.count a ≤ l'.count a := count_le_of_getElem? fun i hi => h (i + 1) hi
    have h0 : x = a → y = a := fun e => by simpa using h 0 (by simp [e])
    simp only [List.count_cons, beq_iff_eq]
    split
    · next e => rw [if_pos (h0 e)]; omega
    · omega

/-! ### Returns (R8) -/

theorem isReturn_returnShares (q : Nat) (p : Nat → Share → Bool) (sh : List Share) :
    IsReturn q p sh (returnShares q p sh) := by
  refine ⟨by simp [returnShares], fun i x h => ?_⟩
  simp [returnShares, List.getElem?_mapIdx, h, returnedShare]

theorem freesShare_iff {q : Nat} {p : Nat → Share → Bool} {sh : List Share} :
    freesShare q p sh = true ↔ ∃ (i : Nat) (x : Share), sh[i]? = some x ∧ p i x = true ∧ i < q := by
  simp only [freesShare, List.any_eq_true, List.mem_range, Bool.and_eq_true, decide_eq_true_eq]
  constructor
  · rintro ⟨i, hi, hp, hq⟩
    exact ⟨i, sh[i], by simp [hi], by simpa [hi] using hp, hq⟩
  · rintro ⟨i, x, hx, hp, hq⟩
    obtain ⟨hi, rfl⟩ := List.getElem?_eq_some_iff.mp hx
    exact ⟨i, hi, by simpa [hi] using hp, hq⟩

theorem redistributed_returnWhere {s : State} {sh : List Share} {q : Nat} (hs : s.sa.shares = some sh)
    (hq : s.sa.curtail = some q) (p : Nat → Share → Bool) : Redistributed q p sh s.sa.claims (s.returnWhere p) := by
  refine ⟨returnShares q p sh, isReturn_returnShares q p sh, ?_⟩
  unfold State.returnWhere
  rw [hs, hq]
  dsimp only
  by_cases hf : freesShare q p sh = true
  · rw [if_pos hf]
    exact ⟨hq, fun _ => ⟨rfl, rfl⟩, fun h => absurd (freesShare_iff.mp hf) h⟩
  · rw [if_neg hf]
    exact ⟨hq, fun h => absurd (freesShare_iff.mpr h) hf, fun _ => ⟨rfl, rfl⟩⟩

theorem returnWhere_of_void {s : State} (h : s.sa.shares = none ∨ s.sa.curtail = none) (p : Nat → Share → Bool) :
    s.returnWhere p = s := by
  unfold State.returnWhere
  split
  · next hs hq => rcases h with h | h <;> simp_all
  · rfl

/-- A return is one of the tables alone. -/
theorem Redistributed.of_tables {q : Nat} {p : Nat → Share → Bool} {sh : List Share} {cl : List Claim} {t u : State}
    (h : Redistributed q p sh cl t) (e : u.tables = t.tables) : Redistributed q p sh cl u := by
  simp only [State.tables, Prod.mk.injEq] at e
  obtain ⟨es, eq, ec⟩ := e
  unfold Redistributed at h ⊢
  rwa [es, eq, ec]

/-- A share that has been returned is FREE below the curtail level and WITHHELD at or above it; every other one is
what it was. -/
theorem IsReturn.cases {q : Nat} {p : Nat → Share → Bool} {sh back : List Share} (h : IsReturn q p sh back) {i : Nat}
    {y : Share} (hy : back[i]? = some y) :
    sh[i]? = some y ∨ ∃ x, sh[i]? = some x ∧ p i x = true ∧ y = if i < q then .free else .withheld := by
  have hi : i < sh.length := h.1 ▸ (List.getElem?_eq_some_iff.mp hy).1
  have hx := h.2 i sh[i] (by simp [hi])
  rw [hy, Option.some.injEq] at hx
  by_cases hp : p i sh[i] = true
  · rw [if_pos hp] at hx
    exact .inr ⟨_, by simp [hi], hp, hx⟩
  · rw [if_neg hp] at hx
    exact .inl (by simp [hi, hx])

theorem IsReturn.count_held_le {q : Nat} {p : Nat → Share → Bool} {sh back : List Share} (h : IsReturn q p sh back)
    (n : Nat) : back.count (.held n) ≤ sh.count (.held n) :=
  count_le_of_getElem? fun i hi => by
    rcases h.cases hi with hi | ⟨x, -, -, hx⟩
    · exact hi
    · split at hx <;> cases hx

/-- A return and the allocation that follows keep R4 and R9. -/
theorem Redistributed.waiting {q : Nat} {p : Nat → Share → Bool} {sh : List Share} {cl : List Claim} {t : State}
    (h : Redistributed q p sh cl t) (hw : WaitingTables sh (some q) cl) : WaitingRule t := by
  obtain ⟨back, hb, hq, hfree, hnone⟩ := h
  obtain ⟨hnf, hlev⟩ := hw
  have hlev' : ∀ q', some q = some q' →
      (∀ i : Nat, back[i]? = some .withheld → q' ≤ i) ∧ ∀ i : Nat, back[i]? = some .free → i < q' := by
    rintro _ ⟨rfl⟩
    refine ⟨fun i hi => ?_, fun i hi => ?_⟩
    · rcases hb.cases hi with hi | ⟨x, -, -, hx⟩
      · exact (hlev q rfl).1 i hi
      · split at hx
        · cases hx
        · omega
    · rcases hb.cases hi with hi | ⟨x, -, -, hx⟩
      · exact (hlev q rfl).2 i hi
      · split at hx
        · assumption
        · cases hx
  by_cases hex : ∃ (i : Nat) (x : Share), sh[i]? = some x ∧ p i x = true ∧ i < q
  · obtain ⟨hs, hc⟩ := hfree hex
    rw [waitingRule_of_shares hs, hq, hc]
    exact waitingTables_allocate cl hlev'
  · obtain ⟨hs, hc⟩ := hnone hex
    rw [waitingRule_of_shares hs, hq, hc]
    refine ⟨fun hcl hm => ?_, hlev'⟩
    obtain ⟨i, hi⟩ := List.getElem?_of_mem hm
    rcases hb.cases hi with hi | ⟨x, hx, hp, hy⟩
    · exact hnf hcl (List.mem_of_getElem? hi)
    · split at hy
      · exact hex ⟨i, x, hx, hp, ‹_›⟩
      · cases hy

/-- A return and the allocation that follows keep R11's limit. -/
theorem Redistributed.hold {q : Nat} {p : Nat → Share → Bool} {sh : List Share} {cl : List Claim} {t : State}
    (h : Redistributed q p sh cl t) (hh : HoldTables (fun n => sh.count (.held n)) cl) : HoldRule t := by
  obtain ⟨back, hb, hq, hfree, hnone⟩ := h
  have hback := hh.mono hb.count_held_le
  by_cases hex : ∃ (i : Nat) (x : Share), sh[i]? = some x ∧ p i x = true ∧ i < q
  · obtain ⟨hs, hc⟩ := hfree hex
    rw [holdRule_of_shares hs, hc]
    exact (HoldTables.allocate back cl (fun _ => 0) (by simpa using hback)).mono fun n => by simp
  · obtain ⟨hs, hc⟩ := hnone hex
    rwa [holdRule_of_shares hs, hc]

/-! ### Removed entries (R6) -/

theorem removeClaim_of_none {n : Nat} {l : List Claim} (h : l.find? (fun e => decide (e.claimant = n)) = none) :
    removeClaim n l = l := by
  unfold removeClaim; rw [h]

theorem removeClaim_of_some {n : Nat} {l : List Claim} {e : Claim}
    (h : l.find? (fun e => decide (e.claimant = n)) = some e) :
    removeClaim n l = closeRank e.rank (l.filter fun x => !decide (x.claimant = n)) := by
  unfold removeClaim; rw [h]

theorem removeClaim_map_claimant (n : Nat) (l : List Claim) :
    (removeClaim n l).map Claim.claimant = (l.map Claim.claimant).filter fun m => !decide (m = n) := by
  cases h : l.find? fun e => decide (e.claimant = n) with
  | none =>
    rw [removeClaim_of_none h]
    refine (List.filter_eq_self.mpr fun m hm => ?_).symm
    obtain ⟨e, he, rfl⟩ := List.mem_map.mp hm
    simpa using List.find?_eq_none.mp h e he
  | some e => rw [removeClaim_of_some h, closeRank_map_claimant, List.filter_map]; rfl

theorem mem_removeClaim {n : Nat} {l : List Claim} {e : Claim} (h : e ∈ removeClaim n l) :
    ∃ e' ∈ l, e'.claimant = e.claimant ∧ e'.remaining = e.remaining := by
  cases hf : l.find? fun e => decide (e.claimant = n) with
  | none => rw [removeClaim_of_none hf] at h; exact ⟨e, h, rfl, rfl⟩
  | some x =>
    rw [removeClaim_of_some hf] at h
    obtain ⟨e', hm, h'⟩ := mem_closeRank h
    exact ⟨e', List.mem_of_mem_filter hm, h'⟩

theorem awaitsIn_removeClaim (n : Nat) (l : List Claim) (m : Nat) :
    awaitsIn (removeClaim n l) m = if m = n then 0 else awaitsIn l m := by
  by_cases hm : m = n
  · subst hm
    rw [if_pos rfl]
    exact awaitsIn_of_not_mem (by simp [removeClaim_map_claimant])
  · rw [if_neg hm]
    cases hf : l.find? fun e => decide (e.claimant = n) with
    | none => rw [removeClaim_of_none hf]
    | some x =>
      rw [removeClaim_of_some hf, awaitsIn_closeRank]
      clear hf
      induction l with
      | nil => rfl
      | cons e l ih =>
        by_cases he : e.claimant = n
        · rw [List.filter_cons_of_neg (by simp [he]), ih, awaitsIn_cons, if_neg (he ▸ Ne.symm hm)]
        · rw [List.filter_cons_of_pos (by simp [he]), awaitsIn_cons, ih, awaitsIn_cons]

theorem removeClaim_eq_nil {n : Nat} {l : List Claim} (h : l = []) : removeClaim n l = [] := by
  subst h; rfl

theorem HoldTables.removeClaim {f : Nat → Nat} {l : List Claim} (h : HoldTables f l) (n : Nat) :
    HoldTables f (removeClaim n l) := by
  obtain ⟨hn, hr, hh⟩ := h
  refine ⟨?_, fun e he => ?_, fun m => ?_⟩
  · rw [removeClaim_map_claimant]; exact hn.filter _
  · obtain ⟨e', hm, -, hre⟩ := mem_removeClaim he
    exact hre ▸ hr e' hm
  · have := hh m
    rw [awaitsIn_removeClaim]
    split <;> omega

/-! ### The list's order (R5, R7) -/

theorem insertClaim_perm (u : Nat → Nat) (e : Claim) (l : List Claim) : (insertClaim u e l).Perm (e :: l) := by
  induction l with
  | nil => exact List.Perm.refl _
  | cons x l ih =>
    unfold insertClaim
    split
    · exact List.Perm.refl _
    · exact (ih.cons x).trans (List.Perm.swap e x l)

theorem orderClaims_perm (u : Nat → Nat) (l : List Claim) : (orderClaims u l).Perm l := by
  induction l with
  | nil => exact List.Perm.refl _
  | cons e l ih => exact (insertClaim_perm u e _).trans (ih.cons e)

/-! ### Taking FREE shares (R11) -/

theorem takeFree_zero (n : Nat) (sh : List Share) : takeFree n 0 sh = (sh, 0) := by
  cases sh <;> rfl

theorem takeFree_free_cons (n k : Nat) (sh : List Share) :
    takeFree n (k + 1) (.free :: sh) = (.held n :: (takeFree n k sh).1, (takeFree n k sh).2) := rfl

theorem takeFree_cons_of_ne {x : Share} (hx : x ≠ .free) (n k : Nat) (sh : List Share) :
    takeFree n k (x :: sh) = (x :: (takeFree n k sh).1, (takeFree n k sh).2) := by
  cases k with
  | zero => simp [takeFree_zero]
  | succ k => cases x with
    | free => exact absurd rfl hx
    | _ => rfl

@[simp] theorem takeFree_length (n k : Nat) (sh : List Share) : (takeFree n k sh).1.length = sh.length := by
  induction sh generalizing k with
  | nil => cases k <;> rfl
  | cons x sh ih =>
    by_cases hx : x = .free
    · subst hx
      cases k with
      | zero => simp [takeFree_zero]
      | succ k => simp [takeFree_free_cons, ih]
    · simp [takeFree_cons_of_ne hx, ih]

/-- The FREE shares taken are the first k of them, in ascending index. -/
theorem takeFree_getElem? (n k : Nat) (sh : List Share) : ∀ (i : Nat) (x : Share), sh[i]? = some x →
    (takeFree n k sh).1[i]? =
      some (if x = .free ∧ (sh.take i).count Share.free < k then Share.held n else x) := by
  induction sh generalizing k with
  | nil => simp
  | cons y sh ih =>
    intro i x hi
    by_cases hy : y = .free
    · subst hy
      cases k with
      | zero => simpa [takeFree_zero] using hi
      | succ k =>
        rw [takeFree_free_cons]
        cases i with
        | zero => simp at hi; simp [← hi]
        | succ i => simpa using ih k i x hi
    · rw [takeFree_cons_of_ne hy]
      cases i with
      | zero => simp at hi; subst hi; simp [hy]
      | succ i => simpa [hy] using ih k i x hi

/-- What is wanting is what the FREE shares do not cover. -/
theorem takeFree_wanting (n k : Nat) (sh : List Share) : (takeFree n k sh).2 = k - sh.count Share.free := by
  induction sh generalizing k with
  | nil => cases k <;> rfl
  | cons y sh ih =>
    by_cases hy : y = .free
    · subst hy
      cases k with
      | zero => simp [takeFree_zero]
      | succ k => simp [takeFree_free_cons, ih]
    · simp [takeFree_cons_of_ne hy, ih, hy]

/-- The shares taken and those wanting make up the count. -/
theorem takeFree_count_held (n k : Nat) (sh : List Share) (m : Nat) :
    (takeFree n k sh).1.count (.held m) + (if m = n then (takeFree n k sh).2 else 0) =
      sh.count (.held m) + if m = n then k else 0 := by
  induction sh generalizing k with
  | nil => cases k <;> rfl
  | cons y sh ih =>
    by_cases hy : y = .free
    · subst hy
      cases k with
      | zero => simp [takeFree_zero]
      | succ k =>
        have := ih k
        rw [takeFree_free_cons]
        by_cases hm : m = n
        · subst hm
          simp only [if_true, List.count_cons_self] at this ⊢
          simp
          omega
        · simpa [hm, Ne.symm hm] using this
    · rw [takeFree_cons_of_ne hy]
      have := ih k
      simp only [List.count_cons]
      omega

/-- While a count is wanting, no FREE share is left. -/
theorem takeFree_no_free {n k : Nat} {sh : List Share} (h : (takeFree n k sh).2 ≠ 0) :
    Share.free ∉ (takeFree n k sh).1 := by
  rw [takeFree_wanting] at h
  intro hm
  obtain ⟨i, hi⟩ := List.getElem?_of_mem hm
  have hlt : i < sh.length := by simpa using (List.getElem?_eq_some_iff.mp hi).1
  have hx := takeFree_getElem? n k sh i sh[i] (by simp [hlt])
  rw [hi, Option.some.injEq] at hx
  have hc : (sh.take i).count Share.free ≤ sh.count .free := (List.take_sublist i sh).count_le _
  split at hx
  · cases hx
  · next hn => exact hn ⟨hx.symm, by omega⟩

/-- A share that is neither FREE nor newly HELD by the claimant was there before. -/
theorem takeFree_cases {n k : Nat} {sh : List Share} {i : Nat} {y : Share} (h : (takeFree n k sh).1[i]? = some y) :
    sh[i]? = some y ∨ y = .held n := by
  have hlt : i < sh.length := by simpa using (List.getElem?_eq_some_iff.mp h).1
  have hx := takeFree_getElem? n k sh i sh[i] (by simp [hlt])
  rw [h, Option.some.injEq] at hx
  split at hx
  · exact .inr hx
  · exact .inl (by simp [hlt, hx])

/-! ### A new curtail level (R15) -/

/-- From table sh to table t's: the shares have followed the new curtail level q, and the allocation rule has run
exactly if a WITHHELD one became FREE (R15). -/
def Recurtailed (q : Nat) (sh : List Share) (cl : List Claim) (t : State) : Prop :=
  t.sa.curtail = some q ∧
    ∃ moved : List Share, moved.length = sh.length ∧
      (∀ (i : Nat) (x : Share), sh[i]? = some x → moved[i]? = some
        (if x = .free ∨ x = .withheld then (if i < q then Share.free else .withheld) else x)) ∧
      ((∃ i : Nat, sh[i]? = some .withheld ∧ i < q) →
        t.sa.shares = some (allocate moved cl).1 ∧ t.sa.claims = (allocate moved cl).2) ∧
      ((¬ ∃ i : Nat, sh[i]? = some .withheld ∧ i < q) → t.sa.shares = some moved ∧ t.sa.claims = cl)

theorem freesWithheld_iff {q : Nat} {sh : List Share} :
    freesWithheld q sh = true ↔ ∃ i : Nat, sh[i]? = some .withheld ∧ i < q := by
  simp only [freesWithheld, List.any_eq_true, List.mem_range, Bool.and_eq_true, decide_eq_true_eq]
  constructor
  · rintro ⟨i, hi, hp, hq⟩
    exact ⟨i, by simpa [hi] using hp, hq⟩
  · rintro ⟨i, hx, hq⟩
    obtain ⟨hi, hx⟩ := List.getElem?_eq_some_iff.mp hx
    exact ⟨i, hi, by simpa [hi] using hx, hq⟩

theorem takeCurtail_of_lt {s : State} {c : Image} {q : Nat} (h : c.pool < q) : s.takeCurtail c q = s := by
  unfold State.takeCurtail; rw [if_pos h]

theorem takeCurtail_of_void {s : State} (c : Image) (q : Nat) (h : s.sa.shares = none) : s.takeCurtail c q = s := by
  unfold State.takeCurtail
  split
  · rfl
  · rw [h]

theorem recurtailed_takeCurtail {s : State} {c : Image} {q : Nat} {sh : List Share} (hq : q ≤ c.pool)
    (hs : s.sa.shares = some sh) : Recurtailed q sh s.sa.claims (s.takeCurtail c q) := by
  have hmove : ∀ (i : Nat) (x : Share), sh[i]? = some x → (sh.mapIdx (curtailShare q))[i]? = some
      (if x = .free ∨ x = .withheld then (if i < q then Share.free else .withheld) else x) := by
    intro i x hx
    rw [List.getElem?_mapIdx, hx]
    cases x <;> simp [curtailShare]
  unfold State.takeCurtail
  rw [if_neg (Nat.not_lt.mpr hq), hs]
  dsimp only
  by_cases hf : freesWithheld q sh = true
  · rw [if_pos hf]
    exact ⟨rfl, _, by simp, hmove, fun _ => ⟨rfl, rfl⟩, fun h => absurd (freesWithheld_iff.mp hf) h⟩
  · rw [if_neg hf]
    exact ⟨rfl, _, by simp, hmove, fun h => absurd (freesWithheld_iff.mpr h) hf, fun _ => ⟨rfl, rfl⟩⟩

theorem Recurtailed.of_tables {q : Nat} {sh : List Share} {cl : List Claim} {t u : State}
    (h : Recurtailed q sh cl t) (e : u.tables = t.tables) : Recurtailed q sh cl u := by
  simp only [State.tables, Prod.mk.injEq] at e
  obtain ⟨es, eq, ec⟩ := e
  unfold Recurtailed at h ⊢
  rwa [es, eq, ec]

/-- A new curtail level keeps R4 and R9. -/
theorem Recurtailed.waiting {q : Nat} {sh : List Share} {cl : List Claim} {t : State} (h : Recurtailed q sh cl t)
    (hw : cl ≠ [] → Share.free ∉ sh) : WaitingRule t := by
  obtain ⟨hq, moved, hlen, hmove, hfree, hnone⟩ := h
  have hcase : ∀ (i : Nat) (y : Share), moved[i]? = some y → ∃ x, sh[i]? = some x ∧
      y = if x = .free ∨ x = .withheld then (if i < q then Share.free else .withheld) else x := by
    intro i y hy
    have hi : i < sh.length := hlen ▸ (List.getElem?_eq_some_iff.mp hy).1
    have hx := hmove i sh[i] (by simp [hi])
    rw [hy, Option.some.injEq] at hx
    exact ⟨_, by simp [hi], hx⟩
  have hlev : ∀ q', some q = some q' →
      (∀ i : Nat, moved[i]? = some .withheld → q' ≤ i) ∧ ∀ i : Nat, moved[i]? = some .free → i < q' := by
    rintro _ ⟨rfl⟩
    refine ⟨fun i hi => ?_, fun i hi => ?_⟩ <;> obtain ⟨x, -, hx⟩ := hcase i _ hi
    · by_cases hm : x = .free ∨ x = .withheld
      · rw [if_pos hm] at hx; split at hx
        · cases hx
        · omega
      · rw [if_neg hm] at hx; exact absurd (.inr hx.symm) hm
    · by_cases hm : x = .free ∨ x = .withheld
      · rw [if_pos hm] at hx; split at hx
        · assumption
        · cases hx
      · rw [if_neg hm] at hx; exact absurd (.inl hx.symm) hm
  by_cases hex : ∃ i : Nat, sh[i]? = some .withheld ∧ i < q
  · obtain ⟨hs, hc⟩ := hfree hex
    rw [waitingRule_of_shares hs, hq, hc]
    exact waitingTables_allocate cl hlev
  · obtain ⟨hs, hc⟩ := hnone hex
    rw [waitingRule_of_shares hs, hq, hc]
    refine ⟨fun hcl hm => ?_, hlev⟩
    obtain ⟨i, hi⟩ := List.getElem?_of_mem hm
    obtain ⟨x, hx, hy⟩ := hcase i _ hi
    rcases Classical.em (x = .free) with rfl | hnf
    · exact hw hcl (List.mem_of_getElem? hx)
    · by_cases hwh : x = .withheld
      · exact hex ⟨i, hwh ▸ hx, (hlev q rfl).2 i hi⟩
      · rw [if_neg (by tauto)] at hy; exact hnf hy.symm

/-- A new curtail level moves no HELD share but by the allocation rule, so R11's limit is kept. -/
theorem Recurtailed.hold {q : Nat} {sh : List Share} {cl : List Claim} {t : State} (h : Recurtailed q sh cl t)
    (hh : HoldTables (fun n => sh.count (.held n)) cl) : HoldRule t := by
  obtain ⟨hq, moved, hlen, hmove, hfree, hnone⟩ := h
  have hmoved : HoldTables (fun n => moved.count (.held n)) cl := hh.mono fun n =>
    count_le_of_getElem? fun i hi => by
      have hlt : i < sh.length := hlen ▸ (List.getElem?_eq_some_iff.mp hi).1
      have hx := hmove i sh[i] (by simp [hlt])
      rw [hi, Option.some.injEq] at hx
      split at hx
      · split at hx <;> cases hx
      · simp [hlt, hx]
  by_cases hex : ∃ i : Nat, sh[i]? = some .withheld ∧ i < q
  · obtain ⟨hs, hc⟩ := hfree hex
    rw [holdRule_of_shares hs, hc]
    exact (HoldTables.allocate moved cl (fun _ => 0) (by simpa using hmoved)).mono fun n => by simp
  · obtain ⟨hs, hc⟩ := hnone hex
    rwa [holdRule_of_shares hs, hc]

end Sys2Proof.Machine

namespace Sys2Proof.Machine

open Sys2Proof

/-! ## Rules about the tables, through every command but a TABLE -/

/-- A rule about the shared tables that every operation on them keeps. -/
structure TableRule (P : State → Prop) : Prop where
  /-- It reads the tables alone. -/
  congr : ∀ {s t : State}, P s → t.tables = s.tables → P t
  /-- It holds of void tables (R2, R23). -/
  void : ∀ s : State, s.sa.shares = none → s.sa.claims = [] → P s
  /-- It holds of the founder's tables (R21). -/
  founded : ∀ (s : State) (c : Image), P (s.foundShares c)
  returned : ∀ (s : State) (p : Nat → Share → Bool), P s → P (s.returnWhere p)
  dropped : ∀ (s : State) (n : Nat), P s → P (s.dropClaim n)
  reordered : ∀ s : State, P s → P s.reorderClaims
  claimed : ∀ (s : State) (n count : Nat), 1 ≤ count → (s.holdings n).length + count ≤ 8 → P s →
    P (s.claimShares n count)
  curtailed : ∀ (s : State) (c : Image) (q : Nat), P s → P (s.takeCurtail c q)
  stranded : ∀ (s : State) (n : Nat), P s → P (s.strand n)

theorem waitingRule_congr {s t : State} (hs : WaitingRule s) (h : t.tables = s.tables) : WaitingRule t := by
  simp only [State.tables, Prod.mk.injEq] at h
  obtain ⟨es, eq, ec⟩ := h
  unfold WaitingRule at hs ⊢
  rwa [es, eq, ec]

theorem holdRule_congr {s t : State} (hs : HoldRule s) (h : t.tables = s.tables) : HoldRule t := by
  simp only [State.tables, Prod.mk.injEq] at h
  obtain ⟨es, eq, ec⟩ := h
  unfold HoldRule State.holdings State.awaits State.claimOf at hs ⊢
  rwa [es, ec]

/-! ### R4 and R9 -/

theorem WaitingRule.tables {s : State} (h : WaitingRule s) {sh : List Share} (hs : s.sa.shares = some sh) :
    WaitingTables sh s.sa.curtail s.sa.claims := h sh hs

/-- What is FREE or WITHHELD afterwards was so before, so the rule is kept if the list has not begun to wait. -/
theorem WaitingTables.mono {sh sh' : List Share} {q : Option Nat} {cl cl' : List Claim} (h : WaitingTables sh q cl)
    (hw : ∀ i : Nat, sh'[i]? = some .withheld → sh[i]? = some .withheld)
    (hf : ∀ i : Nat, sh'[i]? = some .free → sh[i]? = some .free) (hc : cl' ≠ [] → cl ≠ [] ∨ Share.free ∉ sh') :
    WaitingTables sh' q cl' := by
  refine ⟨fun hn hm => ?_, fun q' hq => ⟨fun i hi => (h.2 q' hq).1 i (hw i hi), fun i hi => (h.2 q' hq).2 i (hf i hi)⟩⟩
  rcases hc hn with hn | hn
  · obtain ⟨i, hi⟩ := List.getElem?_of_mem hm
    exact h.1 hn (List.mem_of_getElem? (hf i hi))
  · exact hn hm

theorem waitingRule_claimShares (s : State) (n count : Nat) (hs : WaitingRule s) : WaitingRule (s.claimShares n count) := by
  unfold State.claimShares
  split
  · intro sh hsh
    refine (hs.tables hsh).mono (fun _ h => h) (fun _ h => h) fun hne => .inl fun h => hne ?_
    simp [setRemaining, h]
  · split
    · exact hs
    · next sh hsh =>
      have key : ∀ cl', (cl' ≠ [] → s.sa.claims ≠ [] ∨ (takeFree n count sh).2 ≠ 0) →
          WaitingTables (takeFree n count sh).1 s.sa.curtail cl' := fun cl' hcl =>
        (hs.tables hsh).mono (fun i hi => by simpa using takeFree_cases hi) (fun i hi => by simpa using takeFree_cases hi)
          fun hn => (hcl hn).imp_right takeFree_no_free
      dsimp only
      split
      · exact (waitingRule_of_shares rfl).mpr (key _ .inl)
      · next hr => exact (waitingRule_of_shares rfl).mpr (key _ fun _ => .inr hr)

theorem waitingRule_strand (s : State) (n : Nat) (hs : WaitingRule s) : WaitingRule (s.strand n) := by
  intro sh' hsh'
  obtain ⟨sh, hsh, rfl⟩ := Option.map_eq_some_iff.mp
    (show s.sa.shares.map (fun sh => sh.map fun x => if x = .held n then Share.stranded n else x) = some sh' from hsh')
  have hback : ∀ (i : Nat) (y : Share), y ≠ .stranded n →
      (sh.map fun x => if x = .held n then Share.stranded n else x)[i]? = some y → sh[i]? = some y := by
    intro i y hy h
    simp only [List.getElem?_map, Option.map_eq_some_iff] at h
    obtain ⟨x, hx, h⟩ := h
    split at h
    · exact absurd h.symm hy
    · rw [← h, hx]
  refine (hs.tables hsh).mono (fun i => hback i _ (by simp)) (fun i => hback i _ (by simp)) fun hne => .inl fun h => hne ?_
  exact removeClaim_eq_nil h

/-- R4 and R9 are rules about the tables that every operation on them keeps. -/
theorem waitingRule_tableRule : TableRule WaitingRule where
  congr := waitingRule_congr
  void s hs _ := fun sh h => by rw [hs] at h; cases h
  founded s c := (waitingRule_of_shares rfl).mpr ⟨fun h => absurd rfl h, fun q' hq => by
    obtain rfl : c.pool = q' := Option.some.inj hq
    refine ⟨fun i hi => ?_, fun i hi => ?_⟩
    · simp [List.getElem?_replicate] at hi
    · simp [List.getElem?_replicate] at hi; exact hi⟩
  returned s p hs := by
    cases hsh : s.sa.shares with
    | none => rwa [returnWhere_of_void (.inl hsh)]
    | some sh =>
      cases hq : s.sa.curtail with
      | none => rwa [returnWhere_of_void (.inr hq)]
      | some q => exact (redistributed_returnWhere hsh hq p).waiting (hq ▸ hs.tables hsh)
  dropped s n hs := fun sh hsh => (hs.tables hsh).mono (fun _ h => h) (fun _ h => h) fun hne => .inl fun h =>
    hne (removeClaim_eq_nil h)
  reordered s hs := fun sh hsh => (hs.tables hsh).mono (fun _ h => h) (fun _ h => h) fun hne => .inl fun h => hne (by
    show orderClaims _ s.sa.claims = []
    rw [h]; rfl)
  claimed s n count _ _ hs := waitingRule_claimShares s n count hs
  curtailed s c q hs := by
    by_cases hq : c.pool < q
    · rwa [takeCurtail_of_lt hq]
    · cases hsh : s.sa.shares with
      | none => rwa [takeCurtail_of_void c q hsh]
      | some sh => exact (recurtailed_takeCurtail (Nat.not_lt.mp hq) hsh).waiting (hs sh hsh).1
  stranded := waitingRule_strand

/-! ### R5, R10 and R11 -/

/-- Where the share table is void, no station holds a share. -/
theorem holdings_of_void {s : State} (h : s.sa.shares = none) (n : Nat) : s.holdings n = [] := by
  unfold State.holdings; rw [h]

theorem hasClaim_iff {s : State} {n : Nat} : s.hasClaim n = true ↔ n ∈ s.sa.claims.map Claim.claimant := by
  unfold State.hasClaim State.claimOf
  rw [List.find?_isSome]
  simp [eq_comm]

theorem setRemaining_map_claimant (n count : Nat) (l : List Claim) :
    (setRemaining n count l).map Claim.claimant = l.map Claim.claimant := by
  simp only [setRemaining, List.map_map]
  exact List.map_congr_left fun e _ => by simp only [Function.comp]; split <;> rfl

theorem awaitsIn_setRemaining (n count : Nat) (l : List Claim) (m : Nat) :
    awaitsIn (setRemaining n count l) m = if m = n ∧ n ∈ l.map Claim.claimant then count else awaitsIn l m := by
  induction l with
  | nil => simp [setRemaining]
  | cons e l ih =>
    have hcons : setRemaining n count (e :: l) =
        (if e.claimant = n then { e with remaining := count } else e) :: setRemaining n count l := rfl
    rw [hcons, awaitsIn_cons, awaitsIn_cons, ih]
    by_cases he : e.claimant = n
    · by_cases hm : m = n
      · simp [he, hm]
      · simp [he, hm, Ne.symm hm]
    · by_cases hm : m = n
      · simp [he, hm, Ne.symm he]
      · simp [he, hm]

theorem mem_setRemaining {n count : Nat} {l : List Claim} {e : Claim} (h : e ∈ setRemaining n count l) :
    e.remaining = count ∨ e ∈ l := by
  obtain ⟨x, hx, rfl⟩ := List.mem_map.mp h
  split
  · exact .inl rfl
  · exact .inr hx

/-- A second CLAIM sets the count of the entry there is (R11). -/
theorem HoldTables.setRemaining {f : Nat → Nat} {l : List Claim} (h : HoldTables f l) {n count : Nat} (h1 : 1 ≤ count)
    (h8 : f n + count ≤ 8) : HoldTables f (setRemaining n count l) := by
  obtain ⟨hn, hr, hh⟩ := h
  refine ⟨by rwa [setRemaining_map_claimant], fun e he => ?_, fun m => ?_⟩
  · rcases mem_setRemaining he with he | he
    · omega
    · exact hr e he
  · rw [awaitsIn_setRemaining]
    split
    · next hm => rw [hm.1]; exact h8
    · exact hh m

/-- A new entry for a station that has none (R11). -/
theorem HoldTables.cons {f : Nat → Nat} {l : List Claim} (h : HoldTables f l) {e : Claim}
    (hn : e.claimant ∉ l.map Claim.claimant) (h1 : 1 ≤ e.remaining) (h8 : f e.claimant + e.remaining ≤ 8) :
    HoldTables f (e :: l) := by
  obtain ⟨hd, hr, hh⟩ := h
  refine ⟨List.nodup_cons.mpr ⟨hn, hd⟩, fun x hx => ?_, fun m => ?_⟩
  · rcases List.mem_cons.mp hx with rfl | hx
    · exact h1
    · exact hr x hx
  · rw [awaitsIn_cons]
    split
    · next hm => exact hm ▸ h8
    · exact hh m

theorem holdRule_claimShares (s : State) (n count : Nat) (h1 : 1 ≤ count) (h8 : (s.holdings n).length + count ≤ 8)
    (hs : HoldRule s) : HoldRule (s.claimShares n count) := by
  unfold State.claimShares
  split
  · exact ((holdRule_iff s).mp hs).setRemaining h1 h8
  · next hc =>
    rw [hasClaim_iff] at hc
    split
    · exact hs
    · next sh hsh =>
      rw [holdings_of_shares hsh, heldBy_length] at h8
      have hold := (holdRule_of_shares hsh).mp hs
      have hcount := takeFree_count_held n count sh
      have hzero := awaitsIn_of_not_mem hc
      have hbound : ∀ m, (takeFree n count sh).1.count (.held m) + (if m = n then (takeFree n count sh).2 else 0) +
          awaitsIn s.sa.claims m ≤ 8 := by
        intro m
        rw [hcount m]
        have := hold.2.2 m
        by_cases hm : m = n
        · subst hm; simp only [if_true, hzero]; omega
        · simpa [hm] using this
      have hrest : HoldTables (fun m => (takeFree n count sh).1.count (.held m)) s.sa.claims :=
        ⟨hold.1, hold.2.1, fun m => by have := hbound m; simp only; omega⟩
      dsimp only
      split
      · exact (holdRule_of_shares rfl).mpr hrest
      · next hr =>
        refine (holdRule_of_shares rfl).mpr ((hrest.cons (e := ⟨n, (takeFree n count sh).2, s.sa.claims.length + 1⟩) hc
          (by simp only; omega) ?_).perm (insertClaim_perm ..).symm)
        have := hbound n
        simp only [if_true] at this
        simp only
        omega

theorem holdRule_strand (s : State) (n : Nat) (hs : HoldRule s) : HoldRule (s.strand n) := by
  cases hsh : s.sa.shares with
  | none =>
    have hv : (s.strand n).sa.shares = none := by simp [State.strand, State.dropClaim, hsh]
    refine (holdRule_iff _).mpr (((holdRule_iff s).mp hs).removeClaim n |>.mono fun m => ?_)
    rw [holdings_of_void hv]
    exact Nat.zero_le _
  | some sh =>
    have hv : (s.strand n).sa.shares = some (sh.map fun x => if x = .held n then Share.stranded n else x) := by
      simp [State.strand, State.dropClaim, hsh]
    refine (holdRule_of_shares hv).mpr ((((holdRule_of_shares hsh).mp hs).removeClaim n).mono fun m => ?_)
    refine count_le_of_getElem? fun i hi => ?_
    obtain ⟨x, hx, he⟩ := Option.map_eq_some_iff.mp (by simpa using hi)
    split at he
    · cases he
    · rw [hx, he]

/-- R5, R10 and R11 are rules about the tables that every operation on them keeps. -/
theorem holdRule_tableRule : TableRule HoldRule where
  congr := holdRule_congr
  void s hs hc := (holdRule_iff s).mpr (by simp [HoldTables, hc, holdings_of_void hs])
  founded s c := (holdRule_of_shares rfl).mpr ⟨List.nodup_nil, by simp [State.foundShares],
    fun n => by simp [State.foundShares, List.count_replicate]⟩
  returned s p hs := by
    cases hsh : s.sa.shares with
    | none => rwa [returnWhere_of_void (.inl hsh)]
    | some sh =>
      cases hq : s.sa.curtail with
      | none => rwa [returnWhere_of_void (.inr hq)]
      | some q => exact (redistributed_returnWhere hsh hq p).hold ((holdRule_of_shares hsh).mp hs)
  dropped s n hs := ((holdRule_iff s).mp hs).removeClaim n
  reordered s hs := ((holdRule_iff s).mp hs).perm (orderClaims_perm _ _).symm
  claimed := holdRule_claimShares
  curtailed s c q hs := by
    by_cases hq : c.pool < q
    · rwa [takeCurtail_of_lt hq]
    · cases hsh : s.sa.shares with
      | none => rwa [takeCurtail_of_void c q hsh]
      | some sh => exact (recurtailed_takeCurtail (Nat.not_lt.mp hq) hsh).hold ((holdRule_of_shares hsh).mp hs)
  stranded := holdRule_strand

end Sys2Proof.Machine

namespace Sys2Proof.Machine

open Sys2Proof

namespace TableRule

variable {P : State → Prop}

/-- A move under a guard keeps what the move keeps. -/
theorem guarded {s t : State} {b : Bool} (ht : P t) (hs : P s) : P (if b then t else s) := by
  split
  · exact ht
  · exact hs

variable (k : TableRule P)
include k

theorem mapEntry {s : State} (n : Nat) (f : RosterEntry → RosterEntry) (h : P s) : P (s.mapEntry n f) :=
  k.congr h (by simp)

theorem setUrgency {s : State} (n u : Nat) (h : P s) : P (s.setUrgency n u) := k.reordered _ (k.mapEntry _ _ h)

theorem takeClaim {s : State} (n u field : Nat) (h : P s) : P (s.takeClaim n u field) := by
  have h1 := k.setUrgency n u h
  unfold State.takeClaim
  dsimp only
  split
  · exact h1
  · exact k.claimed _ _ _ (by omega) (by unfold State.clippedCount holdLimit at *; omega) h1

/-! ### Tables given up (R23) -/

theorem voidShares (s : State) : P s.voidShares := k.void _ rfl rfl

theorem leaveTables (s : State) : P s.leaveTables := k.void _ rfl rfl

theorem enterIsolated (s : State) (c : Image) : P (s.enterIsolated c) := by
  refine k.congr (k.leaveTables s) ?_
  unfold State.enterIsolated; simp

theorem enterFallback (s : State) (c : Image) : P (s.enterFallback c) := by
  refine k.congr (k.leaveTables (s.latch c .lineLost)) ?_
  unfold State.enterFallback; simp

theorem takeRestart (s : State) (c : Image) : P (s.takeRestart c) := by
  refine k.congr (k.leaveTables s) ?_
  unfold State.takeRestart; simp

theorem spoilJoin (s : State) (c : Image) : P (s.spoilJoin c) := by
  refine k.congr (k.voidShares s) ?_
  unfold State.spoilJoin State.discardLoad; simp

theorem failJoin (s : State) (c : Image) : P (s.failJoin c) := by
  have h : P (s.latch c .joinFailed).discardLoad := k.void _ rfl rfl
  unfold State.failJoin
  dsimp only
  split
  · exact k.enterIsolated _ c
  · exact k.congr h (by simp)

theorem isolateFor (s : State) (c : Image) (f : Flag) : P (s.isolateFor c f) := k.enterIsolated _ c

theorem lineFault {s : State} (c : Image) (h : P s) : P (s.lineFault c) := by
  have hl : P (s.latch c .sendFailed) := k.congr h (by simp)
  unfold State.lineFault
  dsimp only
  split
  case h_5 => exact k.congr hl (by simp)
  case h_6 => exact hl
  all_goals exact k.enterFallback _ c

theorem abortOwn {s : State} (c : Image) (h : P s) : P (s.abortOwn c) := by
  unfold State.abortOwn
  dsimp only
  split
  · split
    · exact k.lineFault c (k.congr h (by simp))
    · exact k.congr h (by simp)
  · exact k.congr h (by simp)

theorem judgeJoin {s : State} (c : Image) (h : P s) : P (s.judgeJoin c) := by
  unfold State.judgeJoin
  split
  · exact k.failJoin s c
  · split
    · exact k.congr h (by simp)
    · split
      · exact k.congr (k.founded s c) (by unfold State.found; simp)
      · exact k.congr h (by simp)

theorem spoil {s : State} (c : Image) (h : P s) : P (s.spoil c) := by
  unfold State.spoil
  split
  · exact k.congr h (by simp)
  · exact k.spoilJoin s c
  · exact k.spoilJoin s c
  · exact h

/-! ### Accepted frames -/

theorem takeAbsent {s : State} (c : Image) (named : List Nat) (h : P s) : P (s.takeAbsent c named) := by
  have hfold : ∀ (l : List Nat) (t : State), P t → P (l.foldl (fun t n => t.declareAbsent c n) t) := by
    intro l
    induction l with
    | nil => exact fun _ ht => ht
    | cons n l ih => exact fun t ht => ih _ (k.stranded _ n (k.mapEntry n _ ht))
  unfold State.takeAbsent
  dsimp only
  split
  · exact k.enterFallback _ c
  · exact k.congr (hfold (named.filter s.isLinked) s h) (by simp)

theorem reclaimShares {s : State} (l : List Nat) (h : P s) : P (s.reclaimShares l) := k.returned s _ h

theorem takeReclaim {s : State} (named : List Nat) (h : P s) : P (s.takeReclaim named) := by
  unfold State.takeReclaim
  dsimp only
  refine k.congr (k.reclaimShares (named.filter fun n => decide (s.entryState n = .absent)) h) ?_
  rw [pruneSlot_tables]
  exact foldl_keeps State.tables _ (fun t n => by simp) _ _

theorem takeCurtailFrame {s : State} (c : Image) (q : Nat) (h : P s) : P (s.takeCurtailFrame c q) := by
  unfold State.takeCurtailFrame
  split
  · exact k.congr (k.curtailed s c q h) (by simp)
  · exact h

theorem markJoiner {s : State} (c : Image) (n : Nat) (h : P s) : P (s.markJoiner c n) := by
  unfold State.markJoiner
  dsimp only
  have hr : P (if s.entryState n = .linked ∨ s.entryState n = .absent then s.rejoinShares n else s) := by
    split
    · exact k.returned _ _ (k.dropped s n h)
    · exact h
  exact k.congr hr (by simp)

theorem takeJoin {s : State} (c : Image) (a : Arrival) (n pool : Nat) (h : P s) : P (s.takeJoin c a n pool) := by
  unfold State.takeJoin
  split
  · exact k.isolateFor s c _
  · split
    · split <;> exact k.congr h (by simp)
    · split <;> exact k.congr h (by simp)
    · unfold State.joinAtLinked
      split
      · exact h
      · exact k.congr (k.markJoiner c n h) (by unfold State.beginLock; simp)
    · exact h

theorem takeStatus {s : State} (n u : Nat) (h : P s) : P (s.takeStatus n u) := by
  unfold State.takeStatus
  split
  · exact k.setUrgency n u h
  · exact h

theorem ownerDone {s : State} (c : Image) (a : Arrival) (f : Frame) (h : P s) : P (s.ownerDone c a f) := by
  have h1 : P (s.restartPresence c a) := k.congr h (by simp)
  unfold State.ownerDone
  dsimp only
  split
  · exact k.spoil c h1
  · exact h1

theorem lateWithdraw {s : State} (c : Image) (a : Arrival) (h : P s) : P (s.lateWithdraw c a) := k.congr h (by simp)

theorem reassert {s : State} (a : Arrival) (h : P s) : P (s.reassert a) := k.congr h (by simp)

theorem settleOutgoing {s : State} (a : Arrival) (set : List Nat) (h : P s) : P (s.settleOutgoing a set) :=
  k.congr h (by simp)

/-- What follows the owner of an accepted frame keeps the rule, so the frame keeps it if its owner does. -/
theorem acceptFrame {s : State} (c : Image) (f : Frame) {o : Arrival → State → State} (ho : ∀ a t, P t → P (o a t))
    (h : P s) : P (acceptFrame c f o s) := by
  unfold Machine.acceptFrame
  split
  · have hown := ho (s.arrival c f) (s.heardFrame c f) (k.congr h (by simp))
    exact k.congr (k.ownerDone c (s.arrival c f) f hown) (by simp)
  · exact k.congr h (by simp)

theorem onRunning {s : State} {g : Image → Bool} {b : Image → State} (hb : ∀ c, P (b c)) (h : P s) :
    P (s.onRunning g b) := by
  unfold State.onRunning
  split
  · exact h
  · split
    · next c _ _ => exact k.congr (hb c) (by simp)
    · exact h

theorem receive {s : State} (f : Frame) {o : Image → Arrival → State → State} (ho : ∀ c a t, P t → P (o c a t))
    (h : P s) : P (receive f o s) :=
  k.onRunning (fun c => k.acceptFrame c f (ho c) h) h

/-- A running station's command that leaves the tables keeps the rule. -/
theorem onRunning_tables {s : State} {g : Image → Bool} {b : Image → State} (hb : ∀ c, (b c).tables = s.tables)
    (h : P s) : P (s.onRunning g b) :=
  k.onRunning (fun c => k.congr h (hb c)) h

/-- A frame whose owner leaves the tables keeps the rule. -/
theorem receive_tables {s : State} (f : Frame) {o : Image → Arrival → State → State}
    (ho : ∀ c a t, (o c a t).tables = t.tables) (h : P s) : P (Machine.receive f o s) :=
  k.receive f (fun c a t ht => k.congr ht (ho c a t)) h

/-- Every command but a TABLE keeps a rule about the tables. -/
theorem exec {i : Instr} {s t : State} (hi : isTableCommand i = false) (h : P s) (he : exec i s = .next t) : P t := by
  cases i with
  | table => cases hi
  | powerOn => obtain rfl := Host.Outcome.next.inj he; exact k.void _ rfl rfl
  | supplyBelowThreshold => obtain rfl := Host.Outcome.next.inj he; exact k.void _ rfl rfl
  | resetLinePulse => obtain rfl := Host.Outcome.next.inj he; exact guarded (k.void _ rfl rfl) h
  | resetLineRelease => obtain rfl := Host.Outcome.next.inj he; exact guarded (k.congr h rfl) h
  | configReadAttempt read => obtain rfl := Host.Outcome.next.inj he; exact guarded (k.congr h (by simp)) h
  | configRetryWaitExpiry => obtain rfl := Host.Outcome.next.inj he; exact k.congr h rfl
  | stationSecondsTick => obtain rfl := Host.Outcome.next.inj he; exact guarded (k.congr h rfl) h
  | tideInputChange level =>
    obtain rfl := Host.Outcome.next.inj he
    exact k.onRunning_tables (fun c => by simp) (k.congr h rfl)
  | sensorReply reply =>
    unfold Machine.exec execSensorReply at he
    dsimp only at he
    split at he <;> obtain rfl := Host.Outcome.next.inj he
    · exact h
    · exact k.onRunning_tables (by simp) h
  | lineIdle =>
    obtain rfl := Host.Outcome.next.inj he
    split
    · exact h
    · exact k.congr h (by simp)
  | frameBreakOff =>
    obtain rfl := Host.Outcome.next.inj he
    refine k.onRunning (fun c => ?_) h
    split
    · exact k.abortOwn c (k.congr h (by simp))
    · exact k.congr h (by simp)
  | ownFrameAborted found =>
    obtain rfl := Host.Outcome.next.inj he
    exact k.onRunning (fun c => k.abortOwn c (k.congr h (by simp))) h
  | absent b =>
    obtain rfl := Host.Outcome.next.inj he
    exact k.receive _ (fun c a t ht => guarded (k.takeAbsent c _ ht) ht) h
  | reclaim b =>
    obtain rfl := Host.Outcome.next.inj he
    exact k.receive _ (fun c a t ht => guarded (k.takeReclaim _ ht) ht) h
  | curtail b =>
    obtain rfl := Host.Outcome.next.inj he
    exact k.receive _ (fun c a t ht => guarded (k.takeCurtailFrame c _ ht) ht) h
  | yield b =>
    obtain rfl := Host.Outcome.next.inj he
    refine k.receive _ (fun c a t ht => guarded ?_ ht) h
    have h1 := k.settleOutgoing a [numAt b.payload 0] ht
    exact guarded (k.returned _ _ h1) h1
  | release b =>
    obtain rfl := Host.Outcome.next.inj he
    refine k.receive _ (fun c a t ht => guarded ?_ ht) h
    have h1 := k.settleOutgoing a (sharesOf b.payload) ht
    exact guarded (k.returned _ _ h1) h1
  | withdraw b =>
    obtain rfl := Host.Outcome.next.inj he
    exact k.receive _ (fun c a t ht => guarded (k.dropped _ _ ht) ht) h
  | claim sub b =>
    obtain rfl := Host.Outcome.next.inj he
    exact k.receive _ (fun c a t ht => k.lateWithdraw c a (guarded (k.takeClaim _ _ _ ht) ht)) h
  | join b =>
    obtain rfl := Host.Outcome.next.inj he
    exact k.receive _ (fun c a t ht => guarded (k.takeJoin c a _ _ ht) ht) h
  | status b =>
    obtain rfl := Host.Outcome.next.inj he
    exact k.receive _ (fun c a t ht => guarded (k.reassert a (k.takeStatus _ _ ht)) ht) h
  | query b =>
    obtain rfl := Host.Outcome.next.inj he
    refine k.onRunning (fun c => guarded (k.congr h (by simp)) ?_) h
    exact k.acceptFrame c _ (fun a t ht => k.congr ht (by simp)) h
  | restart b =>
    obtain rfl := Host.Outcome.next.inj he
    exact k.receive _ (fun c a t ht => guarded (k.takeRestart t c) ht) h
  | joinWaitExpiry =>
    obtain rfl := Host.Outcome.next.inj he
    refine k.onRunning (fun c => ?_) h
    split
    · exact k.judgeJoin c (k.congr h (by simp))
    · exact k.congr h (by simp)
  | loadTimerExpiry =>
    obtain rfl := Host.Outcome.next.inj he
    refine k.onRunning (fun c => ?_) h
    split
    · exact k.failJoin _ c
    · exact k.congr h (by simp)
  | silenceTimerExpiry =>
    obtain rfl := Host.Outcome.next.inj he
    exact k.onRunning (fun c => k.enterFallback s c) h
  | minuteBoundary => obtain rfl := Host.Outcome.next.inj he; exact k.onRunning_tables (by simp) h
  | rainPulse time => obtain rfl := Host.Outcome.next.inj he; exact k.onRunning_tables (by simp) h
  | tideStateChange => obtain rfl := Host.Outcome.next.inj he; exact k.onRunning_tables (by simp) h
  | sampleTimerExpiry =>
    obtain rfl := Host.Outcome.next.inj he
    exact k.onRunning_tables (by simp [apply_ite State.tables]) h
  | replyWindowClose => obtain rfl := Host.Outcome.next.inj he; exact k.onRunning_tables (by simp) h
  | mergeTimerExpiry => obtain rfl := Host.Outcome.next.inj he; exact k.onRunning_tables (by simp) h
  | lostArbitration => obtain rfl := Host.Outcome.next.inj he; exact k.onRunning_tables (by simp) h
  | frameAbortedOrBusy rx => obtain rfl := Host.Outcome.next.inj he; exact k.onRunning_tables (by simp) h
  | ownFrameBusy => obtain rfl := Host.Outcome.next.inj he; exact k.onRunning_tables (by simp) h
  | busyBackoffExpiry slot => obtain rfl := Host.Outcome.next.inj he; exact k.onRunning_tables (by simp) h
  | claimSpacingExpiry => obtain rfl := Host.Outcome.next.inj he; exact k.onRunning_tables (by simp) h
  | listenTimerExpiry => obtain rfl := Host.Outcome.next.inj he; exact k.onRunning_tables (by simp) h
  | restartHoldExpiry => obtain rfl := Host.Outcome.next.inj he; exact k.onRunning_tables (by simp) h
  | burstHoldExpiry => obtain rfl := Host.Outcome.next.inj he; exact k.onRunning_tables (by simp) h
  | lockTimerExpiry => obtain rfl := Host.Outcome.next.inj he; exact k.onRunning_tables (by simp) h
  | lastHeardExpiry station => obtain rfl := Host.Outcome.next.inj he; exact k.onRunning_tables (by simp) h
  | strandingTimerExpiry station => obtain rfl := Host.Outcome.next.inj he; exact k.onRunning_tables (by simp) h
  | quietTimerExpiry => obtain rfl := Host.Outcome.next.inj he; exact k.onRunning_tables (by simp) h
  | presenceTimerExpiry => obtain rfl := Host.Outcome.next.inj he; exact k.onRunning_tables (by simp) h
  | refreshTimerExpiry => obtain rfl := Host.Outcome.next.inj he; exact k.onRunning_tables (by simp) h
  | alertAgeExpiry zone =>
    obtain rfl := Host.Outcome.next.inj he
    exact k.onRunning_tables (by simp [apply_ite State.tables]) h
  | stepWindowExpiry => obtain rfl := Host.Outcome.next.inj he; exact k.onRunning_tables (by simp) h
  | calmTimerExpiry => obtain rfl := Host.Outcome.next.inj he; exact k.onRunning_tables (by simp) h
  | parkTimerExpiry => obtain rfl := Host.Outcome.next.inj he; exact k.onRunning_tables (by simp) h
  | dormancyDelayExpiry => obtain rfl := Host.Outcome.next.inj he; exact k.onRunning_tables (by simp) h
  | wakeRecoveryExpiry => obtain rfl := Host.Outcome.next.inj he; exact k.onRunning_tables (by simp) h
  | alert sub b =>
    obtain rfl := Host.Outcome.next.inj he
    exact k.receive_tables _ (by simp [apply_ite State.tables]) h
  | dormant b => obtain rfl := Host.Outcome.next.inj he; exact k.receive_tables _ (by simp) h
  | recack b =>
    obtain rfl := Host.Outcome.next.inj he
    exact k.receive_tables _ (by simp [apply_ite State.tables]) h
  | period b =>
    obtain rfl := Host.Outcome.next.inj he
    exact k.receive_tables _ (by simp [apply_ite State.tables]) h
  | clear b =>
    obtain rfl := Host.Outcome.next.inj he
    exact k.receive_tables _ (by simp [apply_ite State.tables]) h
  | record b => obtain rfl := Host.Outcome.next.inj he; exact k.receive_tables _ (fun _ _ _ => rfl) h
  | norec b => obtain rfl := Host.Outcome.next.inj he; exact k.receive_tables _ (fun _ _ _ => rfl) h
  | counts b => obtain rfl := Host.Outcome.next.inj he; exact k.receive_tables _ (fun _ _ _ => rfl) h
  | conditions b => obtain rfl := Host.Outcome.next.inj he; exact k.receive_tables _ (fun _ _ _ => rfl) h
  | notice b =>
    obtain rfl := Host.Outcome.next.inj he
    exact k.receive_tables _ (by simp [apply_ite State.tables]) h
  | unlistedSubKindFrame cls sub b => obtain rfl := Host.Outcome.next.inj he; exact k.receive_tables _ (fun _ _ _ => rfl) h

end TableRule

/-- Settles O9: R4 and R9 are a rule about the tables. -/
theorem waitingRuleKept : Obligations.WaitingRuleKept := fun _ _ _ hi hs he => waitingRule_tableRule.exec hi hs he

/-- Settles O10: R5, R10 and R11 are a rule about the tables. -/
theorem holdRuleKept : Obligations.HoldRuleKept := fun _ _ _ hi hs he => holdRule_tableRule.exec hi hs he

end Sys2Proof.Machine

namespace Sys2Proof.Machine

open Sys2Proof

/-! ## The yielder (R24) -/

/-- One station considered as yielder, in ascending number: among equals the later one is preferred. -/
def yieldStep (candidate : Nat → Bool) (u : Nat → Nat) (best : Option Nat) (n : Nat) : Option Nat :=
  if candidate n then
    match best with
    | none => some n
    | some b => if u n ≤ u b then some n else some b
  else best

theorem yielder_eq {s : State} {h : Claim} {rest : List Claim} (hc : s.sa.claims = h :: rest) :
    s.yielder =
      tankNumbers.foldl (yieldStep (s.isCandidate h.claimant (s.rosterUrgency h.claimant)) s.rosterUrgency) none := by
  unfold State.yielder; rw [hc]; rfl

/-- Station n is the candidate of lowest urgency, among equals of highest number, in a list of stations. -/
def IsYielder (candidate : Nat → Bool) (u : Nat → Nat) (l : List Nat) (n : Nat) : Prop :=
  n ∈ l ∧ candidate n = true ∧ ∀ m ∈ l, candidate m = true → u n < u m ∨ (u n = u m ∧ m ≤ n)

theorem IsYielder.unique {candidate : Nat → Bool} {u : Nat → Nat} {l : List Nat} {a b : Nat}
    (ha : IsYielder candidate u l a) (hb : IsYielder candidate u l b) : a = b := by
  have h1 := ha.2.2 b hb.1 hb.2.1
  have h2 := hb.2.2 a ha.1 ha.2.1
  omega

/-- What the fold over an ascending list of stations has found. -/
theorem yieldStep_foldl (candidate : Nat → Bool) (u : Nat → Nat) (l : List Nat) (hl : l.Pairwise (· < ·)) :
    (l.foldl (yieldStep candidate u) none = none → ∀ m ∈ l, candidate m = false) ∧
      ∀ b, l.foldl (yieldStep candidate u) none = some b → IsYielder candidate u l b := by
  induction l using List.reverseRecOn with
  | nil => simp
  | append_singleton l x ih =>
    obtain ⟨hl, -, hx⟩ := List.pairwise_append.mp hl
    have hx : ∀ m ∈ l, m < x := fun m hm => hx m hm x List.mem_cons_self
    obtain ⟨ihn, ihs⟩ := ih hl
    rw [List.foldl_append, List.foldl_cons, List.foldl_nil]
    generalize l.foldl (yieldStep candidate u) none = best at ihn ihs
    have hmem : ∀ m, m ∈ l ++ [x] ↔ m ∈ l ∨ m = x := by simp
    unfold yieldStep IsYielder
    simp only [hmem]
    by_cases hc : candidate x = true
    · rw [if_pos hc]
      cases best with
      | none =>
        refine ⟨by simp, ?_⟩
        rintro b ⟨rfl⟩
        refine ⟨.inr rfl, hc, ?_⟩
        rintro m (hm | rfl) hcm
        · simp [ihn rfl m hm] at hcm
        · exact .inr ⟨rfl, Nat.le_refl _⟩
      | some y =>
        obtain ⟨hyl, hyc, hy⟩ := ihs y rfl
        dsimp only
        by_cases hu : u x ≤ u y
        · rw [if_pos hu]
          refine ⟨by simp, ?_⟩
          rintro b ⟨rfl⟩
          refine ⟨.inr rfl, hc, ?_⟩
          rintro m (hm | rfl) hcm
          · have := hy m hm hcm
            have := hx m hm
            omega
          · exact .inr ⟨rfl, Nat.le_refl _⟩
        · rw [if_neg hu]
          refine ⟨by simp, ?_⟩
          rintro b ⟨rfl⟩
          refine ⟨.inl hyl, hyc, ?_⟩
          rintro m (hm | rfl) hcm
          · exact hy m hm hcm
          · omega
    · rw [if_neg hc]
      refine ⟨?_, fun b hb => ?_⟩
      · rintro h m (hm | rfl)
        · exact ihn h m hm
        · simpa using hc
      · obtain ⟨hbl, hbc, hb⟩ := ihs b hb
        refine ⟨.inl hbl, hbc, ?_⟩
        rintro m (hm | rfl) hcm
        · exact hb m hm hcm
        · exact absurd hcm hc

theorem mem_tankNumbers {n : Nat} : n ∈ tankNumbers ↔ 1 ≤ n ∧ n ≤ 48 := by
  have : tankNumbers = List.range' 1 48 := by decide
  rw [this, List.mem_range'_1]
  omega

theorem tankNumbers_pairwise : tankNumbers.Pairwise (· < ·) :=
  (List.pairwise_lt_range (n := 49)).sublist (List.drop_sublist 1 _)

/-- R24's yielder, where the list is not empty. -/
theorem yielder_eq_some_iff {s : State} {h : Claim} {rest : List Claim} (hc : s.sa.claims = h :: rest) (n : Nat) :
    s.yielder = some n ↔
      IsYielder (s.isCandidate h.claimant (s.rosterUrgency h.claimant)) s.rosterUrgency tankNumbers n := by
  obtain ⟨hnone, hsome⟩ := yieldStep_foldl (s.isCandidate h.claimant (s.rosterUrgency h.claimant)) s.rosterUrgency
    tankNumbers tankNumbers_pairwise
  rw [yielder_eq hc]
  refine ⟨hsome n, fun hn => ?_⟩
  cases hb : tankNumbers.foldl
      (yieldStep (s.isCandidate h.claimant (s.rosterUrgency h.claimant)) s.rosterUrgency) none with
  | none => exact absurd hn.2.1 (by simp [hnone hb n hn.1])
  | some b => rw [(hsome b hb).unique hn]

theorem isCandidate_iff {s : State} {head u n : Nat} : s.isCandidate head u n = true ↔
    n ≠ head ∧ s.entryState n = .linked ∧ s.holdings n ≠ [] ∧ s.rosterUrgency n + 2 ≤ u := by
  simp [State.isCandidate, State.isLinked, State.entryState, and_assoc]

/-- Settles O38: the fold over the station numbers finds R24's candidate. -/
theorem yieldRule : Obligations.YieldRule := by
  refine fun s => ⟨fun h => by unfold State.yielder; rw [h], fun h rest hc => ⟨fun n => ?_, fun u n => isCandidate_iff⟩⟩
  rw [yielder_eq_some_iff hc]
  simp only [IsYielder, mem_tankNumbers, and_imp, and_assoc]

end Sys2Proof.Machine

namespace Sys2Proof.Machine

open Sys2Proof

/-! ## Roster entries -/

theorem getElem?_updateAt {α : Type} (f : α → α) (i : Nat) (l : List α) (j : Nat) :
    (updateAt f i l)[j]? = if j = i then l[j]?.map f else l[j]? := by
  induction l generalizing i j with
  | nil => cases i <;> simp [updateAt]
  | cons x l ih =>
    cases i with
    | zero => cases j <;> simp [updateAt]
    | succ i => cases j <;> simp [updateAt, ih]

theorem updateAt_length {α : Type} (f : α → α) (i : Nat) (l : List α) : (updateAt f i l).length = l.length := by
  induction l generalizing i with
  | nil => cases i <;> rfl
  | cons x l ih => cases i <;> simp [updateAt, ih]

theorem entry_of_roster {s t : State} (h : t.mu.roster = s.mu.roster) (n : Nat) : t.entry n = s.entry n := by
  unfold State.entry; rw [h]

theorem mapEntry_roster (s : State) (n : Nat) (f : RosterEntry → RosterEntry) :
    (s.mapEntry n f).mu.roster = s.mu.roster.map fun r => if n = 0 then r else updateAt f (n - 1) r := rfl

/-- A change of one entry leaves the others. -/
theorem entry_mapEntry_other (s : State) {n m : Nat} (f : RosterEntry → RosterEntry) (h : m ≠ n) :
    (s.mapEntry n f).entry m = s.entry m := by
  unfold State.entry
  rw [mapEntry_roster]
  cases hr : s.mu.roster with
  | none => rfl
  | some r =>
    simp only [Option.map_some, List.getD_eq_getElem?_getD]
    by_cases hm : m = 0
    · simp [hm]
    · by_cases hn : n = 0
      · simp [hn]
      · simp only [hm, hn, if_false, getElem?_updateAt]
        rw [if_neg (by omega)]

/-- An entry that there is changes as it is told to. -/
theorem entry_mapEntry_same {s : State} {r : List RosterEntry} {n : Nat} (hr : s.mu.roster = some r) (h1 : 1 ≤ n)
    (h2 : n ≤ r.length) (f : RosterEntry → RosterEntry) : (s.mapEntry n f).entry n = f (s.entry n) := by
  unfold State.entry
  rw [mapEntry_roster, hr]
  have hn : n ≠ 0 := by omega
  have hlt : n - 1 < r.length := by omega
  simp [hn, List.getD_eq_getElem?_getD, getElem?_updateAt, hlt]

/-- An entry that is not NONE is one the roster has. -/
theorem roster_of_entryState {s : State} {n : Nat} (h : s.entryState n ≠ .none) :
    ∃ r, s.mu.roster = some r ∧ 1 ≤ n ∧ n ≤ r.length := by
  unfold State.entryState State.entry at h
  cases hr : s.mu.roster with
  | none => rw [hr] at h; exact absurd rfl h
  | some r =>
    rw [hr] at h
    dsimp only at h
    by_cases hn : n = 0
    · rw [if_pos hn] at h; exact absurd rfl h
    · rw [if_neg hn] at h
      refine ⟨r, rfl, by omega, ?_⟩
      by_contra hlen
      rw [List.getD_eq_default _ _ (by omega)] at h
      exact h rfl

theorem isLinked_iff {s : State} {n : Nat} : s.isLinked n = true ↔ s.entryState n = .linked := by
  simp [State.isLinked, State.entryState]

/-- A change of an entry that has it LINKED, ABSENT or JOINING is seen there. -/
theorem entry_mapEntry_of_state {s : State} {n : Nat} (h : s.entryState n ≠ .none) (f : RosterEntry → RosterEntry) :
    (s.mapEntry n f).entry n = f (s.entry n) := by
  obtain ⟨r, hr, h1, h2⟩ := roster_of_entryState h
  exact entry_mapEntry_same hr h1 h2 f

/-- What a change of an entry that keeps its state keeps of every entry. -/
theorem mapEntry_keeps {α : Type} (g : RosterEntry → α) (s : State) (n : Nat) (f : RosterEntry → RosterEntry)
    (h : ∀ e, g (f e) = g e) (m : Nat) : g ((s.mapEntry n f).entry m) = g (s.entry m) := by
  by_cases hm : m = n
  · subst hm
    by_cases hs : ∃ r, s.mu.roster = some r ∧ 1 ≤ m ∧ m ≤ r.length
    · obtain ⟨r, hr, h1, h2⟩ := hs
      rw [entry_mapEntry_same hr h1 h2, h]
    · unfold State.entry
      rw [mapEntry_roster]
      cases hr : s.mu.roster with
      | none => rfl
      | some r =>
        simp only [Option.map_some, List.getD_eq_getElem?_getD]
        by_cases hm : m = 0
        · simp [hm]
        · have hlen : r.length ≤ m - 1 := by
            by_contra hlt
            exact hs ⟨r, hr, by omega, by omega⟩
          simp [hm, getElem?_updateAt, hlen]
  · rw [entry_mapEntry_other s f hm]

/-! ## Slots through the blocks' updates -/

section
variable (s : State) (id : SlotId)

@[simp] theorem mapCl_slot (f : ClState → ClState) : (s.mapCl f).slot id = s.slot id := rfl
@[simp] theorem mapMu_slot (f : MuState → MuState) : (s.mapMu f).slot id = s.slot id := rfl
@[simp] theorem mapSa_slot (f : SaState → SaState) : (s.mapSa f).slot id = s.slot id := rfl
@[simp] theorem mapTs_slot (f : TsState → TsState) : (s.mapTs f).slot id = s.slot id := rfl
@[simp] theorem mapRu_slot (f : RuState → RuState) : (s.mapRu f).slot id = s.slot id := rfl
@[simp] theorem mapSrm_slot (f : SrmState → SrmState) : (s.mapSrm f).slot id = s.slot id := rfl
@[simp] theorem mapSc_slot (f : ScState → ScState) : (s.mapSc f).slot id = s.slot id := rfl
@[simp] theorem mapRs_slot (f : RsState → RsState) : (s.mapRs f).slot id = s.slot id := rfl
@[simp] theorem mapAc_slot (f : AcState → AcState) : (s.mapAc f).slot id = s.slot id := rfl
@[simp] theorem mapEntry_slot (n : Nat) (f : RosterEntry → RosterEntry) : (s.mapEntry n f).slot id = s.slot id := rfl
@[simp] theorem drawFree_slot : s.drawFree.slot id = s.slot id := rfl

end

section
variable (s : State) {i j : SlotId} (h : i ≠ j)
include h

@[simp] theorem writeSlot_slot_other (x : Content) : (s.writeSlot i x).slot j = s.slot j := setSlot_slot_other _ _ h
@[simp] theorem cancelSlot_slot_other : (s.cancelSlot i).slot j = s.slot j := setSlot_slot_other _ _ h
@[simp] theorem pruneSlot_slot_other (l : List Nat) : (s.pruneSlot i l).slot j = s.slot j := setSlot_slot_other _ _ h

end

@[simp] theorem writeSlot_slot_same (s : State) (i : SlotId) (x : Content) :
    (s.writeSlot i x).slot i = (s.slot i).write x := setSlot_slot_same ..

@[simp] theorem cancelSlot_slot_same (s : State) (i : SlotId) : (s.cancelSlot i).slot i = (s.slot i).cancel :=
  setSlot_slot_same ..

@[simp] theorem pruneSlot_slot_same (s : State) (i : SlotId) (l : List Nat) :
    (s.pruneSlot i l).slot i = (s.slot i).prune l := setSlot_slot_same ..

section
variable (s : State) (i : SlotId)

@[simp] theorem setSlot_idle (x : Slot) : (s.setSlot i x).lc.idle = s.lc.idle := rfl
@[simp] theorem writeSlot_idle (x : Content) : (s.writeSlot i x).lc.idle = s.lc.idle := rfl
@[simp] theorem cancelSlot_idle : (s.cancelSlot i).lc.idle = s.lc.idle := rfl
@[simp] theorem pruneSlot_idle (l : List Nat) : (s.pruneSlot i l).lc.idle = s.lc.idle := rfl

end

/-- A slot that has been written is not EMPTY. -/
theorem write_not_empty (x : Slot) (c : Content) : (x.write c).state.isEmpty = false := by
  unfold Slot.write; split <;> rfl

theorem write_of_empty {x : Slot} (h : x.state.isEmpty = true) (c : Content) : (x.write c).state = .pending c := by
  unfold Slot.write
  cases hx : x.state with
  | empty => rfl
  | _ => rw [hx] at h; cases h

/-! ## What the end of a command leaves of the slots -/

/-- The slots that the end of a command may write or cancel. -/
def settleSlots : List SlotId :=
  [.release, .claim, .join, .status, .dormant, .reply0, .reply1, .reply2, .reply3, .noticeCondition]

section
variable (c : Image) (id : SlotId)

theorem latch_slot (s : State) (f : Flag) (h : id ≠ .noticeCondition) : (s.latch c f).slot id = s.slot id := by
  unfold State.latch
  dsimp only
  repeat' split
  · rfl
  · rw [writeSlot_slot_other _ h.symm]; rfl
  · rfl

theorem latchStanding_slot (s : State) (h : id ≠ .noticeCondition) : (s.latchStanding c).slot id = s.slot id := by
  have hl : ∀ (x : State) (f : Flag), (x.latchIfStanding c f).slot id = x.slot id := by
    intro x f
    unfold State.latchIfStanding
    split
    · exact latch_slot c id x f h
    · rfl
  unfold State.latchStanding
  simp only [hl]

theorem releaseAll_slot (s : State) (h : id ≠ .release) : (s.releaseAll c).slot id = s.slot id :=
  writeSlot_slot_other _ h.symm _

theorem askClaim_slot (s : State) (h : id ≠ .claim) : (s.askClaim c).slot id = s.slot id :=
  writeSlot_slot_other _ h.symm _

theorem drainStep_slot (s b : State) (h1 : id ≠ .release) (h2 : id ≠ .claim) :
    (s.drainStep b c).slot id = s.slot id := by
  have hr : ∀ x : State, (x.drainReport c).slot id = x.slot id := by
    intro x
    unfold State.drainReport State.judgeParked
    dsimp only
    repeat' split
    all_goals simp [releaseAll_slot c id _ h1, askClaim_slot c id _ h2, State.setDrain, State.stopDrain]
  have ht : ∀ x : State, (x.testClaim c).slot id = x.slot id := by
    intro x
    unfold State.testClaim
    split
    · exact askClaim_slot c id _ h2
    · rfl
  unfold State.drainStep
  dsimp only
  repeat' split
  · rw [ht, hr]
  · rw [hr]
  · rfl

theorem writeReplies_slot (s : State) (n : Nat) (ids : List SlotId) (rs : List Reply) (h : id ∉ ids) :
    (s.writeReplies n ids rs).slot id = s.slot id := by
  induction ids generalizing s rs with
  | nil => cases rs <;> rfl
  | cons i ids ih =>
    rw [List.mem_cons, not_or] at h
    cases rs with
    | nil => rfl
    | cons r rs => exact (ih _ rs h.2).trans (writeSlot_slot_other _ (Ne.symm h.1) _)

theorem runService_slot (s : State) (h : id ∉ replySlots) : (s.runService c).slot id = s.slot id := by
  have hm : ∀ x : State, (x.serviceMove c).slot id = x.slot id := by
    intro x
    unfold State.serviceMove
    repeat' split
    · rfl
    · rfl
    · rfl
    · exact writeReplies_slot id x _ _ _ h
  have hn : ∀ (n : Nat) (x : State), (x.serviceMoves c n).slot id = x.slot id := by
    intro n
    induction n with
    | zero => exact fun _ => rfl
    | succ n ih => exact fun x => (ih _).trans (hm x)
  exact hn _ s

theorem statusOnChange_slot (s b : State) (h : id ≠ .status) : (s.statusOnChange b).slot id = s.slot id := by
  unfold State.statusOnChange State.statusForChange
  repeat' split
  · exact writeSlot_slot_other _ h.symm _
  · rfl
  · rfl

theorem watchDormancy_slot (s : State) (h : id ≠ .dormant) : (s.watchDormancy c).slot id = s.slot id := by
  unfold State.watchDormancy
  dsimp only
  repeat' split
  · rfl
  · rfl
  · exact cancelSlot_slot_other _ h.symm
  · exact cancelSlot_slot_other _ h.symm
  · rfl
  · rfl

theorem controlCalm_slot (s : State) : (s.controlCalm c).slot id = s.slot id := by
  unfold State.controlCalm
  repeat' split
  all_goals rfl

theorem writeJoinIfDue_slot (s : State) (h : id ≠ .join) : (s.writeJoinIfDue c).slot id = s.slot id := by
  unfold State.writeJoinIfDue
  split
  · exact writeSlot_slot_other _ h.symm _
  · rfl

/-- The blocks' end of a command leaves every slot but those of `settleSlots`. -/
theorem settleBlocks_slot (b s : State) (h : id ∉ settleSlots) : (settleBlocks c b s).slot id = s.slot id := by
  simp only [settleSlots, List.mem_cons, List.not_mem_nil, or_false, not_or] at h
  obtain ⟨h1, h2, h3, h4, h5, h6, h7, h8, h9, h10⟩ := h
  have hr : id ∉ replySlots := by simp [replySlots, h6, h7, h8, h9]
  unfold settleBlocks
  simp only [watchDormancy_slot c id _ h5, statusOnChange_slot id _ _ h4, runService_slot c id _ hr,
    writeJoinIfDue_slot c id _ h3, State.watchSilence, mapMu_slot, controlCalm_slot, latchStanding_slot c id _ h10,
    State.setValve, mapTs_slot, drainStep_slot c id _ _ h1 h2, State.recomputeUrgency]

/-- On a line that is not idle the LC offers nothing. -/
theorem settle_slot (b s : State) (hi : s.lc.idle = false) (h : id ∉ settleSlots) :
    (settle c b s).slot id = s.slot id := by
  rw [settle_of_busy c b s hi]
  exact settleBlocks_slot c id b s h

end

end Sys2Proof.Machine

namespace Sys2Proof.Machine

open Sys2Proof

/-! ## An accepted frame, as far as its owner -/

/-- The end of a frame touches no slot but the one in flight. -/
theorem concluded_slot_other {s : State} (c : Image) (f : Frame) {id : SlotId} (h : s.slotInFlight id = false) :
    (s.concluded c f).slot id = s.slot id := by
  have hne : ∀ i, s.flight = some i → id ≠ i := fun i hi e => by
    rw [e, flight_some hi] at h; cases h
  have hfl : ∀ m, (s.endField m).flight = s.flight := fun m => flight_mapLc s _ fun _ => rfl
  unfold State.concluded
  dsimp only
  split
  · unfold State.bookkeep
    split
    · rfl
    · next i hi =>
      have hi : s.flight = some i := by
        unfold State.arrival at hi
        split at hi
        · cases hi
        · split at hi
          · exact hi
          · cases hi
      exact setSlot_slot_other _ _ (hne i hi).symm
  · cases hf : s.flight with
    | none =>
      unfold State.failFlight
      rw [hfl, hf]; rfl
    | some i => exact slot_other_failFlight _ i id ((hfl _).trans hf) (hne i hf)

theorem concluded_slot_of_pending {s : State} (c : Image) (f : Frame) {id : SlotId} {x : Content}
    (h : (s.slot id).state = .pending x) : (s.concluded c f).slot id = s.slot id :=
  concluded_slot_other c f (by unfold State.slotInFlight; rw [h]; rfl)

theorem arrival_own {s : State} {c : Image} {f : Frame} {id : SlotId} (h : OwnFrom s c f id) :
    s.arrival c f = { own := true, slot := some id, cancelled := s.flightCancelled id } := by
  unfold State.arrival
  rw [h.2, h.1]
  simp

/-- The acceptance of an own frame ends its slot's flight (R176, R180). -/
theorem concluded_slot_own {s : State} {c : Image} {f : Frame} {id : SlotId} (h : OwnFrom s c f id) :
    (s.concluded c f).slot id = (s.slot id).accepted := by
  unfold State.concluded
  rw [arrival_own h]
  exact setSlot_slot_same ..

/-- A frame from the slot in flight bears this station's number. -/
theorem ownFrom_sender {s : State} {c : Image} {f : Frame} {id : SlotId} (h : OwnFrom s c f id) :
    f.sender = c.station := by
  obtain ⟨hf, ho⟩ := h
  unfold State.ownOnLine at ho
  rw [hf] at ho
  dsimp only at ho
  unfold State.flyingFrame at ho
  split at ho
  · rw [← Option.some.inj ho]; rfl
  · cases ho

/-- From s to t only the line controller has changed, and the marks that a cancelled flight's end clears. -/
def EndsFrame (s t : State) : Prop :=
  ∃ l w k, t = { s with lc := l, sa := { s.sa with withdrawMark := w }, ac := { s.ac with wakeMark := k } }

theorem EndsFrame.trans {s t u : State} : EndsFrame s t → EndsFrame t u → EndsFrame s u := by
  rintro ⟨l, w, k, rfl⟩ ⟨l', w', k', rfl⟩
  exact ⟨l', w', k', rfl⟩

theorem reportEmptied_ends (s : State) (id : SlotId) : EndsFrame s (s.reportEmptied id) := by
  unfold State.reportEmptied; split <;> exact ⟨_, _, _, rfl⟩

theorem bookkeep_ends (s : State) (a : Arrival) : EndsFrame s (s.bookkeep a) := by
  unfold State.bookkeep; split <;> exact ⟨_, _, _, rfl⟩

theorem failFlight_ends (s : State) : EndsFrame s s.failFlight := by
  unfold State.failFlight
  split
  · exact ⟨_, _, _, rfl⟩
  · next id _ =>
    have h : EndsFrame s (s.setSlot id (s.slot id).failed) := ⟨_, _, _, rfl⟩
    dsimp only
    split
    · exact h.trans (reportEmptied_ends _ id)
    · exact h

theorem concluded_ends (s : State) (c : Image) (f : Frame) : EndsFrame s (s.concluded c f) := by
  have h : EndsFrame s (s.endField .clear) := ⟨_, _, _, rfl⟩
  unfold State.concluded
  dsimp only
  split
  · exact h.trans (bookkeep_ends _ _)
  · exact h.trans (failFlight_ends _)

theorem concluded_idle (s : State) (c : Image) (f : Frame) : (s.concluded c f).lc.idle = false := by
  have hr : ∀ (x : State) (i : SlotId), (x.reportEmptied i).lc = x.lc := by
    intro x i; unfold State.reportEmptied; split <;> rfl
  unfold State.concluded State.bookkeep State.failFlight
  dsimp only
  repeat' split
  · rfl
  · rfl
  · rfl
  · rfl
  · rw [hr]; rfl
  · rfl

/-- From s to t only slots, the silence timer, the populated marks and the roster have changed. -/
def HearsFrame (s t : State) : Prop :=
  ∃ l silence populated newly roster, t = { s with
    lc := l
    mu := { s.mu with silence := silence, populated := populated, newlyPopulated := newly, roster := roster } }

theorem HearsFrame.trans {s t u : State} : HearsFrame s t → HearsFrame t u → HearsFrame s u := by
  rintro ⟨l, i, p, n, r, rfl⟩ ⟨l', i', p', n', r', rfl⟩
  exact ⟨l', i', p', n', r', rfl⟩

theorem hearSilence_hears (s : State) (c : Image) (a : Arrival) : HearsFrame s (s.hearSilence c a) := by
  unfold State.hearSilence; split <;> exact ⟨_, _, _, _, _, rfl⟩

theorem hearPopulated_hears (s : State) (f : Frame) : HearsFrame s (s.hearPopulated f) := by
  unfold State.hearPopulated; (repeat' split) <;> exact ⟨_, _, _, _, _, rfl⟩

theorem hearEntry_hears (s : State) (c : Image) (n : Nat) : HearsFrame s (s.hearEntry c n) := by
  unfold State.hearEntry; split <;> exact ⟨_, _, _, _, _, rfl⟩

theorem pruneSlot_hears (s : State) (id : SlotId) (l : List Nat) : HearsFrame s (s.pruneSlot id l) :=
  ⟨_, _, _, _, _, rfl⟩

/-- What the hearing changes: the PENDING ABSENT set, the silence timer, the populated marks, and the roster. -/
theorem hear_hears (s : State) (c : Image) (a : Arrival) (f : Frame) : HearsFrame s (s.hear c a f) := by
  have h := (hearSilence_hears s c a).trans (hearPopulated_hears _ f)
  unfold State.hear
  dsimp only
  split <;> split
  · exact h.trans (pruneSlot_hears _ _ _)
  · exact h
  · exact (h.trans (pruneSlot_hears _ _ _)).trans (hearEntry_hears _ c _)
  · exact h.trans (hearEntry_hears _ c _)

section
variable (s : State) (c : Image) (f : Frame)

/-- The state that the owner of a frame finds. -/
theorem heardFrame_frame : ∃ l w k silence populated newly roster, s.heardFrame c f =
    { s with
      lc := l, sa := { s.sa with withdrawMark := w }, ac := { s.ac with wakeMark := k }
      mu := { s.mu with silence := silence, populated := populated, newlyPopulated := newly, roster := roster } } := by
  obtain ⟨l, w, k, hc⟩ := concluded_ends s c f
  obtain ⟨l', i, p, n, r, hh⟩ := hear_hears (s.concluded c f) c (s.arrival c f) f
  refine ⟨l', w, k, i, p, n, r, ?_⟩
  unfold State.heardFrame
  rw [hh, hc]

/-- A part of the state that neither the end of a frame nor the hearing touches. -/
theorem heardFrame_eq {α : Type} (g : State → α)
    (h : ∀ (x : State) l w k i p n r, g { x with
      lc := l, sa := { x.sa with withdrawMark := w }, ac := { x.ac with wakeMark := k }
      mu := { x.mu with silence := i, populated := p, newlyPopulated := n, roster := r } } = g x) :
    g (s.heardFrame c f) = g s := by
  obtain ⟨l, w, k, i, p, n, r, hh⟩ := heardFrame_frame s c f
  rw [hh, h]

@[simp] theorem heardFrame_membership : (s.heardFrame c f).mu.membership = s.mu.membership :=
  heardFrame_eq s c f (fun x => x.mu.membership) fun _ _ _ _ _ _ _ _ => rfl
@[simp] theorem heardFrame_lock : (s.heardFrame c f).mu.lock = s.mu.lock :=
  heardFrame_eq s c f (fun x => x.mu.lock) fun _ _ _ _ _ _ _ _ => rfl
@[simp] theorem heardFrame_nextSegment : (s.heardFrame c f).mu.nextSegment = s.mu.nextSegment :=
  heardFrame_eq s c f (fun x => x.mu.nextSegment) fun _ _ _ _ _ _ _ _ => rfl
@[simp] theorem heardFrame_ts : (s.heardFrame c f).ts = s.ts :=
  heardFrame_eq s c f (fun x => x.ts) fun _ _ _ _ _ _ _ _ => rfl
@[simp] theorem heardFrame_rs : (s.heardFrame c f).rs = s.rs :=
  heardFrame_eq s c f (fun x => x.rs) fun _ _ _ _ _ _ _ _ => rfl
@[simp] theorem heardFrame_srm : (s.heardFrame c f).srm = s.srm :=
  heardFrame_eq s c f (fun x => x.srm) fun _ _ _ _ _ _ _ _ => rfl
@[simp] theorem heardFrame_activity : (s.heardFrame c f).ac.activity = s.ac.activity :=
  heardFrame_eq s c f (fun x => x.ac.activity) fun _ _ _ _ _ _ _ _ => rfl
@[simp] theorem heardFrame_shares : (s.heardFrame c f).sa.shares = s.sa.shares :=
  heardFrame_eq s c f (fun x => x.sa.shares) fun _ _ _ _ _ _ _ _ => rfl
@[simp] theorem heardFrame_curtail : (s.heardFrame c f).sa.curtail = s.sa.curtail :=
  heardFrame_eq s c f (fun x => x.sa.curtail) fun _ _ _ _ _ _ _ _ => rfl
@[simp] theorem heardFrame_claims : (s.heardFrame c f).sa.claims = s.sa.claims :=
  heardFrame_eq s c f (fun x => x.sa.claims) fun _ _ _ _ _ _ _ _ => rfl
@[simp] theorem heardFrame_outgoing : (s.heardFrame c f).sa.outgoing = s.sa.outgoing :=
  heardFrame_eq s c f (fun x => x.sa.outgoing) fun _ _ _ _ _ _ _ _ => rfl
@[simp] theorem heardFrame_releaseMark : (s.heardFrame c f).sa.releaseMark = s.sa.releaseMark :=
  heardFrame_eq s c f (fun x => x.sa.releaseMark) fun _ _ _ _ _ _ _ _ => rfl

theorem concluded_mu : (s.concluded c f).mu = s.mu := by
  obtain ⟨l, w, k, h⟩ := concluded_ends s c f
  rw [h]

end

/-! ### The roster in the hearing (R37) -/

theorem hear_roster (s : State) (c : Image) (a : Arrival) (f : Frame) : (s.hear c a f).mu.roster =
    if f.isDormant then s.mu.roster else (s.hearEntry c f.sender).mu.roster := by
  have hp : ∀ x : State, (x.hearPopulated f).mu.roster = x.mu.roster ∧
      (x.hearPopulated f).mu.membership = x.mu.membership := by
    intro x; unfold State.hearPopulated; repeat' split
    all_goals exact ⟨rfl, rfl⟩
  have hs : (s.hearSilence c a).mu.roster = s.mu.roster ∧ (s.hearSilence c a).mu.membership = s.mu.membership := by
    unfold State.hearSilence; split <;> exact ⟨rfl, rfl⟩
  have he : ∀ x y : State, x.mu.roster = y.mu.roster → x.mu.membership = y.mu.membership →
      (x.hearEntry c f.sender).mu.roster = (y.hearEntry c f.sender).mu.roster := by
    intro x y h1 h2
    have hl : x.isLinked f.sender = y.isLinked f.sender := by unfold State.isLinked; rw [entry_of_roster h1]
    unfold State.hearEntry
    rw [hl, h2]
    split
    · rw [mapEntry_roster, mapEntry_roster, h1]
    · exact h1
  unfold State.hear
  dsimp only
  split
  · split
    · exact (hp _).1.trans hs.1
    · exact (hp _).1.trans hs.1
  · refine he _ _ ?_ ?_
    · split
      · exact (hp _).1.trans hs.1
      · exact (hp _).1.trans hs.1
    · split
      · exact (hp _).2.trans hs.2
      · exact (hp _).2.trans hs.2

theorem heardFrame_roster (s : State) (c : Image) (f : Frame) : (s.heardFrame c f).mu.roster =
    if f.isDormant then s.mu.roster else (s.hearEntry c f.sender).mu.roster := by
  have hm := concluded_mu s c f
  have he : ((s.concluded c f).hearEntry c f.sender).mu.roster = (s.hearEntry c f.sender).mu.roster := by
    have hl : (s.concluded c f).isLinked f.sender = s.isLinked f.sender := by
      unfold State.isLinked; rw [entry_of_roster (congrArg MuState.roster hm)]
    unfold State.hearEntry
    rw [hl]
    split
    · rw [mapEntry_roster, mapEntry_roster, hm]
    · rw [hm]
  unfold State.heardFrame
  rw [hear_roster, hm, he]

theorem heardFrame_entry (s : State) (c : Image) (f : Frame) (n : Nat) : (s.heardFrame c f).entry n =
    if f.isDormant then s.entry n else (s.hearEntry c f.sender).entry n := by
  have h := heardFrame_roster s c f
  split <;> rename_i hd <;> simp only [hd, if_true] at h <;> exact entry_of_roster h n

/-- Only the sender's entry is heard from. -/
theorem heardFrame_entry_other (s : State) (c : Image) (f : Frame) {n : Nat} (h : n ≠ f.sender) :
    (s.heardFrame c f).entry n = s.entry n := by
  rw [heardFrame_entry]
  split
  · rfl
  · unfold State.hearEntry
    split
    · exact entry_mapEntry_other _ _ h
    · rfl

/-- The hearing moves an entry's mark and last-heard timer, and nothing else of it. -/
theorem heardFrame_keeps {α : Type} (g : RosterEntry → α)
    (h : ∀ (e : RosterEntry) (d : Bool) (t : Timer), g { e with dormant := d, lastHeard := t } = g e) (s : State)
    (c : Image) (f : Frame) (n : Nat) : g ((s.heardFrame c f).entry n) = g (s.entry n) := by
  rw [heardFrame_entry]
  split
  · rfl
  · unfold State.hearEntry
    split
    · exact mapEntry_keeps g s f.sender _ (fun e => h e false _) n
    · rfl

@[simp] theorem heardFrame_entryState (s : State) (c : Image) (f : Frame) (n : Nat) :
    (s.heardFrame c f).entryState n = s.entryState n := heardFrame_keeps _ (fun _ _ _ => rfl) s c f n

@[simp] theorem heardFrame_isLinked (s : State) (c : Image) (f : Frame) (n : Nat) :
    (s.heardFrame c f).isLinked n = s.isLinked n := heardFrame_keeps (fun e => decide (e.state = .linked)) (fun _ _ _ => rfl) s c f n

@[simp] theorem heardFrame_rosterUrgency (s : State) (c : Image) (f : Frame) (n : Nat) :
    (s.heardFrame c f).rosterUrgency n = s.rosterUrgency n := heardFrame_keeps _ (fun _ _ _ => rfl) s c f n

theorem heardFrame_stranding (s : State) (c : Image) (f : Frame) (n : Nat) :
    ((s.heardFrame c f).entry n).stranding = (s.entry n).stranding :=
  heardFrame_keeps RosterEntry.stranding (fun _ _ _ => rfl) s c f n

/-- A sender that is not LINKED is not heard from in the roster. -/
theorem heardFrame_entry_of_unlinked {s : State} (c : Image) {f : Frame} (h : s.isLinked f.sender = false) (n : Nat) :
    (s.heardFrame c f).entry n = s.entry n := by
  rw [heardFrame_entry]
  unfold State.hearEntry
  simp [h]

/-- The mark of a LINKED sender is cleared, but by a DORMANT. -/
theorem heardFrame_dormant_sender {s : State} (c : Image) {f : Frame} (hl : s.isLinked f.sender = true)
    (hd : f.isDormant = false) : ((s.heardFrame c f).entry f.sender).dormant = false := by
  rw [heardFrame_entry, hd, if_neg (by simp)]
  unfold State.hearEntry
  rw [if_pos hl, entry_mapEntry_of_state (by rw [isLinked_iff.mp hl]; simp)]

/-- The roster keeps its length. -/
theorem heardFrame_roster_some {s : State} (c : Image) (f : Frame) {r : List RosterEntry} (h : s.mu.roster = some r) :
    ∃ r', (s.heardFrame c f).mu.roster = some r' ∧ r'.length = r.length := by
  rw [heardFrame_roster]
  split
  · exact ⟨r, h, rfl⟩
  · unfold State.hearEntry
    split
    · rw [mapEntry_roster, h]
      refine ⟨_, rfl, ?_⟩
      split
      · rfl
      · exact updateAt_length _ _ _
    · exact ⟨r, h, rfl⟩

/-! ### The slots in the hearing -/

theorem hear_slot_other (s : State) (c : Image) (a : Arrival) (f : Frame) {id : SlotId} (h : id ≠ .absent) :
    (s.hear c a f).slot id = s.slot id := by
  have h0 : ((s.hearSilence c a).hearPopulated f).slot id = s.slot id := by
    unfold State.hearPopulated State.hearSilence
    (repeat' split) <;> rfl
  have he : ∀ x : State, (x.hearEntry c f.sender).slot id = x.slot id := by
    intro x; unfold State.hearEntry; split <;> rfl
  have hp : ∀ x : State, (x.pruneSlot .absent [f.sender]).slot id = x.slot id := fun x =>
    pruneSlot_slot_other x h.symm _
  unfold State.hear
  dsimp only
  split <;> split
  · rw [hp, h0]
  · exact h0
  · rw [he, hp, h0]
  · rw [he, h0]

/-- A tank station that is heard from leaves the PENDING ABSENT set (R54). -/
theorem hear_slot_absent (s : State) (c : Image) (a : Arrival) (f : Frame) (h : isTank f.sender = true) :
    (s.hear c a f).slot .absent = (s.slot .absent).prune [f.sender] := by
  have h0 : ((s.hearSilence c a).hearPopulated f).slot .absent = s.slot .absent := by
    unfold State.hearPopulated State.hearSilence
    (repeat' split) <;> rfl
  have he : ∀ x : State, (x.hearEntry c f.sender).slot .absent = x.slot .absent := by
    intro x; unfold State.hearEntry; split <;> rfl
  unfold State.hear
  dsimp only
  rw [if_pos h]
  split <;> simp [he, h0]

theorem hear_idle (s : State) (c : Image) (a : Arrival) (f : Frame) : (s.hear c a f).lc.idle = s.lc.idle := by
  unfold State.hear State.hearEntry State.hearPopulated State.hearSilence
  dsimp only
  repeat' split
  all_goals rfl

@[simp] theorem heardFrame_idle (s : State) (c : Image) (f : Frame) : (s.heardFrame c f).lc.idle = false :=
  (hear_idle _ _ _ _).trans (concluded_idle s c f)

theorem heardFrame_slot_other (s : State) (c : Image) (f : Frame) {id : SlotId} (h : id ≠ .absent) :
    (s.heardFrame c f).slot id = (s.concluded c f).slot id := hear_slot_other _ _ _ _ h

theorem heardFrame_slot_absent (s : State) (c : Image) (f : Frame) (h : isTank f.sender = true) :
    (s.heardFrame c f).slot .absent = ((s.concluded c f).slot .absent).prune [f.sender] := hear_slot_absent _ _ _ _ h

/-! ## What follows the owner -/

/-- The state after an accepted frame whose owner has left state u; before is the state its hearing began with. -/
def State.followUp (u : State) (c : Image) (a : Arrival) (f : Frame) (before : State) : State :=
  (u.ownerDone c a f).afterFrame before c

theorem receive_hears {s : State} {c : Image} (h : Hears s c) {f : Frame} (hf : f.fromStation = true)
    (o : Image → Arrival → State → State) : receive f o s =
      settle c s ((o c (s.arrival c f) (s.heardFrame c f)).followUp c (s.arrival c f) f (s.concluded c f)) := by
  unfold receive
  rw [onRunning_some h.1, if_pos h.2]
  unfold acceptFrame
  rw [if_pos hf]
  rfl

theorem fromStation_of_ne {b : FrameBody} {cls sub : Nat} (h0 : b.sender.toNat ≠ 0) (h63 : b.sender.toNat ≠ 63) :
    (bodyFrame b cls sub).fromStation = true := by
  simp [Frame.fromStation, bodyFrame, h0, h63]

theorem isTank_iff {n : Nat} : isTank n = true ↔ 1 ≤ n ∧ n ≤ 48 := by simp [isTank]

theorem isListener_iff {n : Nat} : isListener n = true ↔ 49 ≤ n ∧ n ≤ 62 := by simp [isListener]

theorem fromStation_of_tank {b : FrameBody} {cls sub : Nat} (h : isTank b.sender.toNat = true) :
    (bodyFrame b cls sub).fromStation = true := by
  rw [isTank_iff] at h
  exact fromStation_of_ne (by omega) (by omega)

/-- From s to t only the SA's part after a frame has been done: the outgoing set, the release mark, slots, and the
drain machine of a completed or a parking release. -/
def OwnPart (s t : State) : Prop :=
  ∃ l o r x u, t = { s with lc := l, sa := { s.sa with outgoing := o, releaseMark := r }, ts := x, freeUsed := u }

theorem OwnPart.refl (s : State) : OwnPart s s := ⟨_, _, _, _, _, rfl⟩

theorem OwnPart.trans {s t u : State} : OwnPart s t → OwnPart t u → OwnPart s u := by
  rintro ⟨l, o, r, x, f, rfl⟩ ⟨l', o', r', x', f', rfl⟩
  exact ⟨l', o', r', x', f', rfl⟩

theorem releaseAll_ownPart (s : State) (c : Image) : OwnPart s (s.releaseAll c) := ⟨_, _, _, _, _, rfl⟩

theorem releaseArrivals_ownPart (s : State) (c : Image) : OwnPart s (s.releaseArrivals c) := by
  unfold State.releaseArrivals
  (repeat' split) <;> exact ⟨_, _, _, _, _, rfl⟩

theorem rejoinOutgoing_ownPart (s : State) (c : Image) : OwnPart s (s.rejoinOutgoing c) := by
  rw [rejoinOutgoing_eq]; exact ⟨_, _, _, _, _, rfl⟩

theorem yieldIfNamed_ownPart (s : State) (c : Image) : OwnPart s (s.yieldIfNamed c) := by
  unfold State.yieldIfNamed
  (repeat' split) <;> exact ⟨_, _, _, _, _, rfl⟩

theorem parkingRelease_ownPart (s : State) (c : Image) : OwnPart s (s.parkingRelease c) := ⟨_, _, _, _, _, rfl⟩

theorem drawFree_ownPart (s : State) : OwnPart s s.drawFree := ⟨_, _, _, _, _, rfl⟩

theorem yieldAndPark_ownPart (s b : State) (c : Image) : OwnPart s (s.yieldAndPark b c) := by
  unfold State.yieldAndPark
  split
  · exact .refl s
  · exact yieldIfNamed_ownPart s c
  · exact parkingRelease_ownPart s c
  · split
    · exact ((drawFree_ownPart s).trans (yieldIfNamed_ownPart _ c)).trans (parkingRelease_ownPart _ c)
    · exact ((drawFree_ownPart s).trans (parkingRelease_ownPart _ c)).trans (yieldIfNamed_ownPart _ c)

theorem completeRelease_ownPart (s : State) (c : Image) : OwnPart s (s.completeRelease c) := by
  unfold State.completeRelease
  split <;> exact ⟨_, _, _, _, _, rfl⟩

theorem afterFrame_ownPart (s b : State) (c : Image) : OwnPart s (s.afterFrame b c) := by
  unfold State.afterFrame
  split
  · exact (((releaseArrivals_ownPart s c).trans (rejoinOutgoing_ownPart _ c)).trans
      (yieldAndPark_ownPart _ b c)).trans (completeRelease_ownPart _ c)
  · exact .refl s

end Sys2Proof.Machine

namespace Sys2Proof.Machine

open Sys2Proof

/-! ## What follows the owner, at a LINKED station and elsewhere -/

theorem holdings_of_shares_eq {s t : State} (h : t.sa.shares = s.sa.shares) (n : Nat) :
    t.holdings n = s.holdings n := by
  unfold State.holdings; rw [h]

theorem shares_of_tables {s t : State} (h : t.tables = s.tables) : t.sa.shares = s.sa.shares := congrArg Prod.fst h

theorem curtail_of_tables {s t : State} (h : t.tables = s.tables) : t.sa.curtail = s.sa.curtail :=
  congrArg (fun x => x.2.1) h

theorem claims_of_tables {s t : State} (h : t.tables = s.tables) : t.sa.claims = s.sa.claims :=
  congrArg (fun x => x.2.2) h

theorem holdings_of_tables {s t : State} (h : t.tables = s.tables) (n : Nat) : t.holdings n = s.holdings n :=
  holdings_of_shares_eq (shares_of_tables h) n

theorem claimOf_of_claims {s t : State} (h : t.sa.claims = s.sa.claims) (n : Nat) : t.claimOf n = s.claimOf n := by
  unfold State.claimOf; rw [h]

theorem hasClaim_of_claims {s t : State} (h : t.sa.claims = s.sa.claims) (n : Nat) : t.hasClaim n = s.hasClaim n := by
  unfold State.hasClaim; rw [claimOf_of_claims h]

section
variable (s : State) (c : Image) (a : Arrival)

/-- The presence timer is all that its restart touches. -/
theorem restartPresence_eq : ∃ p, s.restartPresence c a = s.mapMu fun m => { m with presence := p } := by
  unfold State.restartPresence
  split
  · exact ⟨_, rfl⟩
  · exact ⟨s.mu.presence, rfl⟩

@[simp] theorem restartPresence_lc : (s.restartPresence c a).lc = s.lc := by
  obtain ⟨p, h⟩ := restartPresence_eq s c a; rw [h]; rfl
@[simp] theorem restartPresence_sa : (s.restartPresence c a).sa = s.sa := by
  obtain ⟨p, h⟩ := restartPresence_eq s c a; rw [h]; rfl
@[simp] theorem restartPresence_membership : (s.restartPresence c a).mu.membership = s.mu.membership := by
  obtain ⟨p, h⟩ := restartPresence_eq s c a; rw [h]; rfl
@[simp] theorem restartPresence_roster : (s.restartPresence c a).mu.roster = s.mu.roster := by
  obtain ⟨p, h⟩ := restartPresence_eq s c a; rw [h]; rfl
@[simp] theorem restartPresence_lock : (s.restartPresence c a).mu.lock = s.mu.lock := by
  obtain ⟨p, h⟩ := restartPresence_eq s c a; rw [h]; rfl

/-- A station that is not LINKED has no presence timer to restart. -/
theorem restartPresence_of_unlinked {s : State} (h : s.mu.membership ≠ .linked) : s.restartPresence c a = s := by
  unfold State.restartPresence; rw [if_neg fun hh => h hh.2]

end

theorem endLock_of_none {s : State} (c : Image) (h : s.mu.lock = none) : s.endLock c = s := by
  unfold State.endLock; rw [h]

@[simp] theorem endLock_membership (s : State) (c : Image) : (s.endLock c).mu.membership = s.mu.membership := by
  unfold State.endLock
  dsimp only
  (repeat' split) <;> rfl

@[simp] theorem endLock_sa (s : State) (c : Image) : (s.endLock c).sa = s.sa := by
  unfold State.endLock
  dsimp only
  (repeat' split) <;> rfl

@[simp] theorem endLock_idle (s : State) (c : Image) : (s.endLock c).lc.idle = s.lc.idle := by
  unfold State.endLock
  dsimp only
  (repeat' split) <;> rfl

/-- The end of a lock cancels the TABLE slot alone (R48, R49). -/
theorem endLock_slot (s : State) (c : Image) {id : SlotId} (h : id ≠ .table) : (s.endLock c).slot id = s.slot id := by
  unfold State.endLock
  dsimp only
  repeat' split
  · rfl
  · exact cancelSlot_slot_other _ h.symm
  · exact cancelSlot_slot_other _ h.symm
  · rfl
  · rfl

/-- The end of a lock changes no entry but the joiner's, and that not if it is the station's own (R49). -/
theorem endLock_entry (s : State) (c : Image) {n : Nat}
    (h : (∀ l, s.mu.lock = some l → n ≠ l.joiner) ∨ n = c.station) : (s.endLock c).entry n = s.entry n := by
  unfold State.endLock
  split
  · rfl
  · next l hl =>
    have key : (if l.joiner = c.station then s.mapMu fun m => { m with lock := none }
        else (s.mapMu fun m => { m with lock := none }).clearEntry l.joiner).entry n = s.entry n := by
      split
      · rfl
      · next hj =>
        have hn : n ≠ l.joiner := h.elim (fun h => h l hl) fun h => h ▸ Ne.symm hj
        exact entry_mapEntry_other _ _ hn
    dsimp only
    split <;> exact key

theorem ownerDone_linked {s : State} (h : s.mu.membership = .linked) (c : Image) (a : Arrival) (f : Frame) :
    s.ownerDone c a f = if f.isAllocation then (s.restartPresence c a).endLock c else s.restartPresence c a := by
  unfold State.ownerDone State.spoil
  simp [h]

section
variable {u : State} (c : Image) (a : Arrival) (f : Frame) (b : State)

/-- In LISTENING, FALLBACK and ISOLATED nothing follows the owner. -/
theorem followUp_off (h : u.mu.membership = .listening ∨ u.mu.membership = .fallback ∨ u.mu.membership = .isolated) :
    u.followUp c a f b = u := by
  have hl : u.mu.membership ≠ .linked := by rcases h with h | h | h <;> simp [h]
  have hs : u.spoil c = u := by
    unfold State.spoil
    rcases h with h | h | h <;> rw [h]
  unfold State.followUp State.ownerDone State.afterFrame
  simp [restartPresence_of_unlinked c a hl, hs, hl]

/-- After a frame that is no allocation frame nothing follows the owner at a station that is not LINKED. -/
theorem followUp_unlinked (h : u.mu.membership ≠ .linked) (hf : f.isAllocation = false) : u.followUp c a f b = u := by
  unfold State.followUp State.ownerDone State.afterFrame
  simp [restartPresence_of_unlinked c a h, hf, h]

theorem releaseArrivals_slot (s : State) (c : Image) {id : SlotId} (h : id ≠ .release) :
    (s.releaseArrivals c).slot id = s.slot id := by
  unfold State.releaseArrivals
  repeat' split
  · rfl
  · exact writeSlot_slot_other _ h.symm _
  · rfl

theorem rejoinOutgoing_slot (s : State) (c : Image) (id : SlotId) : (s.rejoinOutgoing c).slot id = s.slot id := by
  rw [rejoinOutgoing_eq]; rfl

theorem yieldIfNamed_slot (s : State) (c : Image) {id : SlotId} (h : id ≠ .yield) :
    (s.yieldIfNamed c).slot id = s.slot id := by
  unfold State.yieldIfNamed
  repeat' split
  · rfl
  · exact writeSlot_slot_other _ h.symm _
  · rfl

theorem completeRelease_slot (s : State) (c : Image) (id : SlotId) : (s.completeRelease c).slot id = s.slot id := by
  unfold State.completeRelease; split <;> rfl

theorem afterFrame_slot (s b : State) (c : Image) {id : SlotId} (h1 : id ≠ .yield) (h2 : id ≠ .release) :
    (s.afterFrame b c).slot id = s.slot id := by
  have hy : ∀ x : State, (x.yieldIfNamed c).slot id = x.slot id := fun x => yieldIfNamed_slot x c h1
  have hp : ∀ x : State, (x.parkingRelease c).slot id = x.slot id := fun x => releaseAll_slot c id x h2
  have hyp : ∀ x : State, (x.yieldAndPark b c).slot id = x.slot id := by
    intro x; unfold State.yieldAndPark
    split
    · rfl
    · exact hy x
    · exact hp x
    · split <;> simp [hy, hp]
  unfold State.afterFrame
  split
  · rw [completeRelease_slot, hyp, rejoinOutgoing_slot, releaseArrivals_slot _ c h2]
  · rfl

theorem afterFrame_idle (s b : State) (c : Image) : (s.afterFrame b c).lc.idle = s.lc.idle := by
  have hr : ∀ x : State, (x.releaseArrivals c).lc.idle = x.lc.idle := by
    intro x; unfold State.releaseArrivals; (repeat' split) <;> rfl
  have hj : ∀ x : State, (x.rejoinOutgoing c).lc.idle = x.lc.idle := by
    intro x; rw [rejoinOutgoing_eq]; rfl
  have hy : ∀ x : State, (x.yieldIfNamed c).lc.idle = x.lc.idle := by
    intro x; unfold State.yieldIfNamed; (repeat' split) <;> rfl
  have hp : ∀ x : State, (x.parkingRelease c).lc.idle = x.lc.idle := fun x => rfl
  have hd : ∀ x : State, x.drawFree.lc.idle = x.lc.idle := fun x => rfl
  have hyp : ∀ x : State, (x.yieldAndPark b c).lc.idle = x.lc.idle := by
    intro x; unfold State.yieldAndPark
    split
    · rfl
    · exact hy x
    · exact hp x
    · split <;> simp only [hy, hp, hd]
  have hc : ∀ x : State, (x.completeRelease c).lc.idle = x.lc.idle := by
    intro x; unfold State.completeRelease; split <;> rfl
  unfold State.afterFrame
  split
  · rw [hc, hyp, hj, hr]
  · rfl

variable (hl : u.mu.membership = .linked)
include hl

theorem followUp_tables : (u.followUp c a f b).tables = u.tables := by
  unfold State.followUp
  rw [afterFrame_tables, ownerDone_linked hl]
  split <;> simp

theorem followUp_membership : (u.followUp c a f b).mu.membership = .linked := by
  have h : (u.followUp c a f b).member = (u.ownerDone c a f).member := by unfold State.followUp; simp
  have ho : (u.ownerDone c a f).mu.membership = .linked := by
    rw [ownerDone_linked hl]
    split <;> simpa using hl
  exact (congrArg Prod.fst h).trans ho

theorem followUp_entry {n : Nat} (h : (∀ l, u.mu.lock = some l → n ≠ l.joiner) ∨ n = c.station ∨ f.isAllocation = false) :
    (u.followUp c a f b).entry n = u.entry n := by
  have hm : (u.followUp c a f b).member = (u.ownerDone c a f).member := by unfold State.followUp; simp
  rw [entry_of_roster (congrArg (fun x => x.2.1) hm), ownerDone_linked hl]
  split
  · next hf =>
    refine (endLock_entry _ c ?_).trans (entry_of_roster (restartPresence_roster u c a) n)
    rw [restartPresence_lock]
    rcases h with h | h | h
    · exact .inl h
    · exact .inr h
    · rw [h] at hf; cases hf
  · exact entry_of_roster (restartPresence_roster u c a) n

/-- Where no lock stands, or no lock is ended, what follows the owner leaves the roster. -/
theorem followUp_roster (h : u.mu.lock = none ∨ f.isAllocation = false) :
    (u.followUp c a f b).mu.roster = u.mu.roster ∧ (u.followUp c a f b).mu.lock = u.mu.lock := by
  have hm : (u.followUp c a f b).member = (u.ownerDone c a f).member := by unfold State.followUp; simp
  have hr : (u.ownerDone c a f).mu.roster = u.mu.roster ∧ (u.ownerDone c a f).mu.lock = u.mu.lock := by
    rw [ownerDone_linked hl]
    split
    · next hf =>
      rcases h with h | h
      · rw [endLock_of_none c (by simpa using h)]; simp
      · rw [h] at hf; cases hf
    · simp
  exact ⟨(congrArg (fun x => x.2.1) hm).trans hr.1, (congrArg (fun x => x.2.2.1) hm).trans hr.2⟩

theorem followUp_slot {id : SlotId} (h1 : id ≠ .yield) (h2 : id ≠ .release) (h3 : id ≠ .table ∨ f.isAllocation = false) :
    (u.followUp c a f b).slot id = u.slot id := by
  have hp : (u.restartPresence c a).slot id = u.slot id := by
    unfold State.slot; rw [restartPresence_lc]
  unfold State.followUp
  rw [afterFrame_slot _ _ _ h1 h2, ownerDone_linked hl]
  split
  · next hf =>
    rcases h3 with h3 | h3
    · rw [endLock_slot _ _ h3, hp]
    · rw [h3] at hf; cases hf
  · exact hp

theorem followUp_idle : (u.followUp c a f b).lc.idle = u.lc.idle := by
  unfold State.followUp
  rw [afterFrame_idle, ownerDone_linked hl]
  split <;> simp

end

/-! ## The outgoing set after a frame and at the end of a command (R27) -/

theorem mem_unionBelow {n : Nat} {a b : List Nat} {j : Nat} : j ∈ unionBelow n a b ↔ j < n ∧ (j ∈ a ∨ j ∈ b) := by
  simp [unionBelow]

/-- From s to t the share table stays, the outgoing set loses no share of the table's 64, and no share but an own one
joins it. -/
def OutgoingGrows (c : Image) (s t : State) : Prop :=
  t.sa.shares = s.sa.shares ∧ (∀ j, j < 64 → j ∈ s.sa.outgoing → j ∈ t.sa.outgoing) ∧
    ∀ j, j ∈ t.sa.outgoing → j ∈ s.sa.outgoing ∨ j ∈ s.holdings c.station

namespace OutgoingGrows

variable {c : Image} {s t u : State}

theorem of_sa (h1 : t.sa.shares = s.sa.shares) (h2 : t.sa.outgoing = s.sa.outgoing) : OutgoingGrows c s t :=
  ⟨h1, fun _ _ h => h2 ▸ h, fun _ h => .inl (h2 ▸ h)⟩

theorem refl (s : State) : OutgoingGrows c s s := of_sa rfl rfl

theorem trans (h : OutgoingGrows c s t) (h' : OutgoingGrows c t u) : OutgoingGrows c s u :=
  ⟨h'.1.trans h.1, fun j hj hm => h'.2.1 j hj (h.2.1 j hj hm), fun j hj => by
    rcases h'.2.2 j hj with hj | hj
    · exact h.2.2 j hj
    · exact .inr (holdings_of_shares_eq h.1 _ ▸ hj)⟩

end OutgoingGrows

section
variable (s : State) (c : Image)

theorem releaseShares_grows {set : List Nat} (h : ∀ j ∈ set, j ∈ s.holdings c.station) :
    OutgoingGrows c s (s.releaseShares set) :=
  ⟨rfl, fun _ hj hm => mem_unionBelow.mpr ⟨hj, .inl hm⟩, fun j hj =>
    ((mem_unionBelow.mp hj).2).imp_right (h j)⟩

theorem mem_keptHoldings {j : Nat} : j ∈ s.keptHoldings c ↔ j ∈ s.holdings c.station ∧ j ∉ s.sa.outgoing := mem_without

theorem releaseAll_grows : OutgoingGrows c s (s.releaseAll c) :=
  (OutgoingGrows.of_sa rfl rfl : OutgoingGrows c s (s.mapSa fun a => { a with releaseMark := true })).trans
    (releaseShares_grows _ c fun _ h => h)

theorem releaseArrivals_grows : OutgoingGrows c s (s.releaseArrivals c) := by
  unfold State.releaseArrivals
  split
  · split
    · exact .refl s
    · exact releaseShares_grows s c fun j hj => ((mem_keptHoldings s c).mp hj).1
  · exact .refl s

theorem rejoinOutgoing_grows : OutgoingGrows c s (s.rejoinOutgoing c) :=
  ⟨by rw [rejoinOutgoing_eq]; rfl, fun j _ h => (mem_rejoinOutgoing s c j).mpr (.inl h), fun j h =>
    ((mem_rejoinOutgoing s c j).mp h).imp_right And.left⟩

theorem yieldIfNamed_grows : OutgoingGrows c s (s.yieldIfNamed c) := by
  unfold State.yieldIfNamed
  split
  · split
    · exact .refl s
    · next i hi =>
      refine ⟨rfl, fun _ hj hm => mem_unionBelow.mpr ⟨hj, .inl hm⟩, fun j hj => ?_⟩
      rcases (mem_unionBelow.mp hj).2 with hj | hj
      · exact .inl hj
      · rw [List.mem_singleton.mp hj]
        exact .inr ((mem_keptHoldings s c).mp (List.mem_of_getLast? hi)).1
  · exact .refl s

theorem parkingRelease_grows : OutgoingGrows c s (s.parkingRelease c) :=
  (releaseAll_grows s c).trans (.of_sa rfl rfl)

theorem yieldAndPark_grows (b : State) : OutgoingGrows c s (s.yieldAndPark b c) := by
  have hd : OutgoingGrows c s s.drawFree := .of_sa rfl rfl
  unfold State.yieldAndPark
  split
  · exact .refl s
  · exact yieldIfNamed_grows s c
  · exact parkingRelease_grows s c
  · split
    · exact (hd.trans (yieldIfNamed_grows _ c)).trans (parkingRelease_grows _ c)
    · exact (hd.trans (parkingRelease_grows _ c)).trans (yieldIfNamed_grows _ c)

theorem completeRelease_grows : OutgoingGrows c s (s.completeRelease c) := by
  unfold State.completeRelease
  split
  · exact .of_sa rfl rfl
  · exact .refl s

theorem afterFrame_grows (b : State) : OutgoingGrows c s (s.afterFrame b c) := by
  unfold State.afterFrame
  split
  · exact (((releaseArrivals_grows s c).trans (rejoinOutgoing_grows _ c)).trans (yieldAndPark_grows _ c b)).trans
      (completeRelease_grows _ c)
  · exact .refl s

theorem judgeParked_grows : OutgoingGrows c s (s.judgeParked c) := by
  unfold State.judgeParked
  dsimp only
  split
  · split
    · exact (OutgoingGrows.of_sa rfl rfl : OutgoingGrows c s (s.mapTs fun t => { t with parkJudged := true })).trans
        (releaseAll_grows _ c)
    · exact .of_sa rfl rfl
  · exact .refl s

theorem drainReport_grows : OutgoingGrows c s (s.drainReport c) := by
  unfold State.drainReport
  dsimp only
  repeat' split
  · exact releaseAll_grows s c
  · exact .refl s
  · exact .of_sa rfl rfl
  · exact .of_sa rfl rfl
  · exact .refl s
  · exact .refl s
  · exact .of_sa rfl rfl
  · exact .of_sa rfl rfl
  · exact .of_sa rfl rfl
  · exact judgeParked_grows s c

theorem drainStep_grows (b : State) : OutgoingGrows c s (s.drainStep b c) := by
  have ht : ∀ x : State, OutgoingGrows c x (x.testClaim c) := by
    intro x; unfold State.testClaim; split <;> exact .of_sa rfl rfl
  unfold State.drainStep
  dsimp only
  split
  · split
    · exact (drainReport_grows s c).trans (ht _)
    · exact drainReport_grows s c
  · exact .refl s

theorem settle_grows (b : State) : OutgoingGrows c s (settle c b s) := by
  have h := settle_ts_sa c b s
  have hd : OutgoingGrows c s ((s.recomputeUrgency c).drainStep b c) :=
    (OutgoingGrows.of_sa rfl rfl : OutgoingGrows c s (s.recomputeUrgency c)).trans (drainStep_grows _ c b)
  exact hd.trans (.of_sa (by rw [h.2]; rfl) (by rw [h.2]; rfl))

/-- From the owner of a frame to the end of its command the outgoing set grows by own shares alone. -/
theorem followUp_grows {u : State} (hl : u.mu.membership = .linked) (a : Arrival) (f : Frame) (b : State) :
    OutgoingGrows c u (u.followUp c a f b) := by
  have h : OutgoingGrows c u (u.ownerDone c a f) := by
    rw [ownerDone_linked hl]
    split <;> exact .of_sa (by simp) (by simp)
  exact h.trans (afterFrame_grows _ c b)

end

end Sys2Proof.Machine

namespace Sys2Proof.Machine

open Sys2Proof

/-! ## YIELD, RELEASE and WITHDRAW (R12 to R14) -/

theorem Redistributed.of_eq {q : Nat} {p p' : Nat → Share → Bool} {sh : List Share} {cl : List Claim} {t : State}
    (h : Redistributed q p sh cl t) (e : ∀ i x, p' i x = p i x) : Redistributed q p' sh cl t := by
  rwa [show p' = p from funext fun i => funext fun x => e i x]

theorem atLeast_of {b : FrameBody} {cls sub n : Nat} (h : n ≤ b.payload.length) : (bodyFrame b cls sub).atLeast n = true :=
  decide_eq_true h

theorem hasClaim_eq_false_iff {s : State} {n : Nat} :
    s.hasClaim n = false ↔ s.sa.claims.find? (fun e => decide (e.claimant = n)) = none := by
  unfold State.hasClaim State.claimOf
  exact Option.isSome_eq_false_iff.trans Option.isNone_iff_eq_none

theorem hasClaim_dropClaim (s : State) (n m : Nat) :
    (s.dropClaim n).hasClaim m = (s.hasClaim m && !decide (m = n)) := by
  rw [Bool.eq_iff_iff, hasClaim_iff]
  show m ∈ (removeClaim n s.sa.claims).map Claim.claimant ↔ _
  rw [removeClaim_map_claimant]
  simp [hasClaim_iff]

theorem heardFrame_takesFrom (s : State) (c : Image) (f : Frame) (n : Nat) :
    (s.heardFrame c f).takesFrom n = s.takesFrom n := by
  simp [State.takesFrom]

theorem takesFrom_of {s : State} {c : Image} {n : Nat} (h : TakesFrom s c n) : s.takesFrom n = true := by
  obtain ⟨-, hl, -, hn⟩ := h
  simp [State.takesFrom, hl, hn]

theorem settleOutgoing_eq (s : State) (a : Arrival) (set : List Nat) :
    ∃ o, s.settleOutgoing a set = s.mapSa fun x => { x with outgoing := o } := by
  unfold State.settleOutgoing
  split
  · exact ⟨_, rfl⟩
  · exact ⟨s.sa.outgoing, rfl⟩

@[simp] theorem settleOutgoing_membership (s : State) (a : Arrival) (set : List Nat) :
    (s.settleOutgoing a set).mu.membership = s.mu.membership := by
  obtain ⟨o, h⟩ := settleOutgoing_eq s a set; rw [h]; rfl

@[simp] theorem settleOutgoing_takesFrom (s : State) (a : Arrival) (set : List Nat) (n : Nat) :
    (s.settleOutgoing a set).takesFrom n = s.takesFrom n := by
  obtain ⟨o, h⟩ := settleOutgoing_eq s a set; rw [h]; rfl

theorem membership_of_member {s t : State} (h : t.member = s.member) : t.mu.membership = s.mu.membership :=
  congrArg Prod.fst h

theorem roster_of_member {s t : State} (h : t.member = s.member) : t.mu.roster = s.mu.roster :=
  congrArg (fun x => x.2.1) h

theorem lock_of_member {s t : State} (h : t.member = s.member) : t.mu.lock = s.mu.lock :=
  congrArg (fun x => x.2.2.1) h

section
variable {s : State} {c : Image} {f : Frame}

/-- Where the owner of a frame leaves the station LINKED, the command ends with the tables of the owner. -/
theorem receive_linked (h : Hears s c) (hf : f.fromStation = true) {o : Image → Arrival → State → State}
    (hl : (o c (s.arrival c f) (s.heardFrame c f)).mu.membership = .linked) :
    (receive f o s).mu.membership = .linked ∧
      (receive f o s).tables = (o c (s.arrival c f) (s.heardFrame c f)).tables := by
  rw [receive_hears h hf]
  exact ⟨by rw [settle_membership, followUp_membership _ _ _ _ hl], by rw [settle_tables, followUp_tables _ _ _ _ hl]⟩

end

/-- A frame that returns shares to a LINKED station's table, whatever set it settles at its sender. -/
theorem returnFrame {s : State} {c : Image} {f : Frame} {sh : List Share} {q : Nat} (h : TakesFrom s c f.sender)
    (hs : s.sa.shares = some sh) (hq : s.sa.curtail = some q) {n : Nat} (hlen : f.atLeast n = true) (set : List Nat)
    (p : Nat → Share → Bool) :
    let t := receive f (fun _ a t =>
      if f.atLeast n then
        let t1 := t.settleOutgoing a set
        if t1.takesFrom f.sender then t1.returnWhere p else t1
      else t) s
    t.mu.membership = .linked ∧ Redistributed q p sh s.sa.claims t := by
  have hf : f.fromStation = true := by
    have := isTank_iff.mp h.2.2.1
    simp [Frame.fromStation]; omega
  have ho := settleOutgoing_eq (s.heardFrame c f) (s.arrival c f) set
  have hr := receive_linked h.1 hf (o := fun _ a t =>
      if f.atLeast n then
        let t1 := t.settleOutgoing a set
        if t1.takesFrom f.sender then t1.returnWhere p else t1
      else t)
  simp only [hlen, if_true, settleOutgoing_takesFrom, heardFrame_takesFrom, takesFrom_of h] at hr ⊢
  have hm := membership_of_member (returnWhere_member ((s.heardFrame c f).settleOutgoing (s.arrival c f) set) p)
  obtain ⟨h1, h2⟩ := hr (by rw [hm]; simpa using h.2.1)
  refine ⟨h1, Redistributed.of_tables ?_ h2⟩
  obtain ⟨o, ho⟩ := ho
  rw [ho]
  have := redistributed_returnWhere (s := (s.heardFrame c f).mapSa fun x => { x with outgoing := o }) (sh := sh) (q := q)
    (by simpa using hs) (by simpa using hq) p
  simpa using this

/-- Settles O36: the two returns run R8's one operation, and the WITHDRAW is R6's. -/
theorem returnFrames : Obligations.ReturnFrames := by
  intro s c b sh q h hs hq
  refine ⟨fun hlen => ⟨_, rfl, ?_⟩, fun hlen => ⟨_, rfl, ?_⟩, _, rfl, ?_⟩
  · exact returnFrame (f := bodyFrame b 2 0) h hs hq (n := 1) (atLeast_of hlen) _ _
  · obtain ⟨h1, h2⟩ := returnFrame (f := bodyFrame b 2 1) h hs hq (n := 8)
      (atLeast_of hlen) (sharesOf b.payload)
      (fun i x => (sharesOf b.payload).contains i && decide (x = .held b.sender.toNat))
    exact ⟨h1, h2.of_eq fun i x => by simp⟩
  · have hr := receive_linked h.1 (fromStation_of_tank (cls := 2) (sub := 2) h.2.2.1)
      (o := fun _ _ t => if t.takesFrom b.sender.toNat then t.dropClaim b.sender.toNat else t)
    simp only [heardFrame_takesFrom, takesFrom_of h, if_true] at hr
    obtain ⟨h1, h2⟩ := hr (by simpa [State.dropClaim] using h.2.1)
    have hc := claims_of_tables h2
    have hclaims : ((s.heardFrame c (bodyFrame b 2 2)).dropClaim b.sender.toNat).sa.claims =
        removeClaim b.sender.toNat s.sa.claims := by simp [State.dropClaim]
    refine ⟨h1, (shares_of_tables h2).trans (by simpa [State.dropClaim] using hs),
      (curtail_of_tables h2).trans (by simpa [State.dropClaim] using hq), ?_, fun hno => ?_, fun e he => ?_⟩
    · exact (hasClaim_of_claims hc _).trans (by rw [hasClaim_dropClaim]; simp)
    · exact (hc.trans hclaims).trans (removeClaim_of_none (hasClaim_eq_false_iff.mp hno))
    · exact (hc.trans hclaims).trans (removeClaim_of_some he)

end Sys2Proof.Machine

namespace Sys2Proof.Machine

open Sys2Proof

/-! ## Allocation frames that are not taken (R3, R37) -/

@[simp] theorem settleOutgoing_mu (s : State) (a : Arrival) (set : List Nat) : (s.settleOutgoing a set).mu = s.mu := by
  obtain ⟨o, h⟩ := settleOutgoing_eq s a set; rw [h]; rfl

@[simp] theorem lateWithdraw_mu (s : State) (c : Image) (a : Arrival) : (s.lateWithdraw c a).mu = s.mu := by
  unfold State.lateWithdraw
  dsimp only
  (repeat' split) <;> rfl

/-- The station takes allocation frames neither from tank station n nor, as a CURTAIL, from listener n. -/
def Unheeded (s : State) (n : Nat) : Prop :=
  s.takesFrom n = false ∧ (isListener n && decide (s.mu.membership = .linked)) = false

theorem unheeded_of_unlinked {s : State} {n : Nat} (ht : isTank n = true) (hn : s.isLinked n = false) : Unheeded s n := by
  rw [isTank_iff] at ht
  refine ⟨by simp [State.takesFrom, hn], ?_⟩
  simp [isListener]; omega

theorem unheeded_of_off {s : State} (n : Nat)
    (h : s.mu.membership = .listening ∨ s.mu.membership = .fallback ∨ s.mu.membership = .isolated) : Unheeded s n := by
  have hl : s.mu.membership ≠ .linked := by rcases h with h | h | h <;> simp [h]
  simp [Unheeded, State.takesFrom, hl]

/-- What an allocation frame does to the tables and the roster if its owner does not heed it. -/
def LeavesTables (s : State) (c : Image) (n : Nat) (t : State) : Prop :=
  (s.mu.membership = .linked → isTank n = true → s.isLinked n = false →
    t.tables = s.tables ∧ t.mu.membership = .linked ∧
      ∀ n, (∀ l, s.mu.lock = some l → n ≠ l.joiner) ∨ n = c.station → t.entry n = s.entry n) ∧
  (s.mu.membership = .listening ∨ s.mu.membership = .fallback ∨ s.mu.membership = .isolated →
    t.tables = s.tables ∧ t.mu.membership = s.mu.membership)

theorem receive_leavesTables {s : State} {c : Image} {f : Frame} (h : Hears s c) (hf : f.fromStation = true)
    {o : Image → Arrival → State → State}
    (ho : ∀ (a : Arrival) (x : State), Unheeded x f.sender → (o c a x).tables = x.tables ∧ (o c a x).mu = x.mu) :
    LeavesTables s c f.sender (receive f o s) := by
  have hown (hu : Unheeded s f.sender) := ho (s.arrival c f) (s.heardFrame c f) (by
    simpa [Unheeded, heardFrame_takesFrom] using hu)
  refine ⟨fun hl ht hn => ?_, fun hoff => ?_⟩
  · obtain ⟨htab, hmu⟩ := hown (unheeded_of_unlinked ht hn)
    have hul : (o c (s.arrival c f) (s.heardFrame c f)).mu.membership = .linked := by rw [hmu]; simpa using hl
    obtain ⟨h1, h2⟩ := receive_linked h hf hul
    refine ⟨h2.trans (htab.trans (by simp)), h1, fun n hn' => ?_⟩
    rw [receive_hears h hf, entry_of_roster (settle_roster ..),
      followUp_entry _ _ _ _ hul (by rw [hmu, heardFrame_lock]; tauto), entry_of_roster (congrArg MuState.roster hmu),
      heardFrame_entry_of_unlinked c hn]
  · obtain ⟨htab, hmu⟩ := hown (unheeded_of_off _ hoff)
    have hum : (o c (s.arrival c f) (s.heardFrame c f)).mu.membership = s.mu.membership := by rw [hmu]; simp
    rw [receive_hears h hf, followUp_off _ _ _ _ (by rwa [hum])]
    exact ⟨(settle_tables ..).trans (htab.trans (by simp)), (settle_membership ..).trans hum⟩

/-- Settles O40: an owner that does not heed its frame leaves the tables and the roster. -/
theorem unheededAllocationFrames : Obligations.UnheededAllocationFrames := by
  intro s c k b i hi h h0 h63
  have hf : ∀ cls sub, (bodyFrame b cls sub).fromStation = true := fun _ _ => fromStation_of_ne h0 h63
  simp only [allocationCommands, List.mem_cons, List.not_mem_nil, or_false] at hi
  have key : ∃ t, exec i s = .next t ∧ LeavesTables s c b.sender.toNat t := by
    rcases hi with rfl | rfl | rfl | rfl | rfl | rfl | rfl | rfl | rfl <;>
      refine ⟨_, rfl, receive_leavesTables h (hf _ _) ?_⟩
    all_goals rintro a x ⟨hu, hc⟩
    case _ => simp [hu]
    case _ => simp [hu]
    case _ => simp only [Bool.and_assoc, hc]; simp
    case _ => dsimp only; split <;> simp [hu]
    case _ => dsimp only; split <;> simp [hu]
    case _ => simp [hu]
    case _ => simp [hu]
    case _ => exact ⟨rfl, rfl⟩
    case _ => exact ⟨rfl, rfl⟩
  obtain ⟨t, ht, h1, h2⟩ := key
  exact ⟨t, ht, h1, h2⟩

/-! ## CURTAIL (R15, R32) -/

theorem curtailRelease_grows (s : State) (c : Image) (q : Nat) : OutgoingGrows c s (s.curtailRelease c q) := by
  unfold State.curtailRelease
  split
  · exact .refl s
  · next l hl =>
    exact releaseShares_grows s c fun j hj => ((mem_keptHoldings s c).mp (List.mem_of_mem_filter hj)).1

/-- Own shares at or above a new level go out (R32). -/
theorem mem_curtailRelease {s : State} {c : Image} {q i : Nat} (hi : i ∈ s.holdings c.station) (hq : q ≤ i) (h64 : i < 64) :
    i ∈ (s.curtailRelease c q).sa.outgoing := by
  by_cases ho : i ∈ s.sa.outgoing
  · exact (curtailRelease_grows s c q).2.1 i h64 ho
  · have hm : i ∈ (s.keptHoldings c).filter fun i => decide (q ≤ i) := by
      rw [List.mem_filter]
      exact ⟨(mem_keptHoldings s c).mpr ⟨hi, ho⟩, by simpa using hq⟩
    unfold State.curtailRelease
    split
    · next hl => rw [hl] at hm; cases hm
    · exact mem_unionBelow.mpr ⟨h64, .inr hm⟩

theorem Recurtailed.length {q : Nat} {sh : List Share} {cl : List Claim} {t : State} (h : Recurtailed q sh cl t) :
    ∃ sh', t.sa.shares = some sh' ∧ sh'.length = sh.length := by
  obtain ⟨-, moved, hlen, -, hfree, hnone⟩ := h
  by_cases hex : ∃ i : Nat, sh[i]? = some .withheld ∧ i < q
  · exact ⟨_, (hfree hex).1, by simp [hlen]⟩
  · exact ⟨_, (hnone hex).1, hlen⟩

/-- A holding is an index of the share table. -/
theorem lt_of_mem_holdings {s : State} {sh : List Share} (h : s.sa.shares = some sh) {n i : Nat} (hi : i ∈ s.holdings n) :
    i < sh.length := by
  rw [holdings_of_shares h, mem_heldBy] at hi
  exact (List.getElem?_eq_some_iff.mp hi).1

/-- Settles O35: the level's effect is `takeCurtail`, and own shares above it go out and stay out. -/
theorem curtailFrame : Obligations.CurtailFrame := by
  intro s c b sh h hl h0 h63 hlen hs h64
  have hf : (bodyFrame b 1 2).fromStation = true := fromStation_of_ne h0 h63
  let x := s.heardFrame c (bodyFrame b 1 2)
  let q := numAt b.payload 0
  let o : Image → Arrival → State → State := fun c _ t =>
    if (bodyFrame b 1 2).atLeast 1 && isListener b.sender.toNat && decide (t.mu.membership = .linked) then
      t.takeCurtailFrame c q else t
  have howner : ∀ a, o c a x = if isListener b.sender.toNat then x.takeCurtailFrame c q else x := by
    intro a
    have : x.mu.membership = .linked := by simpa [x] using hl
    simp only [o, atLeast_of hlen, this, decide_true, Bool.and_true, Bool.true_and]
  have hul : ∀ a, (o c a x).mu.membership = .linked := by
    intro a
    rw [howner a]
    split
    · rw [membership_of_member (takeCurtailFrame_member x c q)]; simpa [x] using hl
    · simpa [x] using hl
  obtain ⟨h1, h2⟩ := receive_linked h hf (o := o) (hul (s.arrival c (bodyFrame b 1 2)))
  refine ⟨receive (bodyFrame b 1 2) o s, rfl, h1, fun hno => ?_, fun hli hq => ?_⟩
  · rw [h2]
    show (o c (s.arrival c (bodyFrame b 1 2)) x).tables = _
    rw [howner (s.arrival c (bodyFrame b 1 2))]
    have hx : x.tables = s.tables := by simp [x]
    split
    · next hli =>
      rcases hno with ht | hp
      · rw [isTank_iff] at ht; rw [isListener_iff] at hli; omega
      · rw [State.takeCurtailFrame, if_neg (by simp only [q]; omega), hx]
    · exact hx
  · have hu : o c (s.arrival c (bodyFrame b 1 2)) x = (x.takeCurtail c q).curtailRelease c q := by
      rw [howner (s.arrival c (bodyFrame b 1 2)), if_pos hli, State.takeCurtailFrame, if_pos hq]
    have hrec : Recurtailed q sh s.sa.claims (x.takeCurtail c q) := by
      simpa [x] using recurtailed_takeCurtail (s := x) hq (by simpa [x] using hs)
    have hrect : Recurtailed q sh s.sa.claims (receive (bodyFrame b 1 2) o s) :=
      hrec.of_tables (h2.trans ((congrArg State.tables hu).trans (curtailRelease_tables ..)))
    refine ⟨hrect.1, fun i hi hqi => ?_, hrect.2⟩
    obtain ⟨sh', hsh', hlen'⟩ := hrec.length
    have hgrow := curtailRelease_grows (x.takeCurtail c q) c q
    have hul := hul (s.arrival c (bodyFrame b 1 2))
    have hend : OutgoingGrows c ((x.takeCurtail c q).curtailRelease c q) (receive (bodyFrame b 1 2) o s) := by
      rw [receive_hears h hf, ← hu]
      exact (followUp_grows c hul _ _ _).trans (settle_grows _ c s)
    have hown : i ∈ (x.takeCurtail c q).holdings c.station := by
      rwa [holdings_of_shares_eq (hend.1.trans hgrow.1)] at hi
    have hi64 : i < 64 := by have := lt_of_mem_holdings hsh' hown; omega
    exact hend.2.1 i hi64 (mem_curtailRelease hown hqi hi64)

end Sys2Proof.Machine

namespace Sys2Proof.Machine

open Sys2Proof

/-! ## Off the tables (R23, R59 to R61) -/

/-- What leaving the shared tables brings about, before the end of the command shuts the valve. -/
def LeftTables (u : State) : Prop :=
  u.sa = SaState.reset ∧ u.mu.roster = none ∧ u.mu.lock = none ∧ u.ts.drain = .idle ∧ u.ac.activity = .active

theorem LeftTables.settle {u : State} (h : LeftTables u) (hm : u.mu.membership ≠ .linked) (c : Image) (b : State) :
    OffTheTables (settle c b u) := by
  obtain ⟨h1, h2, h3, h4, h5⟩ := h
  exact offTheTables_settle hm h1 h2 h3 h4 h5

theorem emptySlots_eq (s : State) (c : Image) (ids : List SlotId) : ∃ l, s.emptySlots c ids = { s with lc := l } := by
  unfold State.emptySlots
  induction ids generalizing s with
  | nil => exact ⟨s.lc, rfl⟩
  | cons id ids ih =>
    obtain ⟨l, h⟩ := ih (s.emptySlot c id)
    exact ⟨l, h⟩

theorem rewriteNotices_eq (s old : State) : ∃ l, s.rewriteNotices old = { s with lc := l } := by
  unfold State.rewriteNotices
  generalize noticeSlots = ids
  induction ids generalizing s with
  | nil => exact ⟨s.lc, rfl⟩
  | cons id ids ih =>
    rw [List.foldl_cons]
    split
    · exact ih s
    · next x _ =>
      obtain ⟨l, h⟩ := ih (s.writeSlot id x)
      exact ⟨l, h⟩

theorem leaveTables_leftTables (s : State) : LeftTables s.leaveTables := ⟨rfl, rfl, rfl, rfl, rfl⟩

theorem leaveTables_rs (s : State) : s.leaveTables.rs = s.rs := by
  have hc : ∀ (x : State) (id : SlotId), (x.cancelSlot id).rs = x.rs := fun _ _ => rfl
  have hv : s.stopDrain.voidShares.rs = s.rs := by
    unfold State.voidShares
    simp only [hc]
    rfl
  exact hv

/-- Beside leaving the tables, entry to ISOLATED changes slots, the alert table, the membership and the quiet timer (R60). -/
theorem enterIsolated_eq (s : State) (c : Image) : ∃ l r m, s.enterIsolated c =
    { s.leaveTables with lc := l, ru := r, mu := { s.leaveTables.mu with membership := .isolated, quiet := m } } := by
  unfold State.enterIsolated
  generalize s.leaveTables = x
  obtain ⟨l, h⟩ := emptySlots_eq x c isolatedSlots
  rw [h]
  exact ⟨_, _, _, rfl⟩

theorem enterIsolated_leftTables (s : State) (c : Image) : LeftTables (s.enterIsolated c) := by
  obtain ⟨l, r, m, h⟩ := enterIsolated_eq s c
  have := leaveTables_leftTables s
  rw [h]
  exact this

theorem enterIsolated_membership (s : State) (c : Image) : (s.enterIsolated c).mu.membership = .isolated := by
  obtain ⟨l, r, m, h⟩ := enterIsolated_eq s c
  rw [h]

theorem enterIsolated_rs (s : State) (c : Image) : (s.enterIsolated c).rs = s.rs := by
  obtain ⟨l, r, m, h⟩ := enterIsolated_eq s c
  rw [h]
  exact leaveTables_rs s

/-- A flag that isolates stays latched. -/
theorem isolateFor_latched (s : State) (c : Image) (f : Flag) : inSet (s.isolateFor c f).rs.latched f = true := by
  unfold State.isolateFor
  rw [enterIsolated_rs, latch_latched]
  simp

/-! ## TABLE segment 0 (R22, R50) -/

theorem entryOfByte_state (b : Byte) : (entryOfByte b).state = entryStateOf (b.toNat / 64) := by
  unfold entryOfByte
  dsimp only
  split
  · next h => exact h.symm
  · rfl

/-- A loaded entry that is not LINKED bears no dormant mark (R36). -/
theorem entryOfByte_dormant (b : Byte) (h : (entryOfByte b).state ≠ .linked) : (entryOfByte b).dormant = false := by
  rw [entryOfByte_state] at h
  unfold entryOfByte
  dsimp only
  split
  · rfl
  · simp [h]

theorem enterLoading_entry (s : State) (l : List Byte) {n : Nat} (h : n ≠ 0) :
    (s.enterLoading l).entry n = (rosterOfBytes l).getD (n - 1) .blank := by
  simp [State.entry, State.enterLoading, h]

theorem enterLoading_dormant (s : State) (l : List Byte) (n : Nat) (h : (s.enterLoading l).isLinked n = false) :
    ((s.enterLoading l).entry n).dormant = false := by
  by_cases hn : n = 0
  · subst hn; rfl
  · have he := enterLoading_entry s l hn
    have hs : ((s.enterLoading l).entry n).state ≠ .linked := by simpa [State.isLinked] using h
    rw [he] at hs ⊢
    rw [List.getD_eq_getElem?_getD] at hs ⊢
    cases hb : (rosterOfBytes l)[n - 1]? with
    | none => rfl
    | some e =>
      rw [hb] at hs
      obtain ⟨b, -, rfl⟩ := List.mem_map.mp (List.mem_of_getElem? hb)
      exact entryOfByte_dormant b hs

theorem hearEntry_dormant {s : State} (c : Image) {n : Nat} (h : s.isLinked n = false → (s.entry n).dormant = false) :
    ((s.hearEntry c n).entry n).dormant = false := by
  unfold State.hearEntry
  split
  · next hl => rw [entry_mapEntry_of_state (by rw [isLinked_iff.mp hl]; simp)]
  · next hl => exact h (by simpa using hl)

theorem hearEntry_entry_other (s : State) (c : Image) {n m : Nat} (h : m ≠ n) : (s.hearEntry c n).entry m = s.entry m := by
  unfold State.hearEntry
  split
  · exact entry_mapEntry_other _ _ h
  · rfl

theorem hearEntry_eq (s : State) (c : Image) (n : Nat) :
    ∃ r, s.hearEntry c n = s.mapMu fun m => { m with roster := r } := by
  unfold State.hearEntry
  split
  · exact ⟨_, rfl⟩
  · exact ⟨s.mu.roster, rfl⟩

/-- After a TABLE nothing follows the owner but at a LINKED station. -/
theorem execTable_eq {s : State} {c : Image} {segment : BitVec 2} {b : FrameBody} (h : Hears s c) (h0 : b.sender.toNat ≠ 0)
    (h63 : b.sender.toNat ≠ 63) : exec (.table segment b) s =
      .next (settle c s (((s.heardFrame c (bodyFrame b 0 segment.toNat)).takeTable c
        (s.arrival c (bodyFrame b 0 segment.toNat)) segment.toNat (bodyFrame b 0 segment.toNat)).followUp c
          (s.arrival c (bodyFrame b 0 segment.toNat)) (bodyFrame b 0 segment.toNat)
          (s.concluded c (bodyFrame b 0 segment.toNat)))) :=
  congrArg Host.Outcome.next (receive_hears h (fromStation_of_ne h0 h63)
    fun c a t => t.takeTable c a segment.toNat (bodyFrame b 0 segment.toNat))

/-- Settles O29: an unfit segment, an equal P and another P, each as `takeSegment0` has it. -/
theorem segmentZero : Obligations.SegmentZero := by
  intro s c b h hj ha h0 h63
  let f := bodyFrame b 0 0
  let x := s.heardFrame c f
  have hxj : x.mu.membership = .joining := by simpa [x] using hj
  have htake : x.takeTable c (s.arrival c f) 0 f = x.takeSegment0 c f := by
    unfold State.takeTable
    rw [hxj]
    exact if_pos ⟨ha, rfl⟩
  have hrun : (x.takeSegment0 c f).mu.membership ≠ .linked →
      exec (.table 0 b) s = .next (settle c s (x.takeSegment0 c f)) := fun hne => by
    rw [execTable_eq h h0 h63]
    show Host.Outcome.next (settle c s ((x.takeTable c (s.arrival c f) 0 f).followUp c _ f _)) = _
    rw [htake, followUp_unlinked c _ f _ hne rfl]
  by_cases hlen : b.payload.length = 50
  · have hfit : unfitSegment c.pool 0 f.payload = false := by simp [unfitSegment, f, bodyFrame, hlen]
    by_cases hp : numAt b.payload 0 = c.pool
    · have hu : x.takeSegment0 c f = (x.enterLoading b.payload).hearEntry c b.sender.toNat := by
        unfold State.takeSegment0
        rw [hfit, if_neg (by simp)]
        exact if_pos hp
      obtain ⟨r, hr⟩ := hearEntry_eq (x.enterLoading b.payload) c b.sender.toNat
      have hm : (x.takeSegment0 c f).mu.membership = .loading := by rw [hu, hr]; rfl
      refine ⟨_, hrun (by simp [hm]), fun _ _ => ?_, fun _ hne => absurd hp hne, fun hne => absurd hlen hne⟩
      have hentry := fun n => entry_of_roster (settle_roster c s (x.takeSegment0 c f)) n
      refine ⟨(settle_membership ..).trans hm, ?_, ?_, ?_, ?_, fun n hn hns => ?_, ?_⟩
      · rw [settle_nextSegment, hu, hr]; rfl
      · rw [settle_curtail, hu, hr]; rfl
      · rw [settle_shares, hu, hr]; rfl
      · rw [settle_claims, hu, hr]; rfl
      · rw [hentry, hu, hearEntry_entry_other _ c hns, enterLoading_entry x _ hn]
      · rw [hentry, hu]
        exact hearEntry_dormant c (enterLoading_dormant x _ _)
    · have hu : x.takeSegment0 c f = x.isolateFor c .configMismatch := by
        unfold State.takeSegment0
        rw [hfit, if_neg (by simp)]
        exact if_neg hp
      have hm : (x.takeSegment0 c f).mu.membership = .isolated := by rw [hu]; exact enterIsolated_membership _ c
      refine ⟨_, hrun (by simp [hm]), fun _ he => absurd he hp, fun _ _ => ?_, fun hne => absurd hlen hne⟩
      refine ⟨(settle_membership ..).trans hm, LeftTables.settle ?_ (by simp [hm]) c s, ?_⟩
      · rw [hu]; exact enterIsolated_leftTables _ c
      · rw [settle_latched, hu, isolateFor_latched]; rfl
  · have hu : x.takeSegment0 c f = x := by
      unfold State.takeSegment0
      exact if_pos (by simp [unfitSegment, f, bodyFrame, hlen])
    refine ⟨_, hrun (by simp [hu, hxj]), fun he => absurd he hlen, fun he => absurd he hlen, fun _ => ?_⟩
    rw [settle_membership, settle_tables, hu]
    exact ⟨hxj, by simp [x]⟩

end Sys2Proof.Machine

namespace Sys2Proof.Machine

open Sys2Proof

/-! ## The order of the claim list (R5, R7) -/

/-- The list stands in falling roster urgency, and in rising rank among equals. -/
def ClaimsOrdered (urgency : Nat → Nat) (l : List Claim) : Prop :=
  l.Pairwise fun x y => urgency y.claimant < urgency x.claimant ∨
    (urgency x.claimant = urgency y.claimant ∧ x.rank ≤ y.rank)

theorem ClaimsOrdered.insertClaim {u : Nat → Nat} {l : List Claim} (h : ClaimsOrdered u l) (e : Claim) :
    ClaimsOrdered u (insertClaim u e l) := by
  induction l with
  | nil => exact List.pairwise_singleton _ _
  | cons x l ih =>
    obtain ⟨hx, hl⟩ := List.pairwise_cons.mp h
    unfold Machine.insertClaim
    split
    · next hb =>
      simp only [claimBefore, Bool.or_eq_true, Bool.and_eq_true, decide_eq_true_eq] at hb
      refine List.pairwise_cons.mpr ⟨fun y hy => ?_, h⟩
      rcases List.mem_cons.mp hy with rfl | hy
      · omega
      · have := hx y hy; omega
    · next hb =>
      simp only [claimBefore, Bool.or_eq_true, Bool.and_eq_true, decide_eq_true_eq] at hb
      refine List.pairwise_cons.mpr ⟨fun y hy => ?_, ih hl⟩
      rcases List.mem_cons.mp ((insertClaim_perm u e l).mem_iff.mp hy) with rfl | hy
      · omega
      · exact hx y hy

theorem claimsOrdered_orderClaims (u : Nat → Nat) (l : List Claim) : ClaimsOrdered u (orderClaims u l) := by
  induction l with
  | nil => exact List.Pairwise.nil
  | cons e l ih => exact ih.insertClaim e

theorem ClaimsOrdered.setRemaining {u : Nat → Nat} {l : List Claim} (h : ClaimsOrdered u l) (n count : Nat) :
    ClaimsOrdered u (setRemaining n count l) := by
  refine List.pairwise_map.mpr (h.imp fun {x y} hxy => ?_)
  split <;> split <;> exact hxy

/-! ## An accepted CLAIM (R10, R11) -/

section
variable (s : State) (n urgency field count : Nat)

theorem claimShares_mu : (s.claimShares n count).mu = s.mu := by
  unfold State.claimShares
  dsimp only
  (repeat' split) <;> rfl

theorem claimShares_lc : (s.claimShares n count).lc = s.lc := by
  unfold State.claimShares
  dsimp only
  (repeat' split) <;> rfl

theorem claimShares_curtail : (s.claimShares n count).sa.curtail = s.sa.curtail := by
  unfold State.claimShares
  dsimp only
  (repeat' split) <;> rfl

theorem claimShares_of_claim {s : State} {n : Nat} (h : s.hasClaim n = true) (count : Nat) :
    s.claimShares n count = s.mapSa fun a => { a with claims := setRemaining n count a.claims } := if_pos h

/-- Without an entry the claimant takes FREE shares, and what is wanting becomes its entry (R11). -/
theorem claimShares_of_free {s : State} {n : Nat} {sh : List Share} (h : s.hasClaim n = false) (hs : s.sa.shares = some sh)
    (count : Nat) : (s.claimShares n count).sa.shares = some (takeFree n count sh).1 ∧
      (s.claimShares n count).sa.claims = if (takeFree n count sh).2 = 0 then s.sa.claims else
        insertClaim s.rosterUrgency
          { claimant := n, remaining := (takeFree n count sh).2, rank := s.sa.claims.length + 1 } s.sa.claims := by
  unfold State.claimShares
  rw [h, if_neg (by simp), hs]
  dsimp only
  split <;> exact ⟨rfl, rfl⟩

theorem claimShares_ordered (h : ClaimsOrdered s.rosterUrgency s.sa.claims) :
    ClaimsOrdered s.rosterUrgency (s.claimShares n count).sa.claims := by
  cases hc : s.hasClaim n with
  | true => rw [claimShares_of_claim hc]; exact h.setRemaining n count
  | false =>
    cases hs : s.sa.shares with
    | none => unfold State.claimShares; rw [hc, hs]; exact h
    | some sh =>
      rw [(claimShares_of_free hc hs count).2]
      split
      · exact h
      · exact h.insertClaim _

theorem setUrgency_claims_perm : (s.setUrgency n urgency).sa.claims.Perm s.sa.claims := orderClaims_perm _ _

theorem hasClaim_setUrgency (m : Nat) : (s.setUrgency n urgency).hasClaim m = s.hasClaim m := by
  rw [Bool.eq_iff_iff, hasClaim_iff, hasClaim_iff]
  exact ((setUrgency_claims_perm s n urgency).map Claim.claimant).mem_iff

theorem setUrgency_ordered : ClaimsOrdered (s.setUrgency n urgency).rosterUrgency (s.setUrgency n urgency).sa.claims :=
  claimsOrdered_orderClaims _ _

/-- A CLAIM is a change of urgency, and a claim for shares if its clipped count is not 0 (R10). -/
theorem takeClaim_eq : s.takeClaim n urgency field =
    if s.clippedCount n field = 0 then s.setUrgency n urgency
    else (s.setUrgency n urgency).claimShares n (s.clippedCount n field) := rfl

theorem takeClaim_mu :
    (s.takeClaim n urgency field).mu = (s.mapEntry n fun e => { e with urgency := urgency }).mu := by
  rw [takeClaim_eq]
  split
  · rfl
  · rw [claimShares_mu]; rfl

theorem takeClaim_lc : (s.takeClaim n urgency field).lc = s.lc := by
  rw [takeClaim_eq]
  split
  · rfl
  · rw [claimShares_lc]; rfl

theorem takeClaim_curtail : (s.takeClaim n urgency field).sa.curtail = s.sa.curtail := by
  rw [takeClaim_eq]
  split
  · rfl
  · rw [claimShares_curtail]; rfl

theorem takeClaim_ordered :
    ClaimsOrdered (s.takeClaim n urgency field).rosterUrgency (s.takeClaim n urgency field).sa.claims := by
  have hr : (s.takeClaim n urgency field).rosterUrgency = (s.setUrgency n urgency).rosterUrgency := by
    funext m
    exact congrArg RosterEntry.urgency (entry_of_roster (congrArg MuState.roster (takeClaim_mu s n urgency field)) m)
  rw [hr, takeClaim_eq]
  split
  · exact setUrgency_ordered s n urgency
  · exact claimShares_ordered _ n _ (setUrgency_ordered s n urgency)

end

/-- What a CLAIM's clipped count does to the share table and the claim list (R11). -/
def TakesShares (n count : Nat) (sh : List Share) (cl : List Claim) (has : Bool) (t : State) : Prop :=
  (count = 0 → t.sa.shares = some sh ∧ t.sa.claims.Perm cl) ∧
  (0 < count → has = true → t.sa.shares = some sh ∧ t.sa.claims.Perm (setRemaining n count cl)) ∧
  (0 < count → has = false →
    (∃ sh' : List Share, t.sa.shares = some sh' ∧ sh'.length = sh.length ∧
      ∀ (i : Nat) (x : Share), sh[i]? = some x →
        sh'[i]? = some (if x = .free ∧ (sh.take i).count Share.free < count then Share.held n else x)) ∧
    (count ≤ sh.count Share.free → t.sa.claims.Perm cl) ∧
    (sh.count Share.free < count → t.sa.claims.Perm
      ({ claimant := n, remaining := count - sh.count Share.free, rank := cl.length + 1 } :: cl)))

theorem takeClaim_takesShares {s : State} {sh : List Share} (hs : s.sa.shares = some sh) (n urgency field : Nat) :
    TakesShares n (s.clippedCount n field) sh s.sa.claims (s.hasClaim n) (s.takeClaim n urgency field) := by
  have hp := setUrgency_claims_perm s n urgency
  have hsu : (s.setUrgency n urgency).sa.shares = some sh := hs
  rw [takeClaim_eq]
  refine ⟨fun h0 => ?_, fun hpos hc => ?_, fun hpos hc => ?_⟩
  · rw [if_pos h0]
    exact ⟨hsu, hp⟩
  · rw [if_neg (by omega), claimShares_of_claim ((hasClaim_setUrgency s n urgency n).trans hc)]
    exact ⟨hsu, hp.map _⟩
  · obtain ⟨h1, h2⟩ := claimShares_of_free ((hasClaim_setUrgency s n urgency n).trans hc) hsu (s.clippedCount n field)
    rw [if_neg (by omega), h1, h2, takeFree_wanting, hp.length_eq]
    refine ⟨⟨_, rfl, takeFree_length .., takeFree_getElem? n _ sh⟩, fun hle => ?_, fun hlt => ?_⟩
    · rw [if_pos (by omega)]; exact hp
    · rw [if_neg (by omega)]
      exact (insertClaim_perm ..).trans (hp.cons _)

theorem TakesShares.of_tables {n count : Nat} {sh : List Share} {cl : List Claim} {has : Bool} {t u : State}
    (h : TakesShares n count sh cl has t) (hu : u.tables = t.tables) : TakesShares n count sh cl has u := by
  unfold TakesShares
  rw [shares_of_tables hu, claims_of_tables hu]
  exact h

/-! ## CLAIM at its owner -/

theorem lateWithdraw_slot (s : State) (c : Image) (a : Arrival) {id : SlotId} (h : id ≠ .withdraw) :
    (s.lateWithdraw c a).slot id = s.slot id := by
  unfold State.lateWithdraw
  dsimp only
  repeat' split
  · exact writeSlot_slot_other _ h.symm _
  · rfl
  · rfl

theorem lateWithdraw_idle (s : State) (c : Image) (a : Arrival) : (s.lateWithdraw c a).lc.idle = s.lc.idle := by
  unfold State.lateWithdraw
  dsimp only
  (repeat' split) <;> rfl

theorem slot_of_lc {s t : State} (h : t.lc = s.lc) (id : SlotId) : t.slot id = s.slot id := by
  unfold State.slot; rw [h]

/-- The acceptance of an own CLAIM starts the claim spacing (R184). -/
theorem concluded_line_claim {s : State} {c : Image} {f : Frame} (h : OwnFrom s c f .claim) :
    (s.concluded c f).line = (0, some 250, s.lc.following) := by
  unfold State.concluded
  rw [arrival_own h]
  rfl

/-- A tank station's frame at a LINKED station prunes its sender from a PENDING ABSENT set (R54). -/
theorem heardFrame_pruned {s : State} (c : Image) {f : Frame} (h : isTank f.sender = true) :
    PrunedFrom .absent [f.sender] (s.slot .absent) ((s.heardFrame c f).slot .absent) := by
  intro set hset
  rw [heardFrame_slot_absent _ _ _ h, concluded_slot_of_pending c f hset]
  exact prunedFrom_absent _ _ set hset

/-- Settles O37: `takeClaim` between the hearing and the end of the command. -/
theorem claimFrame : Obligations.ClaimFrame := by
  intro s c sub b sh r h hlock hs hlen hr h48 n count
  let f := bodyFrame b 3 sub.toNat
  let x := s.heardFrame c f
  let y := x.takeClaim n (7 - sub.toNat) (numAt b.payload 0)
  let u := y.lateWithdraw c (s.arrival c f)
  have hf : f.fromStation = true := fromStation_of_tank h.2.2.1
  have hxtab : x.tables = s.tables := by simp [x]
  have hxs : x.sa.shares = some sh := by simpa [x] using hs
  have hcount : x.clippedCount n (numAt b.payload 0) = count := by
    unfold State.clippedCount
    rw [holdings_of_tables hxtab]
    rfl
  have hrun : exec (.claim sub b) s = .next (settle c s (u.followUp c (s.arrival c f) f (s.concluded c f))) := by
    have ht : (f.atLeast 1 && x.takesFrom f.sender) = true := by
      rw [heardFrame_takesFrom, atLeast_of hlen]
      exact takesFrom_of h
    show Host.Outcome.next (receive f _ s) = _
    rw [receive_hears h.1 hf]
    exact congrArg (fun z => Host.Outcome.next (settle c s ((State.lateWithdraw z c _).followUp c _ f _))) (if_pos ht)
  have humu : u.mu = y.mu := lateWithdraw_mu _ _ _
  have hul : u.mu.membership = .linked := by
    rw [humu, takeClaim_mu]
    exact (heardFrame_membership s c f).trans h.2.1
  have hulock : u.mu.lock = none := by
    rw [humu, takeClaim_mu]
    exact (heardFrame_lock s c f).trans hlock
  have hroster : (settle c s (u.followUp c (s.arrival c f) f (s.concluded c f))).mu.roster = y.mu.roster := by
    rw [settle_roster, (followUp_roster c _ f _ hul (.inl hulock)).1, humu]
  have hentry := entry_of_roster hroster
  have htables : (settle c s (u.followUp c (s.arrival c f) f (s.concluded c f))).tables = y.tables := by
    rw [settle_tables, followUp_tables _ _ _ _ hul, lateWithdraw_tables]
  have hyentry : ∀ m, y.entry m = (x.mapEntry n fun e => { e with urgency := 7 - sub.toNat }).entry m :=
    entry_of_roster (congrArg MuState.roster (takeClaim_mu x n _ _))
  have hshares := (takeClaim_takesShares hxs n (7 - sub.toNat) (numAt b.payload 0)).of_tables htables
  rw [hcount, claims_of_tables hxtab, hasClaim_of_claims (claims_of_tables hxtab)] at hshares
  obtain ⟨hzero, hhas, hnew⟩ := hshares
  refine ⟨_, hrun, ?_, ?_, fun m hm => ?_, ?_, fun hown => ?_, ?_, ?_, hzero, hhas, hnew⟩
  · rw [settle_membership, followUp_membership _ _ _ _ hul]
  · have h1 : 1 ≤ n ∧ n ≤ 48 := isTank_iff.mp h.2.2.1
    obtain ⟨r', hr', hrlen⟩ := heardFrame_roster_some c f hr
    unfold State.rosterUrgency
    rw [hentry, hyentry, entry_mapEntry_same hr' h1.1 (by omega)]
  · rw [hentry, hyentry, entry_mapEntry_other _ _ hm]
    exact heardFrame_entry_other s c f hm
  · have hslot : (settle c s (u.followUp c (s.arrival c f) f (s.concluded c f))).slot .absent = x.slot .absent := by
      have hidle : (u.followUp c (s.arrival c f) f (s.concluded c f)).lc.idle = false := by
        rw [followUp_idle _ _ _ _ hul, lateWithdraw_idle, takeClaim_lc]
        exact heardFrame_idle s c f
      rw [settle_slot c .absent _ _ hidle (by decide), followUp_slot _ _ _ _ hul (by decide) (by decide) (.inl (by decide)),
        lateWithdraw_slot _ _ _ (by decide), slot_of_lc (takeClaim_lc ..)]
    rw [hslot]
    exact heardFrame_pruned c (f := f) h.2.2.1
  · have hline : (settle c s (u.followUp c (s.arrival c f) f (s.concluded c f))).line = (s.concluded c f).line := by
      unfold State.followUp
      rw [settle_line, afterFrame_line, ownerDone_line, lateWithdraw_line, takeClaim_line]
      exact hear_line ..
    rw [concluded_line_claim hown] at hline
    exact ⟨congrArg (fun p => p.2.1) hline, congrArg Prod.fst hline⟩
  · rw [curtail_of_tables htables, takeClaim_curtail]
    exact curtail_of_tables hxtab
  · have hu : (settle c s (u.followUp c (s.arrival c f) f (s.concluded c f))).rosterUrgency = y.rosterUrgency :=
      funext fun m => congrArg RosterEntry.urgency (hentry m)
    rw [hu, claims_of_tables htables]
    exact takeClaim_ordered x n _ _

end Sys2Proof.Machine

namespace Sys2Proof.Machine

open Sys2Proof

/-! ## The entry to FALLBACK (R59) -/

/-- Beside leaving the tables, entry to FALLBACK changes slots, the alert table, the queue, the membership and the quiet
timer (R59). -/
theorem enterFallback_eq (s : State) (c : Image) : ∃ l r, s.enterFallback c =
    { (s.latch c .lineLost).leaveTables with
      lc := l, ru := r, rs := { (s.latch c .lineLost).rs with queue := [], serving := false }
      mu := { (s.latch c .lineLost).leaveTables.mu with membership := .fallback, quiet := some (1000 * c.travel) } } := by
  have hrs := leaveTables_rs (s.latch c .lineLost)
  have ha : ∀ x : State, ∃ l, x.rewriteAlert c = { x with lc := l } := by
    intro x; unfold State.rewriteAlert; split <;> exact ⟨_, rfl⟩
  unfold State.enterFallback
  dsimp only
  generalize s.latch c .lineLost = w at hrs ⊢
  unfold State.emptyAll
  generalize w.leaveTables = x at hrs ⊢
  obtain ⟨l, h⟩ := emptySlots_eq x c allSlots
  rw [h, ← hrs]
  obtain ⟨l1, h1⟩ := ha (((({ x with lc := l }.mapLc fun l => { l with tally := 0 }).emptyQueue.voidAlerts).setMembership
    .fallback).mapMu fun m => { m with quiet := some (secondsMs c.travel) })
  rw [h1]
  obtain ⟨l2, h2⟩ := rewriteNotices_eq _ w
  rw [h2]
  exact ⟨_, _, rfl⟩

/-- What a station that has fallen back shows after the command (R59). -/
def FallenBack (c : Image) (t : State) : Prop :=
  t.mu.membership = .fallback ∧ OffTheTables t ∧ inSet t.rs.latched .lineLost = true ∧ t.rs.queue = [] ∧
    t.mu.quiet = some (1000 * c.travel)

theorem settle_enterFallback (s b : State) (c : Image) : FallenBack c (settle c b (s.enterFallback c)) := by
  obtain ⟨l, r, h⟩ := enterFallback_eq s c
  have hleft : LeftTables (s.enterFallback c) := by
    have := leaveTables_leftTables (s.latch c .lineLost)
    rw [h]; exact this
  have hm : (s.enterFallback c).mu.membership = .fallback := by rw [h]
  have hq : (s.enterFallback c).rs.queue = [] ∧ (s.enterFallback c).rs.serving = false := by rw [h]; exact ⟨rfl, rfl⟩
  have hlatched : inSet (s.enterFallback c).rs.latched .lineLost = true := by
    rw [h]
    exact (latch_latched s c .lineLost .lineLost).trans (by simp)
  refine ⟨(settle_membership ..).trans hm, hleft.settle (by simp [hm]) c b, ?_, settle_queue_nil c b _ hq.1 hq.2, ?_⟩
  · rw [settle_latched, hlatched]; rfl
  · rw [settle_quiet, h]

/-! ## The end of a command at a LINKED station -/

section
variable {u : State} (c : Image) (a : Arrival) (f : Frame) (b s : State)

/-- Where no lock stands the roster is the owner's to the end of the command. -/
theorem settled_roster (hl : u.mu.membership = .linked) (h : u.mu.lock = none ∨ f.isAllocation = false) :
    (settle c s (u.followUp c a f b)).mu.roster = u.mu.roster :=
  (settle_roster ..).trans (followUp_roster c a f b hl h).1

theorem settled_tables (hl : u.mu.membership = .linked) : (settle c s (u.followUp c a f b)).tables = u.tables :=
  (settle_tables ..).trans (followUp_tables c a f b hl)

theorem settled_membership (hl : u.mu.membership = .linked) :
    (settle c s (u.followUp c a f b)).mu.membership = .linked :=
  (settle_membership ..).trans (followUp_membership c a f b hl)

/-- The slots that neither the SA's part after a frame nor the end of a command touches. -/
theorem settled_slot (hl : u.mu.membership = .linked) (hi : u.lc.idle = false) {id : SlotId} (h : id ∉ settleSlots)
    (h1 : id ≠ .yield) (h2 : id ≠ .table ∨ f.isAllocation = false) :
    (settle c s (u.followUp c a f b)).slot id = u.slot id := by
  have hr : id ≠ .release := fun e => h (by simp [e, settleSlots])
  rw [settle_slot c id _ _ ((followUp_idle c a f b hl).trans hi) h, followUp_slot c a f b hl h1 hr h2]

end

/-! ## ABSENT (R17, R55) -/

/-- The stations of the list become ABSENT, one after the other. -/
def State.declareAll (s : State) (c : Image) (l : List Nat) : State := l.foldl (fun t n => t.declareAbsent c n) s

/-- A share whose holder is of the list is STRANDED. -/
def strandedOf (l : List Nat) (x : Share) : Share :=
  match x with
  | .held n => if n ∈ l then .stranded n else x
  | _ => x

section
variable (s : State) (c : Image)

/-- A set of stations that becomes ABSENT changes the roster, the shares and the claims, and nothing else. -/
theorem declareAll_eq (l : List Nat) : ∃ r sh cl, s.declareAll c l =
    { s with mu := { s.mu with roster := r }, sa := { s.sa with shares := sh, claims := cl } } := by
  unfold State.declareAll
  induction l generalizing s with
  | nil => exact ⟨_, _, _, rfl⟩
  | cons n l ih =>
    obtain ⟨r, sh, cl, h⟩ := ih (s.declareAbsent c n)
    exact ⟨r, sh, cl, h⟩

theorem declareAll_shares (l : List Nat) :
    (s.declareAll c l).sa.shares = s.sa.shares.map fun sh => sh.map (strandedOf l) := by
  unfold State.declareAll
  induction l generalizing s with
  | nil =>
    have : strandedOf [] = id := funext fun x => by cases x <;> simp [strandedOf]
    cases h : s.sa.shares <;> simp [this, h]
  | cons n l ih =>
    have hstep : strandedOf (n :: l) = strandedOf l ∘ fun x => if x = .held n then .stranded n else x := by
      funext x
      cases x with
      | held m =>
        by_cases hm : m = n
        · simp [strandedOf, hm]
        · simp [strandedOf, hm]
      | _ => simp [strandedOf]
    rw [List.foldl_cons, ih]
    show (s.sa.shares.map fun sh => sh.map fun x => if x = .held n then .stranded n else x).map _ = _
    rw [Option.map_map]
    congr 1
    funext sh
    rw [hstep, Function.comp_apply, List.map_map]

theorem declareAll_hasClaim (l : List Nat) (m : Nat) :
    (s.declareAll c l).hasClaim m = (s.hasClaim m && !decide (m ∈ l)) := by
  unfold State.declareAll
  induction l generalizing s with
  | nil => simp
  | cons n l ih =>
    have hn : (s.declareAbsent c n).hasClaim m = (s.hasClaim m && !decide (m = n)) := hasClaim_dropClaim s n m
    rw [List.foldl_cons, ih, hn, Bool.and_assoc, Bool.eq_iff_iff]
    simp

theorem makeAbsent_makeAbsent (e : RosterEntry) : (e.makeAbsent c).makeAbsent c = e.makeAbsent c := rfl

theorem declareAll_entry {l : List Nat} (h : ∀ n ∈ l, s.entryState n ≠ .none) (m : Nat) :
    (s.declareAll c l).entry m = if m ∈ l then (s.entry m).makeAbsent c else s.entry m := by
  unfold State.declareAll
  induction l generalizing s with
  | nil => simp
  | cons n l ih =>
    have hsame : (s.declareAbsent c n).entry n = (s.entry n).makeAbsent c :=
      entry_mapEntry_of_state (h n (List.mem_cons_self ..)) _
    have hother : ∀ k, k ≠ n → (s.declareAbsent c n).entry k = s.entry k := fun k hk => entry_mapEntry_other s _ hk
    have hl : ∀ k ∈ l, (s.declareAbsent c n).entryState k ≠ .none := by
      intro k hk
      unfold State.entryState
      by_cases hkn : k = n
      · rw [hkn, hsame]; simp [RosterEntry.makeAbsent]
      · rw [hother k hkn]; exact h k (List.mem_cons_of_mem _ hk)
    rw [List.foldl_cons, ih _ hl]
    by_cases hm : m = n
    · subst hm
      rw [hsame, makeAbsent_makeAbsent]
      simp
    · simp [hother m hm, hm]

end

theorem strandedOf_ne_held {l : List Nat} {n : Nat} (hn : n ∈ l) (x : Share) : strandedOf l x ≠ .held n := by
  cases x with
  | held m =>
    unfold strandedOf
    dsimp only
    split
    · simp
    · next hm => exact fun h => hm (Share.held.inj h ▸ hn)
  | _ => simp [strandedOf]

theorem declareAll_holdings (s : State) (c : Image) {l : List Nat} {n : Nat} (hn : n ∈ l) :
    (s.declareAll c l).holdings n = [] := by
  have h := declareAll_shares s c l
  cases hs : s.sa.shares with
  | none => exact holdings_of_void (by rw [h, hs]; rfl) n
  | some sh =>
    rw [holdings_of_shares (h.trans (by rw [hs]; rfl)), List.eq_nil_iff_forall_not_mem]
    intro i hi
    obtain ⟨x, -, hx⟩ := Option.map_eq_some_iff.mp (List.getElem?_map .. ▸ mem_heldBy.mp hi)
    exact strandedOf_ne_held hn x hx

/-- The owner's part of an ABSENT that does not name this station. -/
theorem takeAbsent_of_not_named {s : State} {c : Image} {named : List Nat} (h : c.station ∉ named) :
    s.takeAbsent c named = (s.declareAll c (named.filter s.isLinked)).pruneSlot .absent named := by
  unfold State.takeAbsent
  exact if_neg (by simpa using h)

/-- The slot of a set whose own frame has just been accepted holds its next content. -/
theorem concluded_slot_next {s : State} {c : Image} {f : Frame} {id : SlotId} {x y : Content} {k : Bool}
    (ho : OwnFrom s c f id) (h : (s.slot id).state = .inFlight x (some y) k) :
    (s.concluded c f).slot id = { state := .pending y, backoff := none, busy := 0 } := by
  rw [concluded_slot_own ho]
  unfold Slot.accepted
  rw [h]

/-- What the ABSENT of a LINKED station does if it does not name this one (R17, R54, R55). -/
theorem absent_not_named {s : State} {c : Image} {f : Frame} {named : List Nat} (h : TakesFrom s c f.sender)
    (hlock : s.mu.lock = none) (hnot : c.station ∉ named) :
    let t := settle c s (((s.heardFrame c f).takeAbsent c named).followUp c (s.arrival c f) f (s.concluded c f))
    t.mu.membership = .linked ∧
      (∀ n, n ∈ named → s.isLinked n = true →
        t.entryState n = .absent ∧ (t.entry n).dormant = false ∧ (t.entry n).lastHeard = none ∧
          (t.entry n).stranding = some (1000 * c.stranding) ∧ t.hasClaim n = false ∧ t.holdings n = []) ∧
      (∀ n, n ∉ named → n ≠ f.sender → t.entry n = s.entry n) ∧
      PrunedFrom .absent (f.sender :: named) (s.slot .absent) (t.slot .absent) ∧
      (∀ x set k, OwnFrom s c f .absent → (s.slot .absent).state = .inFlight x (some (.absent set)) k →
        PrunedFrom .absent (f.sender :: named) { state := .pending (.absent set), backoff := none, busy := 0 }
          (t.slot .absent)) ∧
      t.sa.curtail = s.sa.curtail ∧
      t.sa.shares = s.sa.shares.map fun sh => sh.map (strandedOf (named.filter s.isLinked)) := by
  let x := s.heardFrame c f
  let l := named.filter s.isLinked
  let d := x.declareAll c l
  have hlx : named.filter x.isLinked = l := congrArg (named.filter ·) (funext fun n => heardFrame_isLinked s c f n)
  have hu : x.takeAbsent c named = d.pruneSlot .absent named := by rw [takeAbsent_of_not_named hnot, hlx]
  obtain ⟨r, sh, cl, hd'⟩ := declareAll_eq x c l
  have hdl : d.mu.membership = .linked ∧ d.mu.lock = none ∧ d.lc = x.lc ∧ d.sa.curtail = x.sa.curtail := by
    refine ⟨?_, ?_, ?_, ?_⟩ <;> show _ = _ <;> simp only [d, hd']
    · exact (heardFrame_membership s c f).trans h.2.1
    · exact (heardFrame_lock s c f).trans hlock
  obtain ⟨hdm, hdk, hdlc, hdq⟩ := hdl
  show let t := settle c s ((x.takeAbsent c named).followUp c (s.arrival c f) f (s.concluded c f)); _
  rw [hu]
  have hul : (d.pruneSlot .absent named).mu.membership = .linked := hdm
  intro t
  have hroster : t.mu.roster = d.mu.roster := settled_roster c _ f _ s hul (.inl hdk)
  have htables : t.tables = d.tables := settled_tables c _ f _ s hul
  have hslot : t.slot .absent = ((s.concluded c f).slot .absent |>.prune [f.sender]).prune named := by
    have hidle : (d.pruneSlot .absent named).lc.idle = false := by
      rw [pruneSlot_idle, hdlc]; exact heardFrame_idle s c f
    rw [show t.slot .absent = (d.pruneSlot .absent named).slot .absent from
        settled_slot c _ f _ s hul hidle (by decide) (by decide) (.inl (by decide)),
      pruneSlot_slot_same, slot_of_lc hdlc, heardFrame_slot_absent s c f h.2.2.1]
  have hstate : ∀ n ∈ l, x.entryState n ≠ .none := by
    intro n hn
    rw [heardFrame_entryState, isLinked_iff.mp (List.mem_filter.mp hn).2]
    simp
  have hentry : ∀ n, t.entry n = if n ∈ l then (x.entry n).makeAbsent c else x.entry n := fun n =>
    (entry_of_roster hroster n).trans (declareAll_entry x c hstate n)
  have hprune : ∀ set (y : Slot), y.state = .pending (.absent set) → t.slot .absent = (y.prune [f.sender]).prune named →
      PrunedFrom .absent (f.sender :: named) y (t.slot .absent) := by
    intro set y hy he
    rw [he, prune_prune_absent _ _ _ set hy]
    exact prunedFrom_absent _ _
  refine ⟨settled_membership c _ f _ s hul, fun n hn hln => ?_, fun n hn hns => ?_, fun set hset => ?_,
    fun y set k ho hst => ?_, ?_, ?_⟩
  · have hnl : n ∈ l := List.mem_filter.mpr ⟨hn, hln⟩
    unfold State.entryState
    rw [hentry, if_pos hnl]
    refine ⟨rfl, rfl, rfl, rfl, ?_, ?_⟩
    · rw [hasClaim_of_claims (claims_of_tables htables), declareAll_hasClaim]
      simp [hnl]
    · rw [holdings_of_tables htables]
      exact declareAll_holdings x c hnl
  · rw [hentry, if_neg fun hm => hn (List.mem_filter.mp hm).1]
    exact heardFrame_entry_other s c f hns
  · exact hprune set _ hset (hslot.trans (by rw [concluded_slot_of_pending c f hset])) set hset
  · exact hprune set _ rfl (hslot.trans (by rw [concluded_slot_next ho hst]))
  · rw [curtail_of_tables htables, hdq]; exact heardFrame_curtail s c f
  · rw [shares_of_tables htables, declareAll_shares, heardFrame_shares]

/-! ## RECLAIM (R18, R57) -/

/-- The entries of the list become NONE, one after the other. -/
def State.clearAll (s : State) (l : List Nat) : State := l.foldl (fun t n => t.clearEntry n) s

theorem clearAll_eq (s : State) (l : List Nat) : ∃ r, s.clearAll l = s.mapMu fun m => { m with roster := r } := by
  unfold State.clearAll
  induction l generalizing s with
  | nil => exact ⟨s.mu.roster, rfl⟩
  | cons n l ih =>
    obtain ⟨r, h⟩ := ih (s.clearEntry n)
    exact ⟨r, h⟩

theorem entry_clearEntry (s : State) (n m : Nat) :
    (s.clearEntry n).entry m = if m = n then .blank else s.entry m := by
  split
  · next h =>
    subst h
    unfold State.entry State.clearEntry
    rw [mapEntry_roster]
    cases hr : s.mu.roster with
    | none => rfl
    | some r =>
      by_cases hm : m = 0
      · simp [hm]
      · simp only [Option.map_some, hm, if_false, List.getD_eq_getElem?_getD, getElem?_updateAt, if_true]
        cases r[m - 1]? <;> rfl
  · next h => exact entry_mapEntry_other s _ h

theorem clearAll_entry (s : State) (l : List Nat) (m : Nat) :
    (s.clearAll l).entry m = if m ∈ l then .blank else s.entry m := by
  unfold State.clearAll
  induction l generalizing s with
  | nil => simp
  | cons n l ih =>
    rw [List.foldl_cons, ih, entry_clearEntry]
    by_cases hm : m = n
    · simp [hm]
    · simp [hm]

/-- What the RECLAIM of a LINKED station does (R18, R54, R57). -/
theorem reclaim_taken {s : State} {c : Image} {f : Frame} {named : List Nat} (h : TakesFrom s c f.sender)
    (hlock : s.mu.lock = none) :
    let t := settle c s (((s.heardFrame c f).takeReclaim named).followUp c (s.arrival c f) f (s.concluded c f))
    t.mu.membership = .linked ∧
      (∀ n, n ∈ named → s.entryState n = .absent → t.entryState n = .none) ∧
      (∀ n, n ∉ named → n ≠ f.sender → t.entry n = s.entry n) ∧
      PrunedFrom .absent [f.sender] (s.slot .absent) (t.slot .absent) ∧
      PrunedFrom .reclaim named (s.slot .reclaim) (t.slot .reclaim) ∧
      (∀ x set k, OwnFrom s c f .reclaim → (s.slot .reclaim).state = .inFlight x (some (.reclaim set)) k →
        PrunedFrom .reclaim named { state := .pending (.reclaim set), backoff := none, busy := 0 } (t.slot .reclaim)) ∧
      ∀ sh q, s.sa.shares = some sh → s.sa.curtail = some q →
        Redistributed q
          (fun _ x => match x with
            | .stranded n => decide (n ∈ named) && decide (s.entryState n = .absent)
            | _ => false)
          sh s.sa.claims t := by
  let x := s.heardFrame c f
  let l := named.filter fun n => decide (s.entryState n = .absent)
  let d := (x.reclaimShares l).clearAll l
  have hlx : (named.filter fun n => decide (x.entryState n = .absent)) = l :=
    congrArg (named.filter ·) (funext fun n => by rw [heardFrame_entryState])
  have hu : x.takeReclaim named = d.pruneSlot .reclaim named := by
    unfold State.takeReclaim
    rw [hlx]
    rfl
  obtain ⟨r, hr⟩ := clearAll_eq (x.reclaimShares l) l
  have hmem : (x.reclaimShares l).member = x.member := returnWhere_member ..
  have hlc : (x.reclaimShares l).lc = x.lc := by
    unfold State.reclaimShares State.returnWhere
    (repeat' split) <;> rfl
  have hdm : d.mu.membership = .linked := by
    simp only [d, hr]
    exact (membership_of_member hmem).trans ((heardFrame_membership s c f).trans h.2.1)
  have hdk : d.mu.lock = none := by
    simp only [d, hr]
    exact (lock_of_member hmem).trans ((heardFrame_lock s c f).trans hlock)
  have hdlc : d.lc = x.lc := by simp only [d, hr]; exact hlc
  show let t := settle c s ((x.takeReclaim named).followUp c (s.arrival c f) f (s.concluded c f)); _
  rw [hu]
  have hul : (d.pruneSlot .reclaim named).mu.membership = .linked := hdm
  have hidle : (d.pruneSlot .reclaim named).lc.idle = false := by
    rw [pruneSlot_idle, hdlc]; exact heardFrame_idle s c f
  intro t
  have hentry : ∀ n, t.entry n = if n ∈ l then .blank else x.entry n := fun n => by
    have ht : t.mu.roster = d.mu.roster := settled_roster c _ f _ s hul (.inl hdk)
    rw [entry_of_roster ht, clearAll_entry, entry_of_roster (roster_of_member hmem)]
  have htables : t.tables = (x.reclaimShares l).tables := by
    have : d.tables = (x.reclaimShares l).tables := by simp only [d, hr]; rfl
    exact (settled_tables c _ f _ s hul).trans this
  have habsent : t.slot .absent = ((s.concluded c f).slot .absent).prune [f.sender] := by
    rw [show t.slot .absent = (d.pruneSlot .reclaim named).slot .absent from
        settled_slot c _ f _ s hul hidle (by decide) (by decide) (.inl (by decide)),
      pruneSlot_slot_other _ (by decide), slot_of_lc hdlc, heardFrame_slot_absent s c f h.2.2.1]
  have hreclaim : t.slot .reclaim = ((s.concluded c f).slot .reclaim).prune named := by
    rw [show t.slot .reclaim = (d.pruneSlot .reclaim named).slot .reclaim from
        settled_slot c _ f _ s hul hidle (by decide) (by decide) (.inl (by decide)),
      pruneSlot_slot_same, slot_of_lc hdlc, heardFrame_slot_other s c f (by decide)]
  refine ⟨settled_membership c _ f _ s hul, fun n hn ha => ?_, fun n hn hns => ?_, fun set hset => ?_, fun set hset => ?_,
    fun y set k ho hst => ?_, fun sh q hs hq => ?_⟩
  · unfold State.entryState
    rw [hentry, if_pos (List.mem_filter.mpr ⟨hn, by simpa using ha⟩)]
    rfl
  · rw [hentry, if_neg fun hm => hn (List.mem_filter.mp hm).1]
    exact heardFrame_entry_other s c f hns
  · rw [habsent, concluded_slot_of_pending c f hset]
    exact prunedFrom_absent _ _ set hset
  · rw [hreclaim, concluded_slot_of_pending c f hset]
    exact prunedFrom_reclaim _ _ set hset
  · rw [hreclaim, concluded_slot_next ho hst]
    exact prunedFrom_reclaim _ _
  · have hx := redistributed_returnWhere (s := x) (sh := sh) (q := q) (by simpa [x] using hs) (by simpa [x] using hq)
      fun _ y => match y with
        | .stranded n => l.contains n
        | _ => false
    rw [show x.sa.claims = s.sa.claims from heardFrame_claims s c f] at hx
    refine Redistributed.of_tables (hx.of_eq fun _ y => ?_) htables
    cases y with
    | stranded n => simp [l, List.mem_filter]
    | _ => rfl

/-- Settles O33. -/
theorem absentAndReclaim : Obligations.AbsentAndReclaim := by
  intro s c b h hlock hlen
  have hf : ∀ cls sub, (bodyFrame b cls sub).fromStation = true := fun _ _ => fromStation_of_tank h.2.2.1
  have htake : ∀ f : Frame, f.sender = b.sender.toNat → f.payload = b.payload →
      (f.atLeast 6 && (s.heardFrame c f).takesFrom f.sender) = true := by
    intro f h1 h2
    rw [heardFrame_takesFrom, h1, takesFrom_of h, Frame.atLeast, h2]
    simpa using hlen
  refine ⟨⟨_, congrArg Host.Outcome.next (receive_hears h.1 (hf 1 0) _), ?_⟩,
    ⟨_, congrArg Host.Outcome.next (receive_hears h.1 (hf 1 1) _), ?_⟩⟩
  · rw [if_pos (htake (bodyFrame b 1 0) rfl rfl)]
    refine ⟨fun hnot => ?_, fun hown => ?_⟩
    · obtain ⟨h1, h2, h3, h4, h5, h6, h7⟩ :=
        absent_not_named (f := bodyFrame b 1 0) (named := stationsOf b.payload) h hlock hnot
      refine ⟨h1, h2, h3, h4, h5, h6, fun sh hs => ⟨_, h7.trans (by rw [hs]; rfl), List.length_map _, fun i x hx => ?_⟩⟩
      rw [List.getElem?_map, hx, Option.map_some]
      cases x with
      | held n => simp [strandedOf, List.mem_filter]
      | _ => rfl
    · have hback : (s.heardFrame c (bodyFrame b 1 0)).takeAbsent c (stationsOf b.payload) =
          State.enterFallback _ c := if_pos (by simpa using hown)
      show FallenBack c _
      rw [show (bodyFrame b 1 0).payload = b.payload from rfl, hback, followUp_off]
      · exact settle_enterFallback ..
      · exact .inr (.inl ((settle_membership c s _).symm.trans (settle_enterFallback _ s c).1))
  · rw [if_pos (htake (bodyFrame b 1 1) rfl rfl)]
    exact reclaim_taken (f := bodyFrame b 1 1) h hlock

end Sys2Proof.Machine

namespace Sys2Proof.Machine

open Sys2Proof

/-! ## The responder (R45) -/

/-- In an ascending list a search finds a number no higher than any that satisfies it. -/
theorem find?_le {l : List Nat} (hl : l.Pairwise (· < ·)) {p : Nat → Bool} {m : Nat} (hm : m ∈ l) (hp : p m = true) :
    ∃ k, l.find? p = some k ∧ p k = true ∧ k ≤ m := by
  cases hf : l.find? p with
  | none => exact absurd hp (List.find?_eq_none.mp hf m hm)
  | some k =>
    obtain ⟨hk, as, bs, rfl, has⟩ := List.find?_eq_some_iff_append.mp hf
    refine ⟨k, rfl, hk, ?_⟩
    rcases List.mem_append.mp hm with hm | hm
    · have := has m hm; simp [hp] at this
    · rcases List.mem_cons.mp hm with rfl | hm
      · exact Nat.le_refl _
      · exact Nat.le_of_lt ((List.pairwise_cons.mp (List.pairwise_append.mp hl).2.1).1 m hm)

section
variable {s : State} {j : Nat}

/-- The responder is the lowest LINKED station but the joiner whose mark is clear, if there is one. -/
theorem chooseResponder_of_clear {n : Nat} (hn : n ∈ tankNumbers) (hj : n ≠ j) (hl : s.isLinked n = true)
    (hd : (s.entry n).dormant = false) :
    s.isLinked (s.chooseResponder j) = true ∧ (s.entry (s.chooseResponder j)).dormant = false ∧
      s.chooseResponder j ≤ n := by
  obtain ⟨k, hk, hp, hle⟩ := find?_le tankNumbers_pairwise
    (p := fun n => (!decide (n = j) && s.isLinked n) && !(s.entry n).dormant) hn (by simp [hj, hl, hd])
  have hr : s.chooseResponder j = k := by
    unfold State.chooseResponder
    simp only [hk]
  simp only [Bool.and_eq_true, Bool.not_eq_true'] at hp
  rw [hr]
  exact ⟨hp.1.2, hp.2, hle⟩

/-- Where the marks of all of them are set, it is the lowest LINKED station but the joiner. -/
theorem chooseResponder_of_marked (h : ∀ n, n ≠ j → s.isLinked n = true → (s.entry n).dormant = true) {n : Nat}
    (hn : n ∈ tankNumbers) (hj : n ≠ j) (hl : s.isLinked n = true) :
    s.isLinked (s.chooseResponder j) = true ∧ s.chooseResponder j ≤ n := by
  have hnone : tankNumbers.find? (fun n => (!decide (n = j) && s.isLinked n) && !(s.entry n).dormant) = none := by
    refine List.find?_eq_none.mpr fun m _ hm => ?_
    simp only [Bool.and_eq_true, Bool.not_eq_true', decide_eq_false_iff_not] at hm
    exact absurd (h m hm.1.1 hm.1.2) (by simp [hm.2])
  obtain ⟨k, hk, hp, hle⟩ := find?_le tankNumbers_pairwise (p := fun n => !decide (n = j) && s.isLinked n) hn
    (by simp [hj, hl])
  have hr : s.chooseResponder j = k := by
    unfold State.chooseResponder
    simp only [hnone, hk]
    rfl
  rw [Bool.and_eq_true] at hp
  rw [hr]
  exact ⟨hp.2, hle⟩

end

/-! ## The start of a lock -/

section
variable (s : State) (c : Image)

theorem returnWhere_lc (p : Nat → Share → Bool) : (s.returnWhere p).lc = s.lc := by
  unfold State.returnWhere
  (repeat' split) <;> rfl

theorem returnWhere_ac (p : Nat → Share → Bool) : (s.returnWhere p).ac = s.ac := by
  unfold State.returnWhere
  (repeat' split) <;> rfl

/-- The share part of a JOIN, as it stands in the marking of the joiner (R19). -/
def State.joinShares (s : State) (n : Nat) : State :=
  if s.entryState n = .linked ∨ s.entryState n = .absent then s.rejoinShares n else s

theorem joinShares_member (n : Nat) : (s.joinShares n).member = s.member := by
  unfold State.joinShares; split
  · exact returnWhere_member ..
  · rfl

theorem joinShares_lc (n : Nat) : (s.joinShares n).lc = s.lc := by
  unfold State.joinShares; split
  · exact returnWhere_lc ..
  · rfl

theorem joinShares_activity (n : Nat) : (s.joinShares n).ac.activity = s.ac.activity := by
  unfold State.joinShares; split
  · rw [State.rejoinShares, returnWhere_ac]; rfl
  · rfl

/-- What the joiner's entry becomes (R45). -/
def joinerEntry (c : Image) (n : Nat) (e : RosterEntry) : RosterEntry :=
  if n = c.station then { e with dormant := false } else e.makeJoining

theorem markJoiner_eq (n : Nat) : s.markJoiner c n =
    (((s.joinShares n).pruneSlot .absent [n]).pruneSlot .reclaim [n]).mapEntry n (joinerEntry c n) := rfl

theorem markJoiner_tables (n : Nat) : (s.markJoiner c n).tables = (s.joinShares n).tables := rfl

theorem markJoiner_entry_other {n m : Nat} (h : m ≠ n) : (s.markJoiner c n).entry m = s.entry m := by
  rw [markJoiner_eq, entry_mapEntry_other _ _ h]
  exact entry_of_roster (roster_of_member (joinShares_member s n)) m

theorem markJoiner_entry_same {s : State} {r : List RosterEntry} {n : Nat} (hr : s.mu.roster = some r) (h1 : 1 ≤ n)
    (h2 : n ≤ r.length) : (s.markJoiner c n).entry n = joinerEntry c n (s.entry n) := by
  have hro := roster_of_member (joinShares_member s n)
  have hr' : (((s.joinShares n).pruneSlot .absent [n]).pruneSlot .reclaim [n]).mu.roster = some r := hro.trans hr
  rw [markJoiner_eq, entry_mapEntry_same hr' h1 h2]
  exact congrArg _ (entry_of_roster hro n)

theorem markJoiner_slot_absent (n : Nat) : (s.markJoiner c n).slot .absent = (s.slot .absent).prune [n] := by
  rw [markJoiner_eq, mapEntry_slot, pruneSlot_slot_other _ (by decide), pruneSlot_slot_same, slot_of_lc (joinShares_lc s n)]

theorem markJoiner_slot_reclaim (n : Nat) : (s.markJoiner c n).slot .reclaim = (s.slot .reclaim).prune [n] := by
  rw [markJoiner_eq, mapEntry_slot, pruneSlot_slot_same, pruneSlot_slot_other _ (by decide), slot_of_lc (joinShares_lc s n)]

theorem wakeTrigger_slot {id : SlotId} (h1 : id ≠ .dormant) (h2 : id ≠ .status) :
    (s.wakeTrigger c).slot id = s.slot id := by
  unfold State.wakeTrigger
  split
  · exact (writeSlot_slot_other _ h2.symm _).trans (cancelSlot_slot_other _ h1.symm)
  · split
    · exact cancelSlot_slot_other _ h1.symm
    · rfl
  · rfl

section
variable (l : Lock)

theorem startBurst_slot {id : SlotId} (h1 : id ≠ .dormant) (h2 : id ≠ .status) (h3 : id ≠ .table) :
    (s.startBurst c l).slot id = s.slot id := by
  unfold State.startBurst; split
  · exact (writeSlot_slot_other _ h3.symm _).trans (wakeTrigger_slot s c h1 h2)
  · rfl

/-- The responder has segment 0 in its TABLE slot, and a DORMANT one wakes (R46, R166). -/
theorem startBurst_responder {l : Lock} (h : l.responder = c.station) :
    (s.startBurst c l).slotEmpty .table = false ∧
      (s.ac.activity = .dormant → (s.startBurst c l).ac.activity = .waking) := by
  unfold State.startBurst
  rw [if_pos h]
  refine ⟨?_, fun hd => wakeTrigger_wakes s c (.inl hd)⟩
  unfold State.slotEmpty
  rw [writeSlot_slot_same]
  exact write_not_empty _ _

end

end

/-! ## JOIN at its owner -/

/-- Hearing the station's own frame leaves its own entry untimed (R54). -/
theorem heardFrame_lastHeard_own (s : State) (c : Image) (f : Frame) (h : f.sender = c.station) (n : Nat) :
    ((s.heardFrame c f).entry n).lastHeard = (s.entry n).lastHeard := by
  rw [heardFrame_entry]
  split
  · rfl
  · unfold State.hearEntry
    split
    · exact mapEntry_keeps RosterEntry.lastHeard s f.sender _ (fun e => by simp [h]) n
    · rfl

/-- The lock that a JOIN begins. -/
def State.lockFor (s : State) (c : Image) (n pool : Nat) : Lock :=
  { joiner := n, responder := (s.markJoiner c n).chooseResponder n, poolMatches := decide (pool = c.pool) }

theorem beginLock_eq (s : State) (c : Image) (n pool : Nat) : s.beginLock c n pool =
    ((s.markJoiner c n).mapMu fun m => { m with lock := some (s.lockFor c n pool) }).startBurst c (s.lockFor c n pool) :=
  rfl

section
variable (s : State) (c : Image) (n pool : Nat)

theorem beginLock_roster : (s.beginLock c n pool).mu.roster = (s.markJoiner c n).mu.roster := by
  rw [beginLock_eq, roster_of_member (startBurst_member ..)]; rfl

theorem beginLock_lock : (s.beginLock c n pool).mu.lock = some (s.lockFor c n pool) := by
  rw [beginLock_eq, lock_of_member (startBurst_member ..)]; rfl

theorem beginLock_membership : (s.beginLock c n pool).mu.membership = s.mu.membership := by
  rw [beginLock_eq, membership_of_member (startBurst_member ..)]
  show (s.joinShares n).mu.membership = _
  exact membership_of_member (joinShares_member s n)

theorem beginLock_tables : (s.beginLock c n pool).tables = (s.joinShares n).tables := by
  rw [beginLock_eq, startBurst_tables]; exact markJoiner_tables s c n

theorem beginLock_slot {id : SlotId} (h1 : id ≠ .dormant) (h2 : id ≠ .status) (h3 : id ≠ .table) :
    (s.beginLock c n pool).slot id = (s.markJoiner c n).slot id :=
  startBurst_slot _ c _ h1 h2 h3

end

/-- What the owner of a JOIN does where no lock stands, less the pruning of the sender (R19, R45, R46). -/
def BeginsLock (s : State) (c : Image) (n pool : Nat) (sh : List Share) (q : Nat) (u : State) : Prop :=
  (u.entry n).dormant = false ∧
  (n ≠ c.station → u.entryState n = .joining ∧ (u.entry n).lastHeard = none ∧ (u.entry n).stranding = none) ∧
  (n = c.station → u.entryState c.station = s.entryState c.station ∧
    (u.entry c.station).lastHeard = (s.entry c.station).lastHeard ∧
    (u.entry c.station).stranding = (s.entry c.station).stranding) ∧
  (s.entryState n = .linked ∨ s.entryState n = .absent →
    Redistributed q (fun _ x => decide (x = .held n) || decide (x = .stranded n)) sh (removeClaim n s.sa.claims) u) ∧
  (s.entryState n = .none ∨ s.entryState n = .joining → u.tables = s.tables) ∧
  ∃ l, u.mu.lock = some l ∧ l.joiner = n ∧ (l.poolMatches = true ↔ pool = c.pool) ∧ l.responder ≠ l.joiner ∧
    (∀ n, n ≠ l.joiner → u.isLinked n = true → (u.entry n).dormant = false →
      u.isLinked l.responder = true ∧ (u.entry l.responder).dormant = false ∧ l.responder ≤ n) ∧
    ((∀ n, n ≠ l.joiner → u.isLinked n = true → (u.entry n).dormant = true) →
      ∀ n, n ≠ l.joiner → u.isLinked n = true → u.isLinked l.responder = true ∧ l.responder ≤ n) ∧
    (l.responder = c.station → u.slotEmpty .table = false ∧ (s.ac.activity = .dormant → u.ac.activity = .waking))

/-- The number of a LINKED entry of a roster of 48 is a tank station's. -/
theorem mem_tankNumbers_of_linked {s : State} {r : List RosterEntry} (hr : s.mu.roster = some r) (h48 : r.length = 48) {n : Nat}
    (h : s.isLinked n = true) : n ∈ tankNumbers := by
  obtain ⟨r', hr', h1, h2⟩ := roster_of_entryState (s := s) (n := n) (by rw [isLinked_iff.mp h]; simp)
  rw [hr, Option.some.injEq] at hr'
  subst hr'
  exact mem_tankNumbers.mpr ⟨h1, by omega⟩

theorem markJoiner_roster_some {s : State} {r : List RosterEntry} (hr : s.mu.roster = some r) (c : Image) (n : Nat) :
    ∃ r', (s.markJoiner c n).mu.roster = some r' ∧ r'.length = r.length := by
  have hro : (((s.joinShares n).pruneSlot .absent [n]).pruneSlot .reclaim [n]).mu.roster = some r :=
    (roster_of_member (joinShares_member s n)).trans hr
  rw [markJoiner_eq, mapEntry_roster, hro]
  refine ⟨_, rfl, ?_⟩
  split
  · rfl
  · exact updateAt_length _ _ _

theorem beginLock_beginsLock {s : State} {c : Image} {n pool : Nat} {r : List RosterEntry} {sh : List Share} {q : Nat}
    (hn : isTank n = true) (hr : s.mu.roster = some r) (h48 : r.length = 48) (hs : s.sa.shares = some sh)
    (hq : s.sa.curtail = some q) : BeginsLock s c n pool sh q (s.beginLock c n pool) := by
  rw [isTank_iff] at hn
  have hentry := entry_of_roster (beginLock_roster s c n pool)
  have hlinked : ∀ m, (s.beginLock c n pool).isLinked m = (s.markJoiner c n).isLinked m := fun m =>
    congrArg (fun e : RosterEntry => decide (e.state = .linked)) (hentry m)
  have hsame : (s.beginLock c n pool).entry n = joinerEntry c n (s.entry n) :=
    (hentry n).trans (markJoiner_entry_same c hr hn.1 (by omega))
  have htab := beginLock_tables s c n pool
  obtain ⟨r', hr', hlen⟩ := markJoiner_roster_some hr c n
  have htank : ∀ m, (s.markJoiner c n).isLinked m = true → m ∈ tankNumbers := fun m hm =>
    mem_tankNumbers_of_linked hr' (hlen.trans h48) hm
  refine ⟨?_, fun hne => ?_, fun he => ?_, fun hst => ?_, fun hst => ?_, s.lockFor c n pool,
    beginLock_lock .., rfl, ?_, ?_, ?_, ?_, ?_⟩
  · rw [hsame]; unfold joinerEntry; split <;> rfl
  · unfold State.entryState
    rw [hsame, joinerEntry, if_neg hne]
    exact ⟨rfl, rfl, rfl⟩
  · unfold State.entryState
    rw [← he, hsame, joinerEntry, if_pos he]
    exact ⟨rfl, rfl, rfl⟩
  · refine Redistributed.of_tables ?_ htab
    rw [State.joinShares, if_pos hst]
    exact redistributed_returnWhere (s := s.dropClaim n) hs hq _
  · rw [htab, State.joinShares, if_neg (by rcases hst with h | h <;> simp [h])]
  · exact decide_eq_true_iff
  · exact chooseResponder_ne_joiner _ n (by omega)
  · intro m hm hl hd
    rw [hlinked] at hl ⊢
    rw [hentry] at hd ⊢
    exact chooseResponder_of_clear (htank m hl) hm hl hd
  · intro hall m hm hl
    rw [hlinked] at hl ⊢
    exact chooseResponder_of_marked (fun k hk hkl => hentry k ▸ hall k hk (hlinked k ▸ hkl)) (htank m hl) hm hl
  · intro hresp
    have h := startBurst_responder ((s.markJoiner c n).mapMu fun m => { m with lock := some (s.lockFor c n pool) }) c hresp
    exact ⟨h.1, fun hd => h.2 ((joinShares_activity s n).trans hd)⟩

theorem BeginsLock.of_heard {s : State} {c : Image} {f : Frame} {n pool q : Nat} {sh : List Share} {u : State}
    (h : BeginsLock (s.heardFrame c f) c n pool sh q u) (hsender : f.sender = n) : BeginsLock s c n pool sh q u := by
  unfold BeginsLock at h ⊢
  simp only [heardFrame_entryState, heardFrame_claims, heardFrame_tables, heardFrame_activity, heardFrame_stranding] at h
  obtain ⟨h1, h2, h3, h4⟩ := h
  refine ⟨h1, h2, fun he => ?_, h4⟩
  rw [heardFrame_lastHeard_own s c f (hsender.trans he)] at h3
  exact h3 he

/-- What follows the owner of a frame that ends no lock leaves what the frame did. -/
theorem BeginsLock.followUp {s : State} {c : Image} {n pool q : Nat} {sh : List Share} {u : State}
    (h : BeginsLock s c n pool sh q u) (hl : u.mu.membership = .linked) (a : Arrival) {f : Frame}
    (hf : f.isAllocation = false) (b : State) : BeginsLock s c n pool sh q (u.followUp c a f b) := by
  obtain ⟨hr, hk⟩ := followUp_roster c a f b hl (.inr hf)
  have hentry := entry_of_roster hr
  have htab := followUp_tables c a f b hl
  have hac : (u.followUp c a f b).ac = u.ac := by
    obtain ⟨_, _, _, _, _, ho⟩ := afterFrame_ownPart (u.ownerDone c a f) b c
    unfold State.followUp
    rw [ho, ownerDone_linked hl, hf, if_neg (by simp)]
    obtain ⟨_, hp⟩ := restartPresence_eq u c a
    rw [hp]
    rfl
  have hslot : (u.followUp c a f b).slotEmpty .table = u.slotEmpty .table := by
    unfold State.slotEmpty
    rw [followUp_slot c a f b hl (by decide) (by decide) (.inr hf)]
  obtain ⟨h1, h2, h3, h4, h5, l, h6, h7⟩ := h
  unfold BeginsLock State.entryState State.isLinked
  simp only [hentry, hk, htab, hac, hslot]
  exact ⟨h1, h2, h3, fun hst => (h4 hst).of_tables htab, h5, l, h6, h7⟩

/-- Settles O49: a standing lock, and `beginLock` where none stands. -/
theorem joinAtALinkedStation : Obligations.JoinAtALinkedStation := by
  intro s c b r sh q h hl htank hown hlen hr h48 hs hq
  let f := bodyFrame b 5 0
  let n := b.sender.toNat
  let x := s.heardFrame c f
  let j := x.joinAtLinked c n (numAt b.payload 0)
  have hxl : x.mu.membership = .linked := (heardFrame_membership s c f).trans hl
  have hxk : x.mu.lock = s.mu.lock := heardFrame_lock s c f
  have htake : x.takeJoin c (s.arrival c f) n (numAt b.payload 0) = j := by
    have hno : ¬((s.arrival c f).own = false ∧ n = c.station ∧ x.mu.membership.seesClash = true) := by
      rintro ⟨h1, h2, -⟩
      rcases hown with hne | ho
      · exact hne h2
      · rw [arrival_own ho] at h1; cases h1
    unfold State.takeJoin
    rw [if_neg hno, hxl]
  have hrun : exec (.join b) s = .next (settle c s (j.followUp c (s.arrival c f) f (s.concluded c f))) := by
    have ht : (f.atLeast 1 && isTank f.sender) = true := by rw [atLeast_of hlen]; exact htank
    show Host.Outcome.next (receive f _ s) = _
    rw [receive_hears h (fromStation_of_tank htank), ← htake]
    exact congrArg (fun z => Host.Outcome.next (settle c s (State.followUp z c _ f _))) (if_pos ht)
  have hlocked : s.mu.lock.isSome = true → j = x := fun hk => if_pos (by rw [hxk]; exact hk)
  have hfree : s.mu.lock = none → j = x.beginLock c n (numAt b.payload 0) := fun hk => if_neg (by rw [hxk, hk]; simp)
  have hcases : j = x ∨ j = x.beginLock c n (numAt b.payload 0) := by
    cases hk : s.mu.lock with
    | none => exact .inr (hfree hk)
    | some l => exact .inl (hlocked (by rw [hk]; rfl))
  have hjl : j.mu.membership = .linked := by
    rcases hcases with hj | hj <;> rw [hj]
    · exact hxl
    · rw [beginLock_membership]; exact hxl
  have hentry := entry_of_roster (followUp_roster c (s.arrival c f) f (s.concluded c f) hjl (.inr rfl)).1
  have hslot : ∀ id : SlotId, id = .absent ∨ id = .reclaim →
      (j.followUp c (s.arrival c f) f (s.concluded c f)).slot id = j.slot id := by
    rintro id (rfl | rfl) <;> exact followUp_slot c _ f _ hjl (by decide) (by decide) (.inr rfl)
  refine ⟨_, hrun, followUp_membership c _ f _ hjl, fun m hm => ?_, fun set hset => ?_, fun hk => ?_, fun hk => ?_⟩
  · rw [hentry]
    rcases hcases with hj | hj <;> rw [hj]
    · exact heardFrame_entry_other s c f hm
    · rw [entry_of_roster (beginLock_roster x c n _), markJoiner_entry_other x c hm]
      exact heardFrame_entry_other s c f hm
  · rw [hslot _ (.inl rfl)]
    have hx : x.slot .absent = (s.slot .absent).prune [n] := by
      rw [heardFrame_slot_absent s c f htank, concluded_slot_of_pending c f hset]; rfl
    rcases hcases with hj | hj <;> rw [hj]
    · rw [hx]; exact prunedFrom_absent _ _ set hset
    · rw [beginLock_slot x c n _ (by decide) (by decide) (by decide), markJoiner_slot_absent, hx,
        prune_prune_absent _ _ _ set hset]
      have := prunedFrom_absent (s.slot .absent) ([n] ++ [n]) set hset
      simpa using this
  · have hj := hlocked hk
    refine ⟨?_, ?_, ?_, fun set hset => ?_⟩
    · rw [(followUp_roster c _ f _ hjl (.inr rfl)).2, hj]; exact hxk
    · rw [followUp_tables c _ f _ hjl, hj]; exact heardFrame_tables s c f
    · exact (congrArg RosterEntry.state (hentry n)).trans (by rw [hj]; exact heardFrame_entryState s c f n)
    · rw [hslot _ (.inr rfl), hj, heardFrame_slot_other s c f (by decide), concluded_slot_of_pending c f hset]
  · have hj := hfree hk
    obtain ⟨r', hr', hlen'⟩ := heardFrame_roster_some c f hr
    refine ⟨fun set hset => ?_, ?_⟩
    · rw [hslot _ (.inr rfl), hj, beginLock_slot x c n _ (by decide) (by decide) (by decide), markJoiner_slot_reclaim,
        heardFrame_slot_other s c f (by decide), concluded_slot_of_pending c f hset]
      exact prunedFrom_reclaim _ _ set hset
    · have hb : BeginsLock x c n (numAt b.payload 0) sh q j := by
        rw [hj]
        exact beginLock_beginsLock htank hr' (hlen'.trans h48) ((heardFrame_shares s c f).trans hs)
          ((heardFrame_curtail s c f).trans hq)
      exact (hb.of_heard rfl).followUp hjl _ rfl _

end Sys2Proof.Machine

namespace Sys2Proof.Machine

open Sys2Proof

/-! ## STATUS at the end of a command (R53) -/

theorem watchDormancy_statusValues (s : State) (c : Image) : (s.watchDormancy c).statusValues = s.statusValues := by
  unfold State.watchDormancy
  dsimp only
  (repeat' split) <;> rfl

theorem statusOnChange_statusValues (s b : State) : (s.statusOnChange b).statusValues = s.statusValues := by
  unfold State.statusOnChange State.statusForChange
  (repeat' split) <;> rfl

/-- At a LINKED station that is not DORMANT, on a line that is not idle, a change of the values queues STATUS with those of
the moment, and without one the STATUS slot stays. -/
theorem settle_status {c : Image} {b s : State} (hi : s.lc.idle = false) (hl : s.mu.membership = .linked)
    (ha : s.ac.activity ≠ .dormant) :
    ((settle c b s).slot .status).state.newest =
      if b.statusValues = (settle c b s).statusValues then (s.slot .status).state.newest
      else some (.status (settle c b s).statusValues) := by
  obtain ⟨p, hp, hslot, hfrozen⟩ : ∃ p : State, settle c b s = (p.statusOnChange b).watchDormancy c ∧
      p.slot .status = s.slot .status ∧ p.frozen = s.frozen := by
    refine ⟨_, settle_of_busy c b s hi, ?_, ?_⟩
    · rw [runService_slot c _ _ (by decide), writeJoinIfDue_slot c _ _ (by decide)]
      show (State.controlCalm _ c).slot .status = _
      rw [controlCalm_slot, latchStanding_slot c _ _ (by decide)]
      show (State.drainStep _ b c).slot .status = _
      exact drainStep_slot c _ _ b (by decide) (by decide)
    · simp only [runService_frozen, writeJoinIfDue_frozen, watchSilence_frozen, controlCalm_frozen, latchStanding_frozen,
        setValve_frozen, drainStep_frozen, recomputeUrgency_frozen]
  have hpl : p.mu.membership = .linked := (eq_of_frozen (·.mu.membership) (fun _ => rfl) hfrozen).trans hl
  have hpa : p.ac.activity ≠ .dormant := by rwa [eq_of_frozen (·.ac.activity) (fun _ => rfl) hfrozen]
  rw [hp, watchDormancy_slot c .status _ (by decide), watchDormancy_statusValues, statusOnChange_statusValues]
  split
  · next he =>
    unfold State.statusOnChange
    rw [if_neg (by simp [he]), hslot]
  · next he => exact statusOnChange_newest p b hpl hpa he

/-! ## A segment taken in LOADING (R50, R51) -/

/-- What follows the owner of a frame that ends no lock, at a LINKED station. -/
theorem followUp_eq {u : State} (hl : u.mu.membership = .linked) (c : Image) (a : Arrival) {f : Frame}
    (hf : f.isAllocation = false) (b : State) : ∃ l o r x k p, u.followUp c a f b =
      { u with lc := l, sa := { u.sa with outgoing := o, releaseMark := r }, ts := x, freeUsed := k
               mu := { u.mu with presence := p } } := by
  obtain ⟨l, o, r, x, k, ho⟩ := afterFrame_ownPart (u.ownerDone c a f) b c
  obtain ⟨p, hp⟩ := restartPresence_eq u c a
  unfold State.followUp
  rw [ho, ownerDone_linked hl, hf, if_neg (by simp), hp]
  exact ⟨l, o, r, x, k, p, rfl⟩

section
variable (s : State) (c : Image)

theorem linkLoaded_newest : ((s.linkLoaded c).slot .status).state.newest = some (.status s.statusValues) :=
  writeStatus_newest _

theorem linkLoaded_status : (s.linkLoaded c).slotEmpty .status = false := by
  unfold State.slotEmpty State.linkLoaded State.enterLinked State.writeStatus
  rw [writeSlot_slot_same]
  exact write_not_empty _ _

theorem linkLoaded_claims_perm : (s.linkLoaded c).sa.claims.Perm s.sa.claims := orderClaims_perm _ _

theorem loadClaims_perm (l : List Claim) : (s.loadClaims l).sa.claims.Perm (s.sa.claims ++ l) := orderClaims_perm _ _

theorem linkLoaded_roster : (s.linkLoaded c).mu.roster =
    ((s.mapMu fun m => { m with roster := m.roster.map fun r => r.map (startEntryTimers c) }).mapEntry c.station
      fun _ => RosterEntry.linkedNow none).mu.roster := rfl

theorem startEntryTimers_entry (n : Nat) :
    (s.mapMu fun m => { m with roster := m.roster.map fun r => r.map (startEntryTimers c) }).entry n =
      startEntryTimers c (s.entry n) := by
  unfold State.entry
  cases hr : s.mu.roster with
  | none => simp [State.mapMu, hr, startEntryTimers, RosterEntry.blank]
  | some r =>
    by_cases hn : n = 0
    · simp [State.mapMu, hr, hn, startEntryTimers, RosterEntry.blank]
    · simp only [State.mapMu, hr, Option.map_some, hn, if_false, List.getD_eq_getElem?_getD, List.getElem?_map]
      cases r[n - 1]? <;> simp [startEntryTimers, RosterEntry.blank]

/-- The entries of a station that has loaded its last segment: its own LINKED, the others with their timers (R51). -/
theorem linkLoaded_entry_other {n : Nat} (h : n ≠ c.station) :
    (s.linkLoaded c).entry n = startEntryTimers c (s.entry n) := by
  rw [entry_of_roster (linkLoaded_roster s c), entry_mapEntry_other _ _ h, startEntryTimers_entry]

theorem linkLoaded_entry_own {s : State} {r : List RosterEntry} (hr : s.mu.roster = some r) (h1 : 1 ≤ c.station)
    (h2 : c.station ≤ r.length) : (s.linkLoaded c).entry c.station = RosterEntry.linkedNow none := by
  have hr' : (s.mapMu fun m => { m with roster := m.roster.map fun r => r.map (startEntryTimers c) }).mu.roster =
      some (r.map (startEntryTimers c)) := by simp [State.mapMu, hr]
  rw [entry_of_roster (linkLoaded_roster s c), entry_mapEntry_same hr' h1 (by simpa using h2)]

end

theorem startEntryTimers_state (c : Image) (e : RosterEntry) : (startEntryTimers c e).state = e.state := by
  unfold startEntryTimers; split <;> rfl

theorem startEntryTimers_urgency (c : Image) (e : RosterEntry) : (startEntryTimers c e).urgency = e.urgency := by
  unfold startEntryTimers; split <;> rfl

theorem startEntryTimers_dormant (c : Image) (e : RosterEntry) : (startEntryTimers c e).dormant = e.dormant := by
  unfold startEntryTimers; split <;> rfl

theorem startEntryTimers_linked (c : Image) {e : RosterEntry} (h : e.state = .linked) :
    (startEntryTimers c e).lastHeard = some (1000 * if e.dormant then 3 * c.dormantPresence else c.absence) := by
  unfold startEntryTimers; rw [h]; rfl

theorem startEntryTimers_absent (c : Image) {e : RosterEntry} (h : e.state = .absent) :
    (startEntryTimers c e).stranding = some (1000 * c.stranding) := by
  unfold startEntryTimers; rw [h]; rfl

/-- The other entries at a station that the final segment has made LINKED, x before the segment. -/
theorem linkLoaded_others {s x : State} {c : Image} {m n : Nat}
    (hstate : x.entryState n = s.entryState n) (hurg : x.rosterUrgency n = s.rosterUrgency n)
    (hother : n ≠ m → x.entry n = s.entry n)
    (hsender : n = m → x.entryState n = .linked → (x.entry n).dormant = false) {u : State}
    (hu : u.entry n = startEntryTimers c (x.entry n)) :
    u.entryState n = s.entryState n ∧ u.rosterUrgency n = s.rosterUrgency n ∧
      (n ≠ m → (u.entry n).dormant = (s.entry n).dormant) ∧
      (n = m → u.entryState n = .linked → (u.entry n).dormant = false) ∧
      (u.entryState n = .linked → (u.entry n).lastHeard =
        some (1000 * if (u.entry n).dormant then 3 * c.dormantPresence else c.absence)) ∧
      (u.entryState n = .absent → (u.entry n).stranding = some (1000 * c.stranding)) := by
  unfold State.entryState State.rosterUrgency at *
  rw [hu, startEntryTimers_state, startEntryTimers_urgency, startEntryTimers_dormant]
  exact ⟨hstate, hurg, fun hne => by rw [hother hne], hsender, startEntryTimers_linked c, startEntryTimers_absent c⟩

theorem loadSegment_one (s : State) (c : Image) (l : List Byte) :
    (s.loadSegment c 1 l).sa.shares = some (l.map shareOfByte) ∧ (s.loadSegment c 1 l).sa.claims = s.sa.claims ∧
      (s.loadSegment c 1 l).mu.nextSegment = 2 ∧ (s.loadSegment c 1 l).mu.membership = s.mu.membership :=
  ⟨rfl, rfl, rfl, rfl⟩

theorem loadSegment_two (s : State) (c : Image) (l : List Byte) :
    (s.loadSegment c 2 l).sa.shares = s.sa.shares ∧
      (s.loadSegment c 2 l).sa.claims.Perm (s.sa.claims ++ claimsOfBytes l 0 4 1) ∧
      (s.loadSegment c 2 l).mu.nextSegment = 3 ∧ (s.loadSegment c 2 l).mu.membership = s.mu.membership :=
  ⟨rfl, loadClaims_perm .., rfl, rfl⟩

/-- What the final segment leaves at a station that was LOADING, before the end of the command (R51). -/
theorem finalSegment_taken {s : State} {c : Image} {f : Frame} {l : List Byte} {u : State} (hf : f.isAllocation = false)
    (hd : f.isDormant = false) (hload : s.mu.membership = .loading)
    (hu : u = ((s.heardFrame c f).loadSegment c 3 l).followUp c (s.arrival c f) f (s.concluded c f)) :
    u.sa.shares = s.sa.shares ∧ u.sa.claims.Perm (s.sa.claims ++ claimsOfBytes l 1 48 33) ∧
      u.ru.alerts = some (alertsOfBytes c.alertLifetime l) ∧ u.mu.membership = .linked ∧
      u.mu.failures = 0 ∧ u.mu.load = none ∧ u.mu.joinWait = none ∧ u.slotEmpty .status = false ∧
      (RestRule s → ((settle c s u).slot .status).state.newest = some (.status (settle c s u).statusValues)) ∧
      ∀ r, s.mu.roster = some r → 1 ≤ c.station → c.station ≤ r.length →
        u.entryState c.station = .linked ∧ u.rosterUrgency c.station = 0 ∧ (u.entry c.station).dormant = false ∧
        ∀ n, n ≠ c.station →
          u.entryState n = s.entryState n ∧ u.rosterUrgency n = s.rosterUrgency n ∧
          (n ≠ f.sender → (u.entry n).dormant = (s.entry n).dormant) ∧
          (n = f.sender → u.entryState n = .linked → (u.entry n).dormant = false) ∧
          (u.entryState n = .linked → (u.entry n).lastHeard =
            some (1000 * if (u.entry n).dormant then 3 * c.dormantPresence else c.absence)) ∧
          (u.entryState n = .absent → (u.entry n).stranding = some (1000 * c.stranding)) := by
  let x := s.heardFrame c f
  have hxt : x.tables = s.tables := heardFrame_tables s c f
  have hxv : x.statusValues = s.statusValues := by simp [State.statusValues, x]
  obtain ⟨y, hy, hyc, hyr, hys, hya, hyv, hyi, hyact⟩ : ∃ y : State,
      (s.heardFrame c f).loadSegment c 3 l = y.linkLoaded c ∧
      y.sa.claims.Perm (x.sa.claims ++ claimsOfBytes l 1 48 33) ∧ y.mu.roster = x.mu.roster ∧
      y.sa.shares = x.sa.shares ∧ y.ru.alerts = some (alertsOfBytes c.alertLifetime l) ∧
      y.statusValues = x.statusValues ∧ y.lc.idle = false ∧ y.ac = x.ac :=
    ⟨_, rfl, loadClaims_perm x _, rfl, rfl, rfl, rfl, heardFrame_idle s c f, rfl⟩
  rw [hy] at hu
  obtain ⟨hlm, hls, hla, hlf, hll, hlj, hli, hlact⟩ : (y.linkLoaded c).mu.membership = .linked ∧
      (y.linkLoaded c).sa.shares = y.sa.shares ∧ (y.linkLoaded c).ru.alerts = y.ru.alerts ∧
      (y.linkLoaded c).mu.failures = 0 ∧ (y.linkLoaded c).mu.load = none ∧ (y.linkLoaded c).mu.joinWait = none ∧
      (y.linkLoaded c).lc.idle = y.lc.idle ∧ (y.linkLoaded c).ac = y.ac := ⟨rfl, rfl, rfl, rfl, rfl, rfl, rfl, rfl⟩
  have hentry : ∀ n, u.entry n = (y.linkLoaded c).entry n :=
    entry_of_roster (by rw [hu]; exact (followUp_roster c _ f _ hlm (.inr hf)).1)
  have hslot : u.slot .status = (y.linkLoaded c).slot .status := by
    rw [hu]; exact followUp_slot c _ f _ hlm (by decide) (by decide) (.inr hf)
  obtain ⟨lc, o, rm, ts, k, p, heq⟩ := followUp_eq hlm c (s.arrival c f) hf (s.concluded c f)
  have hidle : u.lc.idle = false := by rw [hu, followUp_idle c _ f _ hlm, hli, hyi]
  rw [heq] at hu
  have hul : u.mu.membership = .linked := by rw [hu]; exact hlm
  refine ⟨?_, ?_, ?_, hul, ?_, ?_, ?_, ?_, fun hrest => ?_, fun r hr h1 h2 => ?_⟩
  · rw [hu]; exact hls.trans (hys.trans (shares_of_tables hxt))
  · rw [hu, ← claims_of_tables hxt]; exact (linkLoaded_claims_perm y c).trans hyc
  · rw [hu]; exact hla.trans hya
  · rw [hu]; exact hlf
  · rw [hu]; exact hll
  · rw [hu]; exact hlj
  · unfold State.slotEmpty
    rw [hslot]
    exact linkLoaded_status y c
  · have hact : s.ac.activity = .active := by
      by_contra hne
      rw [(hrest hne).1] at hload
      cases hload
    have hua : u.ac.activity = .active := by
      rw [hu]
      exact (congrArg AcState.activity (hlact.trans hyact)).trans ((heardFrame_activity s c f).trans hact)
    rw [settle_status hidle hul (by rw [hua]; simp)]
    split
    · next he => rw [← he, hslot, linkLoaded_newest, hyv, hxv]
    · rfl
  · obtain ⟨r', hr', hlen⟩ := heardFrame_roster_some c f hr
    have hown : u.entry c.station = RosterEntry.linkedNow none := by
      rw [hentry]
      exact linkLoaded_entry_own c (hyr.trans hr') h1 (by omega)
    refine ⟨congrArg RosterEntry.state hown, congrArg RosterEntry.urgency hown, congrArg RosterEntry.dormant hown,
      fun n hn => ?_⟩
    refine linkLoaded_others (x := x) (m := f.sender) (heardFrame_entryState s c f n) (heardFrame_rosterUrgency s c f n)
      (fun hne => heardFrame_entry_other s c f hne) (fun he hst => ?_) ?_
    · subst he
      rw [heardFrame_entryState] at hst
      exact heardFrame_dormant_sender c (isLinked_iff.mpr hst) hd
    · rw [hentry, linkLoaded_entry_other y c hn, entry_of_roster hyr]

/-- Settles O30: `takeSegment` in each of the segments, and where the segment is not taken. -/
theorem loadingSegments : Obligations.LoadingSegments := by
  intro s c segment b h hload ha h0 h63
  let f := bodyFrame b 0 segment.toNat
  let x := s.heardFrame c f
  have hxm : x.mu.membership = .loading := (heardFrame_membership s c f).trans hload
  have hxt : x.tables = s.tables := heardFrame_tables s c f
  have htake : x.takeTable c (s.arrival c f) segment.toNat f = x.takeSegment c segment.toNat f := by
    unfold State.takeTable
    rw [hxm]
    exact if_pos ha
  let u := (x.takeTable c (s.arrival c f) segment.toNat f).followUp c (s.arrival c f) f (s.concluded c f)
  refine ⟨u, execTable_eq h h0 h63, fun hnext hfit => ?_, fun hno => ?_⟩
  · have htaken : x.takeTable c (s.arrival c f) segment.toNat f = x.loadSegment c segment.toNat b.payload := by
      rw [htake]
      exact if_pos ⟨hnext.trans (heardFrame_nextSegment s c f).symm, hfit⟩
    have hunlinked : (x.loadSegment c segment.toNat b.payload).mu.membership = .loading →
        u = x.loadSegment c segment.toNat b.payload := fun hm =>
      (congrArg (fun z => State.followUp z c (s.arrival c f) f (s.concluded c f)) htaken).trans
        (followUp_unlinked c _ f _ (by rw [hm]; simp) rfl)
    refine ⟨fun h1 => ?_, fun h2 => ?_, fun h3 => ?_⟩
    · rw [show segment.toNat = 1 from congrArg BitVec.toNat h1] at hunlinked
      obtain ⟨hs, hc, hn, hm⟩ := loadSegment_one x c b.payload
      rw [hunlinked (hm.trans hxm)]
      exact ⟨hs, hc.trans (claims_of_tables hxt), hn, hm.trans hxm⟩
    · rw [show segment.toNat = 2 from congrArg BitVec.toNat h2] at hunlinked
      obtain ⟨hs, hc, hn, hm⟩ := loadSegment_two x c b.payload
      rw [hunlinked (hm.trans hxm), ← claims_of_tables hxt]
      exact ⟨hs.trans (shares_of_tables hxt), hc, hn, hm.trans hxm⟩
    · have h3 : x.takeTable c (s.arrival c f) segment.toNat f = x.loadSegment c 3 b.payload :=
        htaken.trans (by rw [show segment.toNat = 3 from congrArg BitVec.toNat h3])
      exact finalSegment_taken (f := f) rfl rfl hload
        (congrArg (fun z => State.followUp z c (s.arrival c f) f (s.concluded c f)) h3)
  · have hu : u = x := by
      have hx : x.takeTable c (s.arrival c f) segment.toNat f = x := by
        rw [htake]
        refine if_neg ?_
        rw [heardFrame_nextSegment]
        exact hno
      exact (congrArg (fun z => State.followUp z c (s.arrival c f) f (s.concluded c f)) hx).trans
        (followUp_unlinked c _ f _ (by rw [hxm]; simp) rfl)
    rw [hu]
    exact ⟨hxt, hxm, heardFrame_nextSegment s c f⟩

end Sys2Proof.Machine

namespace Sys2Proof.Machine

open Sys2Proof

/-! ## Bits of a byte -/

/-- The number whose bits below n are f's. -/
def sumOfBits (f : Nat → Bool) (n : Nat) : Nat := ((List.range n).filter f).foldl (fun a i => a + 2 ^ i) 0

theorem sumOfBits_succ (f : Nat → Bool) (n : Nat) :
    sumOfBits f (n + 1) = sumOfBits f n + if f n then 2 ^ n else 0 := by
  unfold sumOfBits
  rw [List.range_succ, List.filter_append, List.foldl_append]
  cases h : f n <;> simp [h]

theorem sumOfBits_lt (f : Nat → Bool) (n : Nat) : sumOfBits f n < 2 ^ n := by
  induction n with
  | zero => exact Nat.one_pos
  | succ n ih =>
    rw [sumOfBits_succ, Nat.pow_succ]
    split <;> omega

theorem testBit_sumOfBits (f : Nat → Bool) {n i : Nat} (h : i < n) : (sumOfBits f n).testBit i = f i := by
  induction n with
  | zero => omega
  | succ n ih =>
    have hlt := sumOfBits_lt f n
    rw [sumOfBits_succ]
    by_cases hin : i = n
    · subst hin
      cases hf : f i with
      | true => simp [Nat.add_comm (sumOfBits f i), Nat.testBit_two_pow_add_eq, Nat.testBit_lt_two_pow hlt]
      | false => simp [Nat.testBit_lt_two_pow hlt]
    · have hi : i < n := by omega
      split
      · rw [Nat.add_comm, Nat.testBit_two_pow_add_gt hi, ih hi]
      · exact ih hi

/-- Bit i of the byte made of f. -/
theorem byteOfBits_getLsbD (f : Nat → Bool) {i : Nat} (h : i < 8) : (byteOfBits f).getLsbD i = f i := by
  show (BitVec.ofNat 8 (sumOfBits f 8)).getLsbD i = f i
  rw [BitVec.getLsbD_ofNat, testBit_sumOfBits f h]
  simp [h]

theorem toNat_byte {n : Nat} (h : n < 256) : (BitVec.ofNat 8 n).toNat = n := by
  rw [BitVec.toNat_ofNat]; omega

theorem byteAt_of_getElem? {l : List Byte} {i : Nat} {b : Byte} (h : l[i]? = some b) : byteAt l i = b := by
  unfold byteAt
  rw [List.getD_eq_getElem?_getD, h]
  rfl

/-! ## Roster and share bytes read back -/

theorem EntryState.code_lt (x : EntryState) : x.code < 4 := by cases x <;> decide

theorem entryStateOf_code (x : EntryState) : entryStateOf x.code = x := by cases x <;> rfl

theorem RosterEntry.byte_of_ne {e : RosterEntry} (h : e.state ≠ .none) :
    e.byte = BitVec.ofNat 8 (64 * e.state.code + flagBit e.dormant 32 + e.urgency) := by
  unfold RosterEntry.byte
  cases hs : e.state with
  | none => exact absurd hs h
  | _ => rfl

theorem entryOfByte_of_ne {b : Byte} (h : entryStateOf (b.toNat / 64) ≠ .none) : entryOfByte b =
    { state := entryStateOf (b.toNat / 64)
      dormant := decide (entryStateOf (b.toNat / 64) = .linked) && b.getLsbD 5, urgency := b.toNat % 8
      lastHeard := none, stranding := none } := by
  unfold entryOfByte
  dsimp only
  split
  · next hs => exact absurd hs h
  · rfl

/-- A roster entry, less its timers, comes back from its byte (Table 11-4). -/
theorem entryOfByte_byte {e : RosterEntry} (hu : e.urgency ≤ 7) (hd : e.state ≠ .linked → e.dormant = false)
    (h0 : e.state = .none → e.urgency = 0) : entryOfByte e.byte = { e with lastHeard := none, stranding := none } := by
  by_cases hs : e.state = .none
  · have hb : e.byte = 0 := by unfold RosterEntry.byte; rw [hs]
    obtain ⟨st, d, u, lh, sr⟩ := e
    obtain rfl : st = .none := hs
    obtain rfl : d = false := hd (by simp)
    obtain rfl : u = 0 := h0 rfl
    rw [hb]
    rfl
  · have hc := e.state.code_lt
    have hflag : flagBit e.dormant 32 = 0 ∨ flagBit e.dormant 32 = 32 := by cases e.dormant <;> simp [flagBit]
    have hn : e.byte.toNat = 64 * e.state.code + flagBit e.dormant 32 + e.urgency := by
      rw [RosterEntry.byte_of_ne hs, toNat_byte (by omega)]
    have hst : entryStateOf (e.byte.toNat / 64) = e.state := by
      rw [show e.byte.toNat / 64 = e.state.code by omega, entryStateOf_code]
    have hbit : e.byte.getLsbD 5 = e.dormant := by
      rw [BitVec.getLsbD, hn, Nat.testBit_eq_decide_div_mod_eq]
      cases hdo : e.dormant <;> simp [flagBit] <;> omega
    rw [entryOfByte_of_ne (by rw [hst]; exact hs), hst, hbit, show e.byte.toNat % 8 = e.urgency by omega]
    by_cases hl : e.state = .linked
    · simp [hl]
    · simp [hl, hd hl]

/-- A share comes back from its byte. -/
theorem shareOfByte_byte {x : Share} (h : ∀ n, x = .held n ∨ x = .stranded n → n < 64) : shareOfByte x.byte = x := by
  cases x with
  | free => rfl
  | withheld => rfl
  | held n =>
    have hn := h n (.inl rfl)
    have hb : (Share.held n).byte.toNat = 64 + n := toNat_byte (by omega)
    unfold shareOfByte
    rw [hb, show (64 + n) / 64 = 1 by omega, show (64 + n) % 64 = n by omega]
    rfl
  | stranded n =>
    have hn := h n (.inr rfl)
    have hb : (Share.stranded n).byte.toNat = 128 + n := toNat_byte (by omega)
    unfold shareOfByte
    rw [hb, show (128 + n) / 64 = 2 by omega, show (128 + n) % 64 = n by omega]
    rfl

theorem map_shareOfByte_byte {sh : List Share} (h : ∀ x ∈ sh, ∀ n, x = .held n ∨ x = .stranded n → n < 64) :
    (sh.map Share.byte).map shareOfByte = sh := by
  rw [List.map_map]
  exact (List.map_congr_left fun x hx => shareOfByte_byte (h x hx)).trans (List.map_id _)

/-! ## Claim bytes read back -/

/-- Bit 7 − (k mod 8) of mask byte k div 8 is the third bit of entry k's count less 1. -/
theorem countMask_getElem? {size k : Nat} {l : List Claim} {e : Claim} (hk : k < 8 * size) (he : l[k]? = some e) :
    ∃ m, (countMask size l)[k / 8]? = some m ∧ m.getLsbD (7 - k % 8) = decide (4 < e.remaining) := by
  have hlt : k / 8 < size := by omega
  refine ⟨_, by rw [countMask, List.getElem?_map, List.getElem?_range hlt]; rfl, ?_⟩
  rw [byteOfBits_getLsbD _ (by omega), show 8 * (k / 8) + (7 - (7 - k % 8)) = k by omega, he]

/-- The claim entries of a list that stands in rank order come back from its mask and its bytes. -/
theorem claimsOfBytes_eq {payload : List Byte} {maskFrom dataFrom first size : Nat} {l : List Claim}
    (hlen : l.length ≤ 8 * size) (hrank : ∀ (k : Nat) (e : Claim), l[k]? = some e → e.rank = first + k)
    (hl : ∀ e ∈ l, e.claimant < 64 ∧ 1 ≤ e.remaining ∧ e.remaining ≤ 8)
    (hmask : ∀ (j : Nat) (m : Byte), (countMask size l)[j]? = some m → payload[maskFrom + j]? = some m)
    (hdata : payload.drop dataFrom = l.map Claim.byte) : claimsOfBytes payload maskFrom dataFrom first = l := by
  unfold claimsOfBytes
  rw [hdata]
  refine List.ext_getElem? fun k => ?_
  rw [List.getElem?_mapIdx, List.getElem?_map]
  cases he : l[k]? with
  | none => rfl
  | some e =>
    have hk : k < l.length := (List.getElem?_eq_some_iff.mp he).1
    obtain ⟨m, hm, hbit⟩ := countMask_getElem? (size := size) (by omega) he
    obtain ⟨hc, h1, h8⟩ := hl e (List.mem_of_getElem? he)
    have hb : e.byte.toNat = 4 * e.claimant + (e.remaining - 1) % 4 := toNat_byte (by omega)
    simp only [Option.map_some, Option.some.injEq]
    rw [byteAt_of_getElem? (hmask _ _ hm), hbit, hb]
    obtain ⟨cl, rem, rank⟩ := e
    obtain rfl : rank = first + k := hrank k _ he
    simp only [Claim.mk.injEq, and_true]
    dsimp only at hc h1 h8 ⊢
    refine ⟨by omega, ?_⟩
    by_cases h4 : 4 < rem <;> simp [flagBit, h4] <;> omega

/-! ## The claim list in rank order -/

/-- A search that finds something exactly below m finds it in order. -/
theorem filterMap_range_prefix {α : Type} {g : Nat → Option α} {m : Nat} (h : ∀ i, (g i).isSome ↔ i < m) (n : Nat) :
    ((List.range n).filterMap g).length = min n m ∧
      ∀ k (e : α), ((List.range n).filterMap g)[k]? = some e → g k = some e := by
  induction n with
  | zero => simp
  | succ n ih =>
    obtain ⟨hlen, hget⟩ := ih
    rw [List.range_succ, List.filterMap_append]
    cases hg : g n with
    | none =>
      have hn : ¬ n < m := fun hn => by have := (h n).mpr hn; simp [hg] at this
      simp only [List.filterMap_cons, hg, List.filterMap_nil, List.append_nil]
      exact ⟨by omega, hget⟩
    | some e =>
      have hn : n < m := (h n).mp (by simp [hg])
      simp only [List.filterMap_cons, hg, List.filterMap_nil]
      refine ⟨by rw [List.length_append, hlen, List.length_singleton]; omega, fun k e' hk => ?_⟩
      by_cases hkn : k < ((List.range n).filterMap g).length
      · rw [List.getElem?_append_left hkn] at hk
        exact hget k e' hk
      · rw [List.getElem?_append_right (by omega), hlen] at hk
        obtain rfl : k = n := by
          have := (List.getElem?_eq_some_iff.mp hk).1
          rw [List.length_singleton] at this
          omega
        rw [hg, ← hk, show k - min k m = 0 by omega]
        rfl

/-- The ranks of the list are 1 to its length. -/
def RanksRun (cl : List Claim) : Prop := (cl.map Claim.rank).Perm ((List.range cl.length).map (· + 1))

theorem RanksRun.nodup {cl : List Claim} (h : RanksRun cl) : (cl.map Claim.rank).Nodup :=
  h.nodup_iff.mpr (List.nodup_range.map fun _ _ => by simp)

theorem RanksRun.mem {cl : List Claim} (h : RanksRun cl) (k : Nat) : k ∈ cl.map Claim.rank ↔ 1 ≤ k ∧ k ≤ cl.length := by
  rw [h.mem_iff, List.mem_map]
  constructor
  · rintro ⟨i, hi, rfl⟩
    have := List.mem_range.mp hi
    omega
  · rintro ⟨h1, h2⟩
    exact ⟨k - 1, List.mem_range.mpr (by omega), by omega⟩

/-- The entry of a rank. -/
def claimRanked (cl : List Claim) (k : Nat) : Option Claim := cl.find? fun e => decide (e.rank = k)

theorem claimRanked_some {cl : List Claim} {k : Nat} {e : Claim} (h : claimRanked cl k = some e) : e ∈ cl ∧ e.rank = k :=
  ⟨List.mem_of_find?_eq_some h, by simpa using List.find?_some h⟩

theorem RanksRun.claimRanked_iff {cl : List Claim} (h : RanksRun cl) {k : Nat} {e : Claim} :
    claimRanked cl k = some e ↔ e ∈ cl ∧ e.rank = k := by
  refine ⟨claimRanked_some, fun ⟨he, hk⟩ => ?_⟩
  cases hf : claimRanked cl k with
  | none => exact absurd hk (by simpa using List.find?_eq_none.mp hf e he)
  | some e' =>
    obtain ⟨he', hk'⟩ := claimRanked_some hf
    exact congrArg some (List.inj_on_of_nodup_map h.nodup he' he (hk'.trans hk.symm))

theorem RanksRun.isSome_claimRanked {cl : List Claim} (h : RanksRun cl) (k : Nat) :
    (claimRanked cl k).isSome ↔ 1 ≤ k ∧ k ≤ cl.length := by
  rw [← h.mem, List.mem_map, Option.isSome_iff_exists]
  exact exists_congr fun e => h.claimRanked_iff

theorem claimsByRank_eq (low high : Nat) (cl : List Claim) :
    claimsByRank low high cl = (List.range (high + 1 - low)).filterMap fun i => claimRanked cl (low + i) := rfl

/-- Entry k of a stretch of ranks has the k-th of them. -/
theorem claimsByRank_rank {cl : List Claim} (h : RanksRun cl) {low : Nat} (h1 : 1 ≤ low) (high : Nat) :
    (claimsByRank low high cl).length ≤ high + 1 - low ∧
      ∀ (k : Nat) (e : Claim), (claimsByRank low high cl)[k]? = some e → e.rank = low + k := by
  have hp := filterMap_range_prefix (g := fun i => claimRanked cl (low + i)) (m := cl.length + 1 - low)
    (fun i => by rw [h.isSome_claimRanked]; omega) (high + 1 - low)
  rw [claimsByRank_eq]
  exact ⟨by omega, fun k e he => (claimRanked_some (hp.2 k e he)).2⟩

theorem mem_claimsByRank {cl : List Claim} (h : RanksRun cl) {low high : Nat} {e : Claim} :
    e ∈ claimsByRank low high cl ↔ e ∈ cl ∧ low ≤ e.rank ∧ e.rank ≤ high := by
  rw [claimsByRank_eq, List.mem_filterMap]
  constructor
  · rintro ⟨i, hi, he⟩
    obtain ⟨hm, hr⟩ := claimRanked_some he
    have := List.mem_range.mp hi
    exact ⟨hm, by omega, by omega⟩
  · rintro ⟨hm, hlow, hhigh⟩
    exact ⟨e.rank - low, List.mem_range.mpr (by omega), h.claimRanked_iff.mpr ⟨hm, by omega⟩⟩

theorem claimsByRank_nodup (low high : Nat) (cl : List Claim) : (claimsByRank low high cl).Nodup := by
  rw [claimsByRank_eq]
  refine List.Nodup.filterMap (fun i j e hi hj => ?_) List.nodup_range
  have h1 := (claimRanked_some (Option.mem_def.mp hi)).2
  have h2 := (claimRanked_some (Option.mem_def.mp hj)).2
  omega

/-- The entries of the two segments are those of the list. -/
theorem claimsByRank_perm {cl : List Claim} (h : RanksRun cl) (h48 : cl.length ≤ 48) :
    (claimsByRank 1 32 cl ++ claimsByRank 33 48 cl).Perm cl := by
  have hcl : cl.Nodup := List.Nodup.of_map _ h.nodup
  refine (List.perm_ext_iff_of_nodup ?_ hcl).mpr fun e => ?_
  · refine (claimsByRank_nodup 1 32 cl).append (claimsByRank_nodup 33 48 cl) fun e h1 h2 => ?_
    have h1 := ((mem_claimsByRank h).mp h1).2
    have h2 := ((mem_claimsByRank h).mp h2).2
    omega
  · rw [List.mem_append, mem_claimsByRank h, mem_claimsByRank h]
    constructor
    · rintro (⟨hm, -⟩ | ⟨hm, -⟩) <;> exact hm
    · intro hm
      have hr := (h.mem e.rank).mp (List.mem_map_of_mem hm)
      by_cases h32 : e.rank ≤ 32
      · exact .inl ⟨hm, hr.1, h32⟩
      · exact .inr ⟨hm, by omega, by omega⟩

/-! ## Alert triples read back -/

theorem Grade.code_lt (g : Grade) : g.code < 4 := by cases g <;> decide

theorem gradeOf_code (g : Grade) : gradeOf g.code = g := by cases g <;> rfl

theorem ZoneEntry.bytes_of_none {e : ZoneEntry} (h : e.grade = .none) : e.bytes = [0, 0, 0] := by
  unfold ZoneEntry.bytes; rw [h]

theorem ZoneEntry.bytes_of_ne {e : ZoneEntry} (h : e.grade ≠ .none) : e.bytes =
    [BitVec.ofNat 8 (64 * e.grade.code + e.origin.getD 0), BitVec.ofNat 8 (e.age.getD 0 / 1000 / 256),
      BitVec.ofNat 8 (e.age.getD 0 / 1000)] := by
  unfold ZoneEntry.bytes
  cases hg : e.grade with
  | none => exact absurd hg h
  | _ => rfl

theorem ZoneEntry.bytes_length (e : ZoneEntry) : e.bytes.length = 3 := by
  by_cases h : e.grade = .none
  · rw [ZoneEntry.bytes_of_none h]; rfl
  · rw [ZoneEntry.bytes_of_ne h]; rfl

/-- An entry of the alert table as a joiner takes it over: its age in whole seconds (R98). -/
def ZoneEntry.inSeconds (e : ZoneEntry) : ZoneEntry := { e with age := e.age.map fun a => 1000 * (a / 1000) }

/-- An alert entry that can be sent: one of NONE is blank, another has an origin and an age (R98). -/
def ZoneEntry.Sendable (lifetime : Nat) (e : ZoneEntry) : Prop :=
  (e.grade = .none → e = .blank) ∧
    (e.grade ≠ .none → ∃ o a, e.origin = some o ∧ o < 64 ∧ e.age = some a ∧ a / 1000 < lifetime)

/-- An alert entry comes back from its triple. -/
theorem zoneOfBytes_bytes {lifetime i : Nat} {p : List Byte} {e : ZoneEntry} (he : e.Sendable lifetime)
    (hlife : lifetime < 65536) (hp : ∀ k < 3, p[i + k]? = e.bytes[k]?) :
    zoneOfBytes lifetime p i = e.inSeconds := by
  obtain ⟨hblank, hsome⟩ := he
  have hbyte : ∀ (k : Nat) (b : Byte), k < 3 → e.bytes[k]? = some b → numAt p (i + k) = b.toNat := fun k b hk hb =>
    congrArg BitVec.toNat (byteAt_of_getElem? ((hp k hk).trans hb))
  unfold zoneOfBytes
  by_cases hg : e.grade = .none
  · have h0 := hbyte 0 0 (by omega) (by rw [ZoneEntry.bytes_of_none hg]; rfl)
    rw [show numAt p i = 0 from h0, hblank hg]
    rfl
  · obtain ⟨o, a, ho, ho64, ha, hlt⟩ := hsome hg
    have hcode := e.grade.code_lt
    have hbytes := ZoneEntry.bytes_of_ne hg
    rw [ho, ha] at hbytes
    have h0 := hbyte 0 _ (by omega) (by rw [hbytes]; rfl)
    have h1 := hbyte 1 _ (by omega) (by rw [hbytes]; rfl)
    have h2 := hbyte 2 _ (by omega) (by rw [hbytes]; rfl)
    have hage : num16At p (i + 1) = a / 1000 := by
      unfold num16At
      rw [h1, h2, BitVec.toNat_ofNat, BitVec.toNat_ofNat]
      simp only [Option.getD_some]
      omega
    have hfirst : numAt p i = 64 * e.grade.code + o := h0.trans (toNat_byte (by simp; omega))
    dsimp only
    rw [hfirst, show (64 * e.grade.code + o) / 64 = e.grade.code by omega,
      show (64 * e.grade.code + o) % 64 = o by omega, gradeOf_code, hage, if_neg hg, if_neg (by omega)]
    unfold ZoneEntry.inSeconds
    rw [← ho, ha]
    rfl

/-- Where every part has three bytes, byte 3z + k of the whole is byte k of part z. -/
theorem flatMap_getElem?_of_three {α : Type} {f : α → List Byte} (hf : ∀ x, (f x).length = 3) (l : List α) (z : Nat)
    {k : Nat} (hk : k < 3) : (l.flatMap f)[3 * z + k]? = l[z]?.bind fun x => (f x)[k]? := by
  induction l generalizing z with
  | nil => simp
  | cons x l ih =>
    rw [List.flatMap_cons]
    cases z with
    | zero => rw [List.getElem?_append_left (by rw [hf]; omega)]; simp
    | succ z =>
      rw [List.getElem?_append_right (by rw [hf]; omega), hf, show 3 * (z + 1) + k - 3 = 3 * z + k by omega, ih]
      simp

theorem flatMap_length_of_three {α : Type} {f : α → List Byte} (hf : ∀ x, (f x).length = 3) (l : List α) :
    (l.flatMap f).length = 3 * l.length := by
  induction l with
  | nil => rfl
  | cons x l ih => rw [List.flatMap_cons, List.length_append, hf, ih, List.length_cons]; omega

/-! ## The four segments -/

theorem countMask_length (size : Nat) (l : List Claim) : (countMask size l).length = size := by simp [countMask]

section
variable {s : State} {c : Image}

theorem segmentBytes_zero {r : List RosterEntry} {q : Nat} (hr : s.mu.roster = some r) (hq : s.sa.curtail = some q) :
    s.segmentBytes c 0 = BitVec.ofNat 8 c.pool :: BitVec.ofNat 8 q :: r.map RosterEntry.byte := by
  unfold State.segmentBytes
  rw [hr, hq]
  rfl

theorem segmentBytes_one {sh : List Share} (hs : s.sa.shares = some sh) : s.segmentBytes c 1 = sh.map Share.byte := by
  unfold State.segmentBytes
  rw [hs]
  rfl

theorem segmentBytes_two : s.segmentBytes c 2 =
    countMask 4 (claimsByRank 1 32 s.sa.claims) ++ (claimsByRank 1 32 s.sa.claims).map Claim.byte := rfl

theorem segmentBytes_three {al : List ZoneEntry} (ha : s.ru.alerts = some al) : s.segmentBytes c 3 =
    ([1#8] ++ countMask 2 (claimsByRank 33 48 s.sa.claims) ++ al.flatMap ZoneEntry.bytes) ++
      (claimsByRank 33 48 s.sa.claims).map Claim.byte := by
  unfold State.segmentBytes
  rw [ha]
  rfl

end

/-- Settles O32: each part of the tables comes back from its bytes. -/
theorem burstBringsTheTables : Obligations.BurstBringsTheTables := by
  intro s c r sh q al hr hs hq ha h48 h15 hq256 hp256 hroster hshares hclaims hranks hn48 hnone hsome hlife
  have hrun : RanksRun s.sa.claims := hranks
  have hzero := segmentBytes_zero (c := c) hr hq
  have hthree := segmentBytes_three (c := c) ha
  have hclaim : ∀ low high, ∀ e ∈ claimsByRank low high s.sa.claims,
      e.claimant < 64 ∧ 1 ≤ e.remaining ∧ e.remaining ≤ 8 := fun low high e he => hclaims e ((mem_claimsByRank hrun).mp he).1
  refine ⟨?_, ?_, ?_, ?_, ?_, ?_⟩
  · rw [hzero]; exact toNat_byte hp256
  · rw [hzero]; exact toNat_byte hq256
  · rw [hzero]
    unfold rosterOfBytes
    rw [List.drop_succ_cons, List.drop_succ_cons, List.drop_zero, List.map_map]
    refine List.map_congr_left fun e he => ?_
    obtain ⟨hu, hd, h0⟩ := hroster e he
    exact entryOfByte_byte hu hd h0
  · rw [segmentBytes_one hs]; exact map_shareOfByte_byte hshares
  · obtain ⟨hlen2, hrank2⟩ := claimsByRank_rank hrun (low := 1) (by omega) 32
    obtain ⟨hlen3, hrank3⟩ := claimsByRank_rank hrun (low := 33) (by omega) 48
    have hmask3 := countMask_length 2 (claimsByRank 33 48 s.sa.claims)
    have htwo : claimsOfBytes (s.segmentBytes c 2) 0 4 1 = claimsByRank 1 32 s.sa.claims := by
      refine claimsOfBytes_eq (size := 4) hlen2 hrank2 (hclaim 1 32) (fun j m hm => ?_) ?_
      · rw [segmentBytes_two, List.getElem?_append_left (by have := (List.getElem?_eq_some_iff.mp hm).1; omega),
          Nat.zero_add, hm]
      · rw [segmentBytes_two]
        exact List.drop_left' (countMask_length 4 _)
    have hthird : claimsOfBytes (s.segmentBytes c 3) 1 48 33 = claimsByRank 33 48 s.sa.claims := by
      refine claimsOfBytes_eq (size := 2) hlen3 hrank3 (hclaim 33 48) (fun j m hm => ?_) ?_
      · have hj := (List.getElem?_eq_some_iff.mp hm).1
        rw [hthree, List.append_assoc, List.append_assoc, List.getElem?_append_right (by simp),
          List.getElem?_append_left (by simp; omega), List.length_singleton, show 1 + j - 1 = j by omega, hm]
      · rw [hthree]
        refine List.drop_left' ?_
        rw [List.length_append, List.length_append, hmask3, flatMap_length_of_three ZoneEntry.bytes_length, h15]
        rfl
    rw [htwo, hthird]
    exact claimsByRank_perm hrun hn48
  · have hmask3 := countMask_length 2 (claimsByRank 33 48 s.sa.claims)
    refine List.ext_getElem? fun z => ?_
    unfold alertsOfBytes
    rw [List.getElem?_map, List.getElem?_map]
    by_cases hz : z < 15
    · obtain ⟨e, he⟩ : ∃ e, al[z]? = some e := ⟨al[z], List.getElem?_eq_getElem (by omega)⟩
      have hmem := List.mem_of_getElem? he
      rw [List.getElem?_range hz, he, Option.map_some, Option.map_some]
      refine congrArg some (zoneOfBytes_bytes ⟨hnone e hmem, hsome e hmem⟩ hlife fun k hk => ?_)
      have hflat := flatMap_getElem?_of_three ZoneEntry.bytes_length al z hk
      have hlen := flatMap_length_of_three ZoneEntry.bytes_length al
      rw [hthree, List.getElem?_append_left (by simp only [List.length_append, List.length_singleton]; omega),
        List.getElem?_append_right (by simp only [List.length_append, List.length_singleton]; omega),
        List.length_append, hmask3, List.length_singleton, show 3 + 3 * z + k - (1 + 2) = 3 * z + k by omega, hflat, he]
      rfl
    · rw [List.getElem?_eq_none (by simpa using hz), List.getElem?_eq_none (by omega)]
      rfl

end Sys2Proof.Machine

namespace Sys2Proof.Machine

open Sys2Proof

/-! ## Ascending lists -/

/-- The last member of an ascending list is its highest. -/
theorem getLast?_le {l : List Nat} (hl : l.Pairwise (· < ·)) {i : Nat} (h : l.getLast? = some i) {j : Nat} (hj : j ∈ l) :
    j ≤ i := by
  obtain ⟨l', rfl⟩ := List.getLast?_eq_some_iff.mp h
  rcases List.mem_append.mp hj with hj | hj
  · exact Nat.le_of_lt ((List.pairwise_append.mp hl).2.2 j hj i (List.mem_singleton_self i))
  · exact Nat.le_of_eq (List.mem_singleton.mp hj)

theorem getLast?_of_highest {l : List Nat} (hl : l.Pairwise (· < ·)) {i : Nat} (hi : i ∈ l) (h : ∀ j ∈ l, j ≤ i) :
    l.getLast? = some i := by
  cases hg : l.getLast? with
  | none => rw [List.getLast?_eq_none_iff.mp hg] at hi; cases hi
  | some k => exact congrArg some (Nat.le_antisymm (h k (List.mem_of_getLast? hg)) (getLast?_le hl hg hi))

theorem keptHoldings_pairwise (s : State) (c : Image) : (s.keptHoldings c).Pairwise (· < ·) := by
  have hh : (s.holdings c.station).Pairwise (· < ·) := by
    unfold State.holdings
    split
    · exact List.Pairwise.nil
    · exact List.pairwise_lt_range.filter _
  exact hh.filter _

theorem keptHoldings_eq_nil {s : State} {c : Image} :
    s.keptHoldings c = [] ↔ ∀ j ∈ s.holdings c.station, j ∈ s.sa.outgoing := without_eq_nil

/-! ## What the yield rule looks at -/

theorem yielder_congr {s t : State} (ht : t.tables = s.tables) (hr : t.mu.roster = s.mu.roster) : t.yielder = s.yielder := by
  unfold State.yielder State.isCandidate State.isLinked State.rosterUrgency State.entry State.holdings
  rw [claims_of_tables ht, shares_of_tables ht, hr]

theorem tablesChanged_congr {s t : State} (b : State) (ht : t.tables = s.tables) (hr : t.mu.roster = s.mu.roster) :
    tablesChanged b t = tablesChanged b s := by
  unfold tablesChanged
  rw [claims_of_tables ht, shares_of_tables ht, hr]

theorem tablesChanged_of_claims {b s : State} (h : b.sa.claims ≠ s.sa.claims) : tablesChanged b s = true := by
  unfold tablesChanged; simp [h]

theorem tablesChanged_of_shares {b s : State} (h : b.sa.shares ≠ s.sa.shares) : tablesChanged b s = true := by
  unfold tablesChanged; simp [h]

theorem parkingReleaseDue_iff {c : Image} {b s : State} : parkingReleaseDue c b s = true ↔
    b.sa.claims = [] ∧ s.sa.claims ≠ [] ∧ s.ts.drain = .parked ∧ s.holdings c.station ≠ [] := by
  unfold parkingReleaseDue
  simp [and_assoc]

/-! ## The stages of the SA's part after a frame -/

/-- The shares that come to a station under the release mark, and those that come back to it, go out (R27, R31). -/
def State.ownArrivals (s : State) (c : Image) : State := (s.releaseArrivals c).rejoinOutgoing c

theorem afterFrame_linked {s : State} (h : s.mu.membership = .linked) (b : State) (c : Image) :
    s.afterFrame b c = ((s.ownArrivals c).yieldAndPark b c).completeRelease c := if_pos h

section
variable (s : State) (c : Image)

theorem ownArrivals_eq : ∃ l o, s.ownArrivals c = { s with lc := l, sa := { s.sa with outgoing := o } } := by
  unfold State.ownArrivals
  rw [rejoinOutgoing_eq]
  unfold State.releaseArrivals
  (repeat' split) <;> exact ⟨_, _, rfl⟩

theorem ownArrivals_tables : (s.ownArrivals c).tables = s.tables := by
  obtain ⟨l, o, h⟩ := ownArrivals_eq s c; rw [h]; rfl

theorem ownArrivals_mu : (s.ownArrivals c).mu = s.mu := by
  obtain ⟨l, o, h⟩ := ownArrivals_eq s c; rw [h]

theorem ownArrivals_ts : (s.ownArrivals c).ts = s.ts := by
  obtain ⟨l, o, h⟩ := ownArrivals_eq s c; rw [h]

theorem ownArrivals_releaseMark : (s.ownArrivals c).sa.releaseMark = s.sa.releaseMark := by
  obtain ⟨l, o, h⟩ := ownArrivals_eq s c; rw [h]

theorem ownArrivals_holdings (n : Nat) : (s.ownArrivals c).holdings n = s.holdings n :=
  holdings_of_tables (ownArrivals_tables s c) n

theorem ownArrivals_yielder : (s.ownArrivals c).yielder = s.yielder :=
  yielder_congr (ownArrivals_tables s c) (by rw [ownArrivals_mu])

theorem ownArrivals_tablesChanged (b : State) : tablesChanged b (s.ownArrivals c) = tablesChanged b s :=
  tablesChanged_congr b (ownArrivals_tables s c) (by rw [ownArrivals_mu])

theorem ownArrivals_due (b : State) : parkingReleaseDue c b (s.ownArrivals c) = parkingReleaseDue c b s := by
  unfold parkingReleaseDue
  rw [claims_of_tables (ownArrivals_tables s c), ownArrivals_ts, ownArrivals_holdings]

theorem ownArrivals_slot {id : SlotId} (h : id ≠ .release) : (s.ownArrivals c).slot id = s.slot id := by
  unfold State.ownArrivals
  rw [rejoinOutgoing_slot, releaseArrivals_slot s c h]

/-- Without the release mark only what comes back goes out again. -/
theorem ownArrivals_of_unmarked {s : State} (h : s.sa.releaseMark = false) : s.ownArrivals c = s.rejoinOutgoing c := by
  unfold State.ownArrivals State.releaseArrivals
  rw [h]
  rfl

/-- Under the release mark every own share is outgoing (R31). -/
theorem ownArrivals_of_marked {s : State} (h : s.sa.releaseMark = true) {j : Nat} (h64 : j < 64)
    (hj : j ∈ s.holdings c.station) : j ∈ (s.ownArrivals c).sa.outgoing := by
  refine (rejoinOutgoing_grows _ c).2.1 j h64 ?_
  by_cases ho : j ∈ s.sa.outgoing
  · exact (releaseArrivals_grows s c).2.1 j h64 ho
  · have hk : j ∈ s.keptHoldings c := (mem_keptHoldings s c).mpr ⟨hj, ho⟩
    unfold State.releaseArrivals
    rw [h, if_pos rfl]
    split
    · next he => rw [he] at hk; cases hk
    · exact mem_unionBelow.mpr ⟨h64, .inr hk⟩

theorem slotEmpty_release_releaseShares (l : List Nat) : (s.releaseShares l).slotEmpty .release = false := by
  unfold State.slotEmpty State.releaseShares
  rw [writeSlot_slot_same]
  exact write_not_empty _ _

theorem ownArrivals_release {s : State} (h : s.sa.releaseMark = true) (hk : s.keptHoldings c ≠ []) :
    (s.ownArrivals c).slotEmpty .release = false := by
  unfold State.ownArrivals State.slotEmpty
  rw [rejoinOutgoing_slot]
  unfold State.releaseArrivals
  rw [h, if_pos rfl]
  split
  · next he => exact absurd he hk
  · exact slotEmpty_release_releaseShares s _

/-- A RELEASE slot that holds something still does. -/
theorem ownArrivals_release_of_full {s : State} (h : s.slotEmpty .release = false) :
    (s.ownArrivals c).slotEmpty .release = false := by
  unfold State.ownArrivals State.slotEmpty
  rw [rejoinOutgoing_slot]
  unfold State.releaseArrivals
  (repeat' split)
  · exact h
  · exact slotEmpty_release_releaseShares s _
  · exact h

/-! ### The yield rule -/

theorem yieldIfNamed_of_unnamed {s : State} (h : s.yielder ≠ some c.station ∨ s.slotEmpty .yield = false) :
    s.yieldIfNamed c = s := by
  refine if_neg ?_
  rintro ⟨h1, h2⟩
  rcases h with h | h
  · exact h h1
  · rw [h] at h2; cases h2

theorem yieldIfNamed_of_out {s : State} (h : s.keptHoldings c = []) : s.yieldIfNamed c = s := by
  unfold State.yieldIfNamed
  rw [h]
  split <;> rfl

/-- The named station yields its highest share that is not outgoing (R25). -/
theorem yieldIfNamed_of_named {s : State} {i : Nat} (hy : s.yielder = some c.station) (he : s.slotEmpty .yield = true)
    (hi : (s.keptHoldings c).getLast? = some i) : s.yieldIfNamed c =
      (s.mapSa fun a => { a with outgoing := unionBelow 64 a.outgoing [i] }).writeSlot .yield (.yield i) := by
  unfold State.yieldIfNamed
  rw [if_pos ⟨hy, he⟩, hi]

theorem yieldIfNamed_eq : ∃ l o, s.yieldIfNamed c = { s with lc := l, sa := { s.sa with outgoing := o } } := by
  unfold State.yieldIfNamed
  (repeat' split) <;> exact ⟨_, _, rfl⟩

theorem yieldIfNamed_ts : (s.yieldIfNamed c).ts = s.ts := by
  obtain ⟨l, o, h⟩ := yieldIfNamed_eq s c; rw [h]

theorem yieldIfNamed_releaseMark : (s.yieldIfNamed c).sa.releaseMark = s.sa.releaseMark := by
  obtain ⟨l, o, h⟩ := yieldIfNamed_eq s c; rw [h]

/-! ### The parking release -/

theorem parkingRelease_releasesAll : ReleasesAll c s (s.parkingRelease c) :=
  ⟨rfl, slotEmpty_release_releaseShares _ _, fun _ hj hm => mem_unionBelow.mpr ⟨hj, .inr hm⟩⟩

theorem parkingRelease_ts : (s.parkingRelease c).ts = { s.ts with parkTimer := none } := rfl

theorem ReleasesAll.trans_grows {c : Image} {s t u : State} (h : ReleasesAll c s t) (hg : OutgoingGrows c t u)
    (hm : u.sa.releaseMark = t.sa.releaseMark) (hs : u.slot .release = t.slot .release) : ReleasesAll c s u := by
  obtain ⟨h1, h2, h3⟩ := h
  exact ⟨hm.trans h1, by unfold State.slotEmpty; rw [hs]; exact h2, fun j hj hmem => hg.2.1 j hj (h3 j hj hmem)⟩

/-- Where no parking release is due, the yield rule acts if the tables have changed. -/
theorem yieldAndPark_of_not_due {s b : State} (h : parkingReleaseDue c b s = false) :
    s.yieldAndPark b c = if tablesChanged b s then s.yieldIfNamed c else s := by
  unfold State.yieldAndPark
  rw [h]
  cases tablesChanged b s <;> rfl

/-- Where one is due, both orders of the two release all, and no timer judges the park (R33, R81). -/
theorem yieldAndPark_of_due {s b : State} (h : parkingReleaseDue c b s = true) :
    ReleasesAll c s (s.yieldAndPark b c) ∧ (s.yieldAndPark b c).ts = { s.ts with parkTimer := none } := by
  have hch : tablesChanged b s = true := by
    obtain ⟨h1, h2, -⟩ := parkingReleaseDue_iff.mp h
    exact tablesChanged_of_claims (by rw [h1]; exact h2.symm)
  unfold State.yieldAndPark
  rw [h, hch]
  dsimp only
  split
  · refine ⟨?_, ?_⟩
    · obtain ⟨h1, h2, h3⟩ := parkingRelease_releasesAll (s.drawFree.yieldIfNamed c) c
      exact ⟨h1, h2, fun j hj hm => h3 j hj (holdings_of_shares_eq (yieldIfNamed_grows s.drawFree c).1 _ ▸ hm)⟩
    · rw [parkingRelease_ts, yieldIfNamed_ts]; rfl
  · refine ⟨?_, ?_⟩
    · exact (parkingRelease_releasesAll s.drawFree c).trans_grows (yieldIfNamed_grows _ c) (yieldIfNamed_releaseMark _ c)
        (yieldIfNamed_slot _ c (by decide))
    · rw [yieldIfNamed_ts, parkingRelease_ts]; rfl

/-! ### The completed release -/

theorem releaseComplete_iff {s : State} : s.releaseComplete c = true ↔ s.sa.releaseMark = true ∧
    s.holdings c.station = [] ∧ s.hasClaim c.station = false ∧ s.slotEmpty .claim = true ∧ s.slotEmpty .release = true := by
  unfold State.releaseComplete
  simp [and_assoc]

theorem completeRelease_of_not {s : State} (h : s.releaseComplete c ≠ true) : s.completeRelease c = s := if_neg h

/-- A completed release clears the mark, and takes a PARKED machine to IDLE (R31, R82). -/
theorem completeRelease_of {s : State} (h : s.releaseComplete c = true) :
    (s.completeRelease c).sa.releaseMark = false ∧
      (s.ts.drain = .parked → (s.completeRelease c).ts.drain = .idle ∧ (s.completeRelease c).ts.parkTimer = none) ∧
      (s.ts.drain ≠ .parked → (s.completeRelease c).ts = s.ts) := by
  unfold State.completeRelease
  rw [if_pos h]
  refine ⟨rfl, fun hd => ?_, fun hd => if_neg hd⟩
  show (if s.ts.drain = .parked then _ else _ : TsState).drain = .idle ∧
    (if s.ts.drain = .parked then _ else _ : TsState).parkTimer = none
  rw [if_pos hd]
  exact ⟨rfl, rfl⟩

end

/-! ## The own shares after a frame (R25, R27, R31, R33) -/

section
variable {s : State} {c : Image}

/-- The yielder yields its highest share that is not outgoing. -/
theorem afterFrame_yields {b : State} (hl : s.mu.membership = .linked) (hdue : parkingReleaseDue c b s = false)
    (hm : s.sa.releaseMark = false) (hch : tablesChanged b s = true) (hy : s.yielder = some c.station)
    (he : s.slotEmpty .yield = true) {i : Nat} (hi : i ∈ s.holdings c.station)
    (hno : ¬(i ∈ s.sa.outgoing ∨ (i ∈ s.holdings c.station ∧ i ∈ s.namedShares)))
    (hmax : ∀ j ∈ s.holdings c.station,
      ¬(j ∈ s.sa.outgoing ∨ (j ∈ s.holdings c.station ∧ j ∈ s.namedShares)) → j ≤ i) :
    ((s.afterFrame b c).slot .yield).state = .pending (.yield i) ∧ (s.afterFrame b c).ts = s.ts ∧
      (s.afterFrame b c).sa.releaseMark = false ∧
      ∀ j, j < 64 → (j ∈ (s.afterFrame b c).sa.outgoing ↔
        (j ∈ s.sa.outgoing ∨ (j ∈ s.holdings c.station ∧ j ∈ s.namedShares)) ∨ j = i) := by
  have hz := ownArrivals_of_unmarked c hm
  have hout : ∀ j, j ∈ (s.ownArrivals c).sa.outgoing ↔
      j ∈ s.sa.outgoing ∨ (j ∈ s.holdings c.station ∧ j ∈ s.namedShares) := fun j => by rw [hz]; exact mem_rejoinOutgoing s c j
  have hlast : ((s.ownArrivals c).keptHoldings c).getLast? = some i := by
    refine getLast?_of_highest (keptHoldings_pairwise _ c) ?_ fun j hj => ?_
    · rw [mem_keptHoldings, ownArrivals_holdings, hout]; exact ⟨hi, hno⟩
    · rw [mem_keptHoldings, ownArrivals_holdings, hout] at hj; exact hmax j hj.1 hj.2
  have hze : (s.ownArrivals c).slotEmpty .yield = true := by
    unfold State.slotEmpty; rw [ownArrivals_slot s c (by decide)]; exact he
  have hstep : (s.ownArrivals c).yieldAndPark b c = (s.ownArrivals c).yieldIfNamed c := by
    rw [yieldAndPark_of_not_due c ((ownArrivals_due s c b).trans hdue), ownArrivals_tablesChanged, hch, if_pos rfl]
  have hnot : ((s.ownArrivals c).yieldIfNamed c).releaseComplete c ≠ true := fun h => by
    have := ((releaseComplete_iff c).mp h).1
    rw [yieldIfNamed_releaseMark, ownArrivals_releaseMark, hm] at this
    cases this
  rw [afterFrame_linked hl, hstep, completeRelease_of_not c hnot]
  refine ⟨?_, ?_, ?_, fun j hj => ?_⟩
  · rw [yieldIfNamed_of_named c ((ownArrivals_yielder s c).trans hy) hze hlast, writeSlot_slot_same]
    exact write_of_empty hze _
  · rw [yieldIfNamed_ts, ownArrivals_ts]
  · rw [yieldIfNamed_releaseMark, ownArrivals_releaseMark, hm]
  · rw [yieldIfNamed_of_named c ((ownArrivals_yielder s c).trans hy) hze hlast, ← hout j]
    refine (mem_unionBelow (n := 64)).trans ?_
    rw [List.mem_singleton]
    exact and_iff_right hj

/-- Without the release mark and without a yield only what comes back goes out again. -/
theorem afterFrame_rests {b : State} (hl : s.mu.membership = .linked) (hdue : parkingReleaseDue c b s = false)
    (hm : s.sa.releaseMark = false)
    (h : tablesChanged b s = false ∨ s.yielder ≠ some c.station ∨ s.slotEmpty .yield = false ∨
      ∀ j ∈ s.holdings c.station, j ∈ s.sa.outgoing ∨ (j ∈ s.holdings c.station ∧ j ∈ s.namedShares)) :
    s.afterFrame b c = s.rejoinOutgoing c := by
  have hz := ownArrivals_of_unmarked c hm
  have hnot : (s.ownArrivals c).releaseComplete c ≠ true := fun h => by
    have := ((releaseComplete_iff c).mp h).1
    rw [ownArrivals_releaseMark, hm] at this
    cases this
  have hstep : (s.ownArrivals c).yieldAndPark b c = s.ownArrivals c := by
    rw [yieldAndPark_of_not_due c ((ownArrivals_due s c b).trans hdue), ownArrivals_tablesChanged]
    split
    · next hch =>
      rcases h with h | h | h | h
      · rw [h] at hch; cases hch
      · exact yieldIfNamed_of_unnamed c (.inl (by rw [ownArrivals_yielder]; exact h))
      · refine yieldIfNamed_of_unnamed c (.inr ?_)
        unfold State.slotEmpty; rw [ownArrivals_slot s c (by decide)]; exact h
      · refine yieldIfNamed_of_out c (keptHoldings_eq_nil.mpr fun j hj => ?_)
        rw [ownArrivals_holdings] at hj
        rw [hz]
        exact (mem_rejoinOutgoing s c j).mpr (h j hj)
    · rfl
  rw [afterFrame_linked hl, hstep, completeRelease_of_not c hnot, hz]

/-- What a LINKED station's frame leaves outgoing under the release mark. -/
theorem afterFrame_marked {b : State} (hl : s.mu.membership = .linked) (hdue : parkingReleaseDue c b s = false)
    (hm : s.sa.releaseMark = true) :
    (∀ j, j < 64 → j ∈ s.holdings c.station → j ∈ (s.afterFrame b c).sa.outgoing) ∧
    ((∃ j ∈ s.holdings c.station, j ∉ s.sa.outgoing) → (s.afterFrame b c).slotEmpty .release = false) ∧
    (s.holdings c.station = [] ∧ s.hasClaim c.station = false ∧ s.slotEmpty .claim = true ∧ s.slotEmpty .release = true →
      (s.afterFrame b c).sa.releaseMark = false ∧
        (s.ts.drain = .parked → (s.afterFrame b c).ts.drain = .idle ∧ (s.afterFrame b c).ts.parkTimer = none) ∧
        (s.ts.drain ≠ .parked → (s.afterFrame b c).ts = s.ts)) ∧
    (s.holdings c.station ≠ [] ∨ s.hasClaim c.station = true ∨ s.slotEmpty .claim = false ∨
        s.slotEmpty .release = false →
      (s.afterFrame b c).sa.releaseMark = true ∧ (s.afterFrame b c).ts = s.ts) := by
  obtain ⟨w, hw, hwg, hwm, hwt, hwk, hws⟩ : ∃ w, (s.ownArrivals c).yieldAndPark b c = w ∧
      OutgoingGrows c (s.ownArrivals c) w ∧ w.sa.releaseMark = true ∧ w.ts = s.ts ∧ w.tables = s.tables ∧
      ∀ id, id ≠ .yield → w.slot id = (s.ownArrivals c).slot id := by
    refine ⟨_, rfl, ?_⟩
    rw [yieldAndPark_of_not_due c ((ownArrivals_due s c b).trans hdue)]
    split
    · refine ⟨yieldIfNamed_grows _ c, ?_, ?_, ?_, fun id hid => yieldIfNamed_slot _ c hid⟩
      · rw [yieldIfNamed_releaseMark, ownArrivals_releaseMark, hm]
      · rw [yieldIfNamed_ts, ownArrivals_ts]
      · rw [yieldIfNamed_tables, ownArrivals_tables]
    · exact ⟨.refl _, (ownArrivals_releaseMark s c).trans hm, ownArrivals_ts s c, ownArrivals_tables s c, fun _ _ => rfl⟩
  have hcl : w.slotEmpty .claim = s.slotEmpty .claim := by
    unfold State.slotEmpty; rw [hws .claim (by decide), ownArrivals_slot s c (by decide)]
  have hre : w.slotEmpty .release = (s.ownArrivals c).slotEmpty .release := by
    unfold State.slotEmpty; rw [hws .release (by decide)]
  have hhold := holdings_of_tables hwk c.station
  have hclaim := hasClaim_of_claims (claims_of_tables hwk) c.station
  rw [afterFrame_linked hl, hw]
  refine ⟨fun j hj hmem => ?_, fun ⟨j, hj, hno⟩ => ?_, fun ⟨h1, h2, h3, h4⟩ => ?_, fun h => ?_⟩
  · exact (completeRelease_grows w c).2.1 j hj (hwg.2.1 j hj (ownArrivals_of_marked c hm hj hmem))
  · unfold State.slotEmpty
    rw [completeRelease_slot]
    exact hre.trans (ownArrivals_release c hm fun hk => hno (keptHoldings_eq_nil.mp hk j hj))
  · have hz : s.ownArrivals c = s := by
      have hk : s.keptHoldings c = [] := keptHoldings_eq_nil.mpr fun j hj => by rw [h1] at hj; cases hj
      unfold State.ownArrivals State.releaseArrivals
      rw [hm, if_pos rfl, hk]
      exact rejoinOutgoing_of_out fun j hj => by rw [h1] at hj; cases hj
    have hdone : w.releaseComplete c = true :=
      (releaseComplete_iff c).mpr ⟨hwm, hhold.trans h1, hclaim.trans h2, hcl.trans h3, hre.trans (by rw [hz]; exact h4)⟩
    rw [← hwt]
    exact completeRelease_of c hdone
  · have hnot : w.releaseComplete c ≠ true := fun hd => by
      obtain ⟨-, d1, d2, d3, d4⟩ := (releaseComplete_iff c).mp hd
      rcases h with h | h | h | h
      · exact h (hhold.symm.trans d1)
      · rw [hclaim, h] at d2; cases d2
      · rw [hcl, h] at d3; cases d3
      · rw [hre, ownArrivals_release_of_full c h] at d4; cases d4
    rw [completeRelease_of_not c hnot]
    exact ⟨hwm, hwt⟩

/-- A PARKED station whose list becomes non-empty releases all (R33, R81). -/
theorem afterFrame_parks {b : State} (hl : s.mu.membership = .linked) (hdue : parkingReleaseDue c b s = true) :
    ReleasesAll c s (s.afterFrame b c) ∧ (s.afterFrame b c).ts.drain = .parked ∧ (s.afterFrame b c).ts.parkTimer = none := by
  obtain ⟨h1, h2⟩ := yieldAndPark_of_due c ((ownArrivals_due s c b).trans hdue)
  obtain ⟨-, -, hd, hown⟩ := parkingReleaseDue_iff.mp hdue
  have hnot : ((s.ownArrivals c).yieldAndPark b c).releaseComplete c ≠ true := fun h => by
    have hh := ((releaseComplete_iff c).mp h).2.1
    rw [holdings_of_shares_eq (yieldAndPark_grows _ c b).1, ownArrivals_holdings] at hh
    exact hown hh
  rw [afterFrame_linked hl, completeRelease_of_not c hnot, h2, ownArrivals_ts]
  obtain ⟨r1, r2, r3⟩ := h1
  exact ⟨⟨r1, r2, fun n hn hm => r3 n hn (by rw [ownArrivals_holdings]; exact hm)⟩, hd, rfl⟩

end

end Sys2Proof.Machine

namespace Sys2Proof.Machine

open Sys2Proof

/-! ## A release-all request (R31) -/

theorem releaseAll_of_empty {s : State} (c : Image) (h : s.slotEmpty .release = true) :
    ((s.releaseAll c).slot .release).state = .pending (.release (s.holdings c.station)) := by
  unfold State.releaseAll State.releaseShares
  rw [writeSlot_slot_same]
  exact write_of_empty h _

/-- A PENDING RELEASE takes the new shares in. -/
theorem releaseAll_of_pending {s : State} (c : Image) {old : List Nat} (h : (s.slot .release).state = .pending (.release old)) :
    ((s.releaseAll c).slot .release).state = .pending (.release (unionBelow 64 old (s.holdings c.station))) := by
  have hw : ∀ x : Slot, x.state = .pending (.release old) → ∀ new,
      (x.write (.release new)).state = .pending (.release (unionBelow 64 old new)) := by
    intro x hx new
    unfold Slot.write
    rw [hx]
    rfl
  unfold State.releaseAll State.releaseShares
  rw [writeSlot_slot_same]
  exact hw _ h _

/-! ## The outgoing set at an accepted own YIELD or RELEASE (R27) -/

theorem spoilJoin_membership (s : State) (c : Image) : (s.spoilJoin c).mu.membership = .listening := rfl

theorem spoilJoin_outgoing (s : State) (c : Image) : (s.spoilJoin c).sa.outgoing = [] := rfl

/-- At a station that is not LINKED, what follows the owner is at most the spoiling of a join (R49). -/
theorem ownerDone_unlinked {u : State} (hl : u.mu.membership ≠ .linked) (c : Image) (a : Arrival) (f : Frame) :
    u.ownerDone c a f = u ∨ u.ownerDone c a f = u.spoilJoin c := by
  unfold State.ownerDone State.spoil
  rw [restartPresence_of_unlinked c a hl]
  dsimp only
  split
  · split
    · next hlk => exact absurd hlk hl
    · exact .inr rfl
    · exact .inr rfl
    · exact .inl rfl
  · exact .inl rfl

theorem linked_of_ownerDone {u : State} {c : Image} {a : Arrival} {f : Frame}
    (h : (u.ownerDone c a f).mu.membership = .linked) : u.mu.membership = .linked := by
  by_contra hl
  rcases ownerDone_unlinked hl c a f with he | he <;> rw [he] at h
  · exact hl h
  · rw [spoilJoin_membership] at h; cases h

/-- What follows the owner adds no share to the outgoing set but an own one. -/
theorem followUp_outgoing {u : State} (c : Image) (a : Arrival) (f : Frame) (b : State) {j : Nat}
    (h : j ∈ (u.followUp c a f b).sa.outgoing) : j ∈ u.sa.outgoing ∨
      ((u.followUp c a f b).sa.shares = u.sa.shares ∧ j ∈ u.holdings c.station) := by
  by_cases hl : u.mu.membership = .linked
  · have hg := followUp_grows c hl a f b
    exact (hg.2.2 j h).imp_right fun hj => ⟨hg.1, hj⟩
  · have ho : u.followUp c a f b = u.ownerDone c a f := if_neg fun h => hl (linked_of_ownerDone h)
    rw [ho] at h
    rcases ownerDone_unlinked hl c a f with he | he <;> rw [he] at h
    · exact .inl h
    · rw [spoilJoin_outgoing] at h; cases h

/-- A share that the owner has taken out of the outgoing set is in it at the end of the command only if it is an own one. -/
theorem receive_outgoing {s : State} {c : Image} {f : Frame} (h : Hears s c) (hf : f.fromStation = true)
    {o : Image → Arrival → State → State} {j : Nat}
    (ho : j ∉ (o c (s.arrival c f) (s.heardFrame c f)).sa.outgoing)
    (hj : j ∉ (receive f o s).holdings c.station) : j ∉ (receive f o s).sa.outgoing := by
  intro hout
  rw [receive_hears h hf] at hj hout
  have hg := settle_grows ((o c (s.arrival c f) (s.heardFrame c f)).followUp c (s.arrival c f) f (s.concluded c f)) c s
  rw [holdings_of_shares_eq hg.1] at hj
  rcases hg.2.2 j hout with hout | hout
  · rcases followUp_outgoing c _ f _ hout with hout | ⟨hsh, hout⟩
    · exact ho hout
    · exact hj (holdings_of_shares_eq hsh _ ▸ hout)
  · exact hj hout

theorem returnWhere_outgoing (s : State) (p : Nat → Share → Bool) : (s.returnWhere p).sa.outgoing = s.sa.outgoing := by
  unfold State.returnWhere
  (repeat' split) <;> rfl

theorem settleOutgoing_own {a : Arrival} (h : a.own = true) (s : State) (set : List Nat) :
    (s.settleOutgoing a set).sa.outgoing = without s.sa.outgoing set := by
  unfold State.settleOutgoing
  rw [h, if_pos rfl]
  rfl

/-- An own YIELD or RELEASE takes what it names out of the outgoing set. -/
theorem settledOutgoing {s : State} {c : Image} {f : Frame} {id : SlotId} {set : List Nat} {n : Nat} (h : Hears s c)
    (hst : isTank c.station = true) (hown : OwnFrom s c f id) (hlen : f.atLeast n = true) (p : Nat → Share → Bool) :
    let t := receive f (fun _ a t =>
      if f.atLeast n then
        let t1 := t.settleOutgoing a set
        if t1.takesFrom f.sender then t1.returnWhere p else t1
      else t) s
    ∀ j ∈ set, j ∉ t.holdings c.station → j ∉ t.sa.outgoing := by
  have hf : f.fromStation = true := by
    have := isTank_iff.mp hst
    have := ownFrom_sender hown
    simp [Frame.fromStation]; omega
  have ha : (s.arrival c f).own = true := by rw [arrival_own hown]
  intro t j hj
  refine receive_outgoing h hf ?_
  rw [hlen, if_pos rfl]
  dsimp only
  split
  · rw [returnWhere_outgoing, settleOutgoing_own ha]
    exact fun hm => (mem_without.mp hm).2 hj
  · rw [settleOutgoing_own ha]
    exact fun hm => (mem_without.mp hm).2 hj

/-! ## The standing withdraw (R30) -/

theorem heardFrame_withdrawMark_own {s : State} {c : Image} {f : Frame} {id : SlotId} (h : OwnFrom s c f id) :
    (s.heardFrame c f).sa.withdrawMark = s.sa.withdrawMark := by
  obtain ⟨_, _, _, _, _, hh⟩ := hear_hears (s.concluded c f) c (s.arrival c f) f
  unfold State.heardFrame
  rw [hh]
  unfold State.concluded
  rw [arrival_own h]
  rfl

/-- An own CLAIM cancelled under the withdraw mark is followed by WITHDRAW, if it has left an entry. -/
theorem lateWithdraw_of_marked {s : State} {c : Image} {a : Arrival} (h1 : a.own = true) (h2 : a.cancelled = true)
    (h3 : s.sa.withdrawMark = true) : (s.lateWithdraw c a).sa.withdrawMark = false ∧
      ((s.lateWithdraw c a).hasClaim c.station = true → (s.lateWithdraw c a).slotEmpty .withdraw = false) := by
  unfold State.lateWithdraw
  rw [if_pos ⟨h1, h2, h3⟩]
  dsimp only
  split
  · refine ⟨rfl, fun _ => ?_⟩
    unfold State.slotEmpty
    rw [writeSlot_slot_same]
    exact write_not_empty _ _
  · next hno => exact ⟨rfl, fun hc => Bool.eq_false_iff.mpr fun he => hno ⟨hc, he⟩⟩

theorem followUp_withdrawMark {u : State} (hl : u.mu.membership = .linked) (c : Image) (a : Arrival) (f : Frame) (b : State) :
    (u.followUp c a f b).sa.withdrawMark = u.sa.withdrawMark := by
  obtain ⟨_, _, _, _, _, ho⟩ := afterFrame_ownPart (u.ownerDone c a f) b c
  unfold State.followUp
  rw [ho, ownerDone_linked hl]
  split <;> simp

theorem takeClaim_withdrawMark (s : State) (n urgency field : Nat) :
    (s.takeClaim n urgency field).sa.withdrawMark = s.sa.withdrawMark := by
  rw [takeClaim_eq]
  split
  · rfl
  · unfold State.claimShares
    dsimp only
    (repeat' split) <;> rfl

theorem claim_withdraws {s : State} {c : Image} {sub : BitVec 3} {b : FrameBody} (h : Hears s c)
    (hst : isTank c.station = true) (hown : OwnFrom s c (bodyFrame b 3 sub.toNat) .claim)
    (hcancel : s.flightCancelled .claim = true) (hmark : s.sa.withdrawMark = true) (hl : s.mu.membership = .linked) :
    ∃ u, exec (.claim sub b) s = .next (settle c s u) ∧ u.sa.withdrawMark = false ∧
      (u.hasClaim c.station = true → u.slotEmpty .withdraw = false) := by
  let f := bodyFrame b 3 sub.toNat
  have hf : f.fromStation = true := by
    refine fromStation_of_tank ?_
    rw [show b.sender.toNat = c.station from ownFrom_sender hown]
    exact hst
  let x := s.heardFrame c f
  let y := if f.atLeast 1 && x.takesFrom f.sender then
    x.takeClaim f.sender (7 - sub.toNat) (numAt f.payload 0) else x
  let v := y.lateWithdraw c (s.arrival c f)
  have hy : y.mu.membership = .linked ∧ y.sa.withdrawMark = true := by
    have hx : x.mu.membership = .linked ∧ x.sa.withdrawMark = true :=
      ⟨(heardFrame_membership s c f).trans hl, (heardFrame_withdrawMark_own hown).trans hmark⟩
    by_cases ht : (f.atLeast 1 && x.takesFrom f.sender) = true
    · simp only [y, if_pos ht, takeClaim_mu, takeClaim_withdrawMark]
      exact hx
    · simp only [y, if_neg ht]
      exact hx
  have ha : (s.arrival c f).own = true ∧ (s.arrival c f).cancelled = true := by
    rw [arrival_own hown]; exact ⟨rfl, hcancel⟩
  obtain ⟨hm, hw⟩ := lateWithdraw_of_marked (c := c) ha.1 ha.2 hy.2
  have hvl : v.mu.membership = .linked := by rw [lateWithdraw_mu]; exact hy.1
  refine ⟨_, congrArg Host.Outcome.next (receive_hears h hf _), ?_, fun hc => ?_⟩
  · exact (followUp_withdrawMark hvl c _ f _).trans hm
  · have hclaims := claims_of_tables (followUp_tables c (s.arrival c f) f (s.concluded c f) hvl)
    have hslot := followUp_slot c (s.arrival c f) f (s.concluded c f) hvl (id := .withdraw) (by decide) (by decide)
      (.inl (by decide))
    unfold State.slotEmpty at hw ⊢
    exact (congrArg (fun z : Slot => z.state.isEmpty) hslot).trans (hw ((hasClaim_of_claims hclaims _).symm.trans hc))

/-! ## The YIELD that follows a change of the tables (R24, R25) -/

theorem startFlight_yield {s : State} {y : Nat} (h : (s.slot .yield).state = .pending (.yield y)) (c : Image) (id : SlotId) :
    ((s.startFlight c id).slot .yield).state.newest = some (.yield y) := by
  by_cases hid : id = .yield
  · subst hid
    unfold State.startFlight
    rw [h]
    show ((State.setSlot s .yield _).slot .yield).state.newest = _
    rw [setSlot_slot_same]
    rfl
  · unfold State.startFlight
    split
    · show ((State.setSlot s id _).slot .yield).state.newest = _
      rw [setSlot_slot_other _ _ hid, h]
      rfl
    · rw [h]; rfl

/-- The end of a command leaves a YIELD as it is, waiting or on the line. -/
theorem settle_yield {s : State} {y : Nat} (h : (s.slot .yield).state = .pending (.yield y)) (c : Image) (b : State) :
    ((settle c b s).slot .yield).state.newest = some (.yield y) := by
  have hb : ((settleBlocks c b s).slot .yield).state = .pending (.yield y) := by
    rw [settleBlocks_slot c .yield b s (by decide), h]
  unfold settle State.offer State.offerIfStillIdle
  repeat' split
  · rw [hb]; rfl
  · exact startFlight_yield hb c _
  · exact startFlight_yield (s := (settleBlocks c b s).drawFree) hb c _
  · show ((settleBlocks c b s).slot .yield).state.newest = _
    rw [hb]; rfl
  · rw [hb]; rfl

theorem ownerDone_slot {u : State} (hl : u.mu.membership = .linked) (c : Image) (a : Arrival) (f : Frame) {id : SlotId}
    (h : id ≠ .table) : (u.ownerDone c a f).slot id = u.slot id := by
  rw [ownerDone_linked hl]
  have hp : (u.restartPresence c a).slot id = u.slot id := slot_of_lc (restartPresence_lc u c a) id
  split
  · rw [endLock_slot _ _ h, hp]
  · exact hp

/-- What the yield rule has done by the end of a command in which the tables changed, at the station it names. -/
theorem afterFrame_named {w b : State} {c : Image} (hl : w.mu.membership = .linked) (hch : tablesChanged b w = true)
    (hy : w.yielder = some c.station) (he : w.slotEmpty .yield = true) {s t : State} (ht : t = settle c s (w.afterFrame b c))
    (h64 : ∀ j ∈ t.holdings c.station, j < 64) (hout : ∃ j ∈ t.holdings c.station, j ∉ t.sa.outgoing) :
    ∃ y, (t.slot .yield).state.newest = some (.yield y) ∧ y ∈ t.holdings c.station ∧ y ∈ t.sa.outgoing ∧
      ∀ j ∈ t.holdings c.station, j ∉ t.sa.outgoing → j < y := by
  let z := w.ownArrivals c
  let p := z.yieldAndPark b c
  rw [afterFrame_linked hl] at ht
  have hgrow : OutgoingGrows c p t := by
    rw [ht]; exact (completeRelease_grows p c).trans (settle_grows _ c s)
  have hzp : OutgoingGrows c z p := yieldAndPark_grows z c b
  have hhold : t.holdings c.station = z.holdings c.station := holdings_of_shares_eq (hgrow.1.trans hzp.1) _
  obtain ⟨j, hj, hjo⟩ := hout
  have hkept : ∀ j ∈ t.holdings c.station, j ∉ t.sa.outgoing → j ∈ z.keptHoldings c := fun j hj hjo =>
    (mem_keptHoldings z c).mpr ⟨hhold ▸ hj, fun ho => hjo (hgrow.2.1 j (h64 j hj) (hzp.2.1 j (h64 j hj) ho))⟩
  have hdue : parkingReleaseDue c b z = false := by
    by_contra hd
    obtain ⟨-, -, hall⟩ := (yieldAndPark_of_due c (Bool.eq_true_of_not_eq_false hd)).1
    exact hjo (hgrow.2.1 j (h64 j hj) (hall j (h64 j hj) (hhold ▸ hj)))
  have hp : p = z.yieldIfNamed c := by
    show z.yieldAndPark b c = _
    rw [yieldAndPark_of_not_due c hdue, ownArrivals_tablesChanged, hch, if_pos rfl]
  have hze : z.slotEmpty .yield = true := by
    unfold State.slotEmpty; rw [ownArrivals_slot w c (by decide)]; exact he
  obtain ⟨y, hlast⟩ : ∃ y, (z.keptHoldings c).getLast? = some y := by
    cases hg : (z.keptHoldings c).getLast? with
    | none => have := hkept j hj hjo; rw [List.getLast?_eq_none_iff.mp hg] at this; cases this
    | some y => exact ⟨y, rfl⟩
  rw [yieldIfNamed_of_named c ((ownArrivals_yielder w c).trans hy) hze hlast] at hp
  have hyhold : y ∈ t.holdings c.station := hhold ▸ ((mem_keptHoldings z c).mp (List.mem_of_getLast? hlast)).1
  have hyout : y ∈ t.sa.outgoing := by
    refine hgrow.2.1 y (h64 y hyhold) ?_
    rw [hp]
    exact mem_unionBelow.mpr ⟨h64 y hyhold, .inr (List.mem_singleton_self y)⟩
  have hslot : (p.slot .yield).state = .pending (.yield y) := by
    rw [hp, writeSlot_slot_same]; exact write_of_empty hze _
  refine ⟨y, ?_, hyhold, hyout, fun k hk hko => ?_⟩
  · rw [ht]
    exact settle_yield (by rw [completeRelease_slot]; exact hslot) c s
  · have hle := getLast?_le (keptHoldings_pairwise z c) hlast (hkept k hk hko)
    have hne : k ≠ y := fun e => hko (e ▸ hyout)
    omega

/-- The owner touches no YIELD slot, if it leaves the station LINKED. -/
def KeepsYield (c : Image) (o : Image → Arrival → State → State) : Prop :=
  ∀ a x, (o c a x).mu.membership = .linked → (o c a x).slot .yield = x.slot .yield

theorem receive_named {s : State} {c : Image} {f : Frame} (h : Hears s c) {o : Image → Arrival → State → State}
    (ho : KeepsYield c o) {t : State} (ht : t = receive f o s) (hl : t.mu.membership = .linked)
    (hch : t.sa.shares ≠ s.sa.shares ∨ t.sa.claims ≠ s.sa.claims) (he : s.slotEmpty .yield = true)
    (hy : t.yielder = some c.station) (h64 : ∀ j ∈ t.holdings c.station, j < 64)
    (hout : ∃ j ∈ t.holdings c.station, j ∉ t.sa.outgoing) :
    ∃ y, (t.slot .yield).state.newest = some (.yield y) ∧ y ∈ t.holdings c.station ∧ y ∈ t.sa.outgoing ∧
      ∀ j ∈ t.holdings c.station, j ∉ t.sa.outgoing → j < y := by
  have hctab : (s.concluded c f).tables = s.tables := concluded_tables s c f
  by_cases hf : f.fromStation = true
  · let x := s.heardFrame c f
    let v := o c (s.arrival c f) x
    let w := v.ownerDone c (s.arrival c f) f
    rw [receive_hears h hf] at ht
    have htw : t = settle c s (w.afterFrame (s.concluded c f) c) := ht
    have hmem : t.member = w.member := by rw [htw, settle_member, afterFrame_member]
    have htab : t.tables = w.tables := by rw [htw, settle_tables, afterFrame_tables]
    have hwl : w.mu.membership = .linked := (membership_of_member hmem).symm.trans hl
    have hvl : v.mu.membership = .linked := linked_of_ownerDone hwl
    have hx : x.slot .yield = s.slot .yield := by
      refine (heardFrame_slot_other s c f (by decide)).trans (concluded_slot_other c f ?_)
      unfold State.slotInFlight
      unfold State.slotEmpty at he
      cases hs : (s.slot .yield).state with
      | empty => rfl
      | _ => rw [hs] at he; cases he
    have hwe : w.slotEmpty .yield = true := by
      unfold State.slotEmpty
      rw [ownerDone_slot hvl c _ f (by decide), ho _ x hvl, hx]
      exact he
    have hwch : tablesChanged (s.concluded c f) w = true := by
      rcases hch with hch | hch
      · refine tablesChanged_of_shares ?_
        rw [shares_of_tables hctab, ← shares_of_tables htab]
        exact hch.symm
      · refine tablesChanged_of_claims ?_
        rw [claims_of_tables hctab, ← claims_of_tables htab]
        exact hch.symm
    exact afterFrame_named hwl hwch ((yielder_congr htab (roster_of_member hmem)).symm.trans hy) hwe htw h64 hout
  · have htab : t.tables = s.tables := by
      rw [ht]
      unfold receive
      rw [onRunning_some h.1, if_pos h.2, settle_tables]
      unfold acceptFrame
      rw [if_neg hf, hctab]
    rcases hch with hch | hch
    · exact absurd (shares_of_tables htab) hch
    · exact absurd (claims_of_tables htab) hch

end Sys2Proof.Machine

namespace Sys2Proof.Machine

open Sys2Proof

/-! ## The owners leave the YIELD slot (R25) -/

section
variable (s : State) (c : Image) (a : Arrival)

theorem takeStatus_lc (n urgency : Nat) : (s.takeStatus n urgency).lc = s.lc := by
  unfold State.takeStatus; split <;> rfl

theorem reassert_slot {id : SlotId} (h : id ≠ .dormant) : (s.reassert a).slot id = s.slot id := by
  unfold State.reassert; split
  · exact writeSlot_slot_other _ h.symm _
  · rfl

theorem markDormant_lc (n : Nat) : (s.markDormant c n).lc = s.lc := by
  unfold State.markDormant; split <;> rfl

theorem withdrawIfOut_slot {id : SlotId} (h1 : id ≠ .claim) (h2 : id ≠ .withdraw) :
    (s.withdrawIfOut c).slot id = s.slot id := by
  have hc : ∀ x : State, (x.cancelSlot .claim).slot id = x.slot id := fun x => cancelSlot_slot_other x h1.symm
  have hw : ∀ x : State, (x.writeSlot .withdraw .withdraw).slot id = x.slot id := fun x => writeSlot_slot_other x h2.symm _
  unfold State.withdrawIfOut State.requestWithdraw
  dsimp only
  repeat' split
  all_goals simp only [mapSa_slot, hc, hw]

theorem ownDormant_slot {id : SlotId} (h1 : id ≠ .claim) (h2 : id ≠ .withdraw) (h3 : id ≠ .dormant) (h4 : id ≠ .status) :
    (s.ownDormant c a).slot id = s.slot id := by
  have hr : ∀ x : State, (x.restDrain c).slot id = x.slot id := by
    intro x; unfold State.restDrain; split
    · rfl
    · exact withdrawIfOut_slot x c h1 h2
  have he : ∀ x : State, (x.enterDormant c).slot id = x.slot id := fun _ => rfl
  have hw : ∀ x : State, (x.enterWaking c).slot id = x.slot id := fun x =>
    (writeSlot_slot_other _ h4.symm _).trans (cancelSlot_slot_other _ h3.symm)
  unfold State.ownDormant
  dsimp only
  repeat' split
  · rw [hw, he, hr]
  · rw [he, hr]
  · rfl

theorem takeJoin_slot_yield (n pool : Nat) (hl : (s.takeJoin c a n pool).mu.membership = .linked) :
    (s.takeJoin c a n pool).slot .yield = s.slot .yield := by
  have hk : ∀ x : State, (x.markJoiner c n).slot .yield = x.slot .yield := fun x => by
    rw [markJoiner_eq, mapEntry_slot, pruneSlot_slot_other _ (by decide), pruneSlot_slot_other _ (by decide),
      slot_of_lc (joinShares_lc x n)]
  unfold State.takeJoin at hl ⊢
  split at hl
  · rw [State.isolateFor, enterIsolated_membership] at hl; cases hl
  · next hno =>
    rw [if_neg hno]
    repeat' split
    · rfl
    · rfl
    · rfl
    · rfl
    · unfold State.joinAtLinked
      split
      · rfl
      · rw [beginLock_slot s c n pool (by decide) (by decide) (by decide), hk]
    · rfl

theorem takeAbsent_slot_yield (named : List Nat) (hl : (s.takeAbsent c named).mu.membership = .linked) :
    (s.takeAbsent c named).slot .yield = s.slot .yield := by
  by_cases hn : c.station ∈ named
  · have hf : s.takeAbsent c named = State.enterFallback _ c := if_pos (by simpa using hn)
    obtain ⟨l, r, he⟩ := enterFallback_eq _ c
    rw [hf, he] at hl
    cases hl
  · obtain ⟨r, sh, cl, hd⟩ := declareAll_eq s c (named.filter s.isLinked)
    rw [takeAbsent_of_not_named hn, pruneSlot_slot_other _ (by decide), hd]
    rfl

theorem takeReclaim_slot_yield (named : List Nat) : (s.takeReclaim named).slot .yield = s.slot .yield := by
  have hlc : ∀ l, (s.reclaimShares l).lc = s.lc := fun l => returnWhere_lc s _
  obtain ⟨r, hr⟩ := clearAll_eq (s.reclaimShares (named.filter fun n => decide (s.entryState n = .absent)))
    (named.filter fun n => decide (s.entryState n = .absent))
  show ((State.clearAll _ _).pruneSlot .reclaim named).slot .yield = _
  rw [pruneSlot_slot_other _ (by decide), hr, mapMu_slot, slot_of_lc (hlc _)]

theorem takeCurtailFrame_slot_yield (q : Nat) : (s.takeCurtailFrame c q).slot .yield = s.slot .yield := by
  have ht : (s.takeCurtail c q).lc = s.lc := by
    unfold State.takeCurtail; dsimp only; (repeat' split) <;> rfl
  have hr : ∀ x : State, (x.curtailRelease c q).slot .yield = x.slot .yield := by
    intro x; unfold State.curtailRelease; split
    · rfl
    · exact writeSlot_slot_other _ (by decide) _
  unfold State.takeCurtailFrame
  split
  · rw [hr, slot_of_lc ht]
  · rfl

theorem settleOutgoing_lc (set : List Nat) : (s.settleOutgoing a set).lc = s.lc := by
  obtain ⟨o, h⟩ := settleOutgoing_eq s a set; rw [h]; rfl

theorem settledReturn_slot (set : List Nat) (n : Nat) (p : Nat → Share → Bool) (id : SlotId) :
    (if (s.settleOutgoing a set).takesFrom n then (s.settleOutgoing a set).returnWhere p
      else s.settleOutgoing a set).slot id = s.slot id := by
  split
  · rw [slot_of_lc (returnWhere_lc ..), slot_of_lc (settleOutgoing_lc ..)]
  · rw [slot_of_lc (settleOutgoing_lc ..)]

end

/-- Every command whose owner may change the tables leaves the YIELD slot at a station that it leaves LINKED. -/
theorem exists_keepsYield {i : Instr} {k : BitVec 3} {b : FrameBody} (c : Image)
    (hi : i ∈ Instr.status b :: .join b :: .dormant b :: allocationCommands k b) :
    ∃ f o, (∀ s, exec i s = .next (receive f o s)) ∧ KeepsYield c o := by
  simp only [allocationCommands, List.mem_cons, List.not_mem_nil, or_false] at hi
  rcases hi with rfl | rfl | rfl | rfl | rfl | rfl | rfl | rfl | rfl | rfl | rfl | rfl <;>
    refine ⟨_, _, fun _ => rfl, fun a x hl => ?_⟩
  case _ =>
    split
    · rw [reassert_slot _ _ (by decide), slot_of_lc (takeStatus_lc ..)]
    · rfl
  case _ =>
    split at hl
    · next ht => rw [if_pos ht]; exact takeJoin_slot_yield x c a _ _ hl
    · next ht => rw [if_neg ht]
  case _ =>
    rw [ownDormant_slot _ c a (by decide) (by decide) (by decide) (by decide), slot_of_lc (markDormant_lc ..)]
  case _ =>
    split at hl
    · next ht => rw [if_pos ht]; exact takeAbsent_slot_yield x c _ hl
    · next ht => rw [if_neg ht]
  case _ =>
    split
    · exact takeReclaim_slot_yield x _
    · rfl
  case _ =>
    split
    · exact takeCurtailFrame_slot_yield x c _
    · rfl
  case _ =>
    split
    · exact settledReturn_slot x a ..
    · rfl
  case _ =>
    split
    · exact settledReturn_slot x a ..
    · rfl
  case _ => split <;> rfl
  case _ =>
    rw [lateWithdraw_slot _ _ _ (by decide)]
    split
    · rw [slot_of_lc (takeClaim_lc ..)]
    · rfl
  case _ => rfl
  case _ => rfl

/-- Settles O41: the SA's part after a frame, the release-all request, and the frames that settle the outgoing set, the
standing withdraw and the yield. -/
theorem theStationsOwnShares : Obligations.TheStationsOwnShares := by
  refine ⟨fun s b c hl => if_neg hl, fun s b c hl => ?_, fun s c => ⟨releaseAll_of_empty c, fun old hold => ?_⟩,
    fun s c b h hst => ⟨fun i set id hi hlen hown => ?_, fun sub hown hcancel hmark hl => ?_, ?_⟩⟩
  · intro t own out
    have hgrow := afterFrame_grows s c b
    have hback : ∀ j, j < 64 → j ∈ own → j ∈ s.namedShares → j ∈ t.sa.outgoing := fun j hj ho hn => by
      have hall : j ∈ (s.ownArrivals c).sa.outgoing := by
        by_cases hm : s.sa.releaseMark = true
        · exact ownArrivals_of_marked c hm hj ho
        · rw [ownArrivals_of_unmarked c (Bool.eq_false_iff.mpr hm)]
          exact (mem_rejoinOutgoing s c j).mpr (.inr ⟨ho, hn⟩)
      show j ∈ (s.afterFrame b c).sa.outgoing
      rw [afterFrame_linked hl]
      exact ((yieldAndPark_grows _ c b).trans (completeRelease_grows _ c)).2.1 j hj hall
    refine ⟨afterFrame_tables s b c, afterFrame_member s b c, fun j hj => ⟨hgrow.2.1 j hj, hback j hj⟩, fun hnot => ?_,
      fun h1 h2 h3 h4 => afterFrame_parks hl (parkingReleaseDue_iff.mpr ⟨h1, h2, h3, h4⟩)⟩
    have hdue : parkingReleaseDue c b s = false := by
      by_contra hd
      obtain ⟨h1, h2, h3, h4⟩ := parkingReleaseDue_iff.mp (Bool.eq_true_of_not_eq_false hd)
      rcases hnot with h | h | h | h
      · exact h h1
      · exact h2 h
      · exact h h3
      · exact h4 h
    refine ⟨fun hm hch hy he i _ hi hno hmax => afterFrame_yields hl hdue hm hch hy he hi hno hmax, fun hm hrest => ?_,
      fun hm => afterFrame_marked hl hdue hm⟩
    have ht : t = s.rejoinOutgoing c := afterFrame_rests hl hdue hm hrest
    rw [ht]
    exact ⟨rejoinOutgoing_eq s c, mem_rejoinOutgoing s c, fun hin => rejoinOutgoing_of_out hin⟩
  · refine ⟨_, releaseAll_of_pending c hold, fun j hj => ?_⟩
    rw [mem_unionBelow]
    exact and_iff_right hj
  · simp only [List.mem_cons, List.not_mem_nil, or_false, Prod.mk.injEq] at hi
    rcases hi with ⟨rfl, rfl, rfl⟩ | ⟨rfl, rfl, rfl⟩
    · exact ⟨_, rfl, settledOutgoing (f := bodyFrame b 2 0) h hst hown (n := 1) (atLeast_of hlen) _⟩
    · exact ⟨_, rfl, settledOutgoing (f := bodyFrame b 2 1) h hst hown (n := 8) (atLeast_of hlen) _⟩
  · exact claim_withdraws h hst hown hcancel hmark hl
  · intro k i t hi hexec hl hch he hy h64 hout
    obtain ⟨f, o, hrun, ho⟩ := exists_keepsYield c hi
    have ht : t = receive f o s := (Host.Outcome.next.inj ((hrun s).symm.trans hexec)).symm
    exact receive_named h ho ht hl hch he hy h64 hout

end Sys2Proof.Machine

namespace Sys2Proof.Machine
open Sys2Proof

/-! ## The bounds of the queue, the log, the roster, the alert table and the notices -/

/-- A flight that is marked cancelled. -/
def SlotState.cancelled : SlotState → Bool
  | .inFlight _ _ cancelled => cancelled
  | _ => false

theorem flightCancelled_eq (s : State) (id : SlotId) : s.flightCancelled id = (s.slot id).state.cancelled := by
  unfold State.flightCancelled SlotState.cancelled; split <;> simp_all

theorem write_cancelled (x : Slot) (content : Content) : (x.write content).state.cancelled = x.state.cancelled := by
  cases h : x.state <;> simp only [Slot.write, h] <;> rfl

theorem prune_cancelled {x : Slot} (l : List Nat) (h : x.state.cancelled = false) : (x.prune l).state.cancelled = false := by
  cases hx : x.state with
  | pending content =>
    unfold Slot.prune
    rw [hx]
    (repeat' split) <;> simp_all [SlotState.cancelled, Slot.blank]
  | _ => simp only [Slot.prune, hx]; rwa [hx] at h

/-- A flight's end leaves none cancelled. -/
theorem accepted_cancelled (x : Slot) : x.accepted.state.cancelled = false := by
  cases h : x.state with
  | inFlight content next k => cases next <;> simp only [Slot.accepted, h] <;> rfl
  | _ => simp only [Slot.accepted, h]; rfl

theorem failed_cancelled (x : Slot) : x.failed.state.cancelled = false := by
  cases h : x.state with
  | inFlight content next k => cases next <;> cases k <;> simp only [Slot.failed, h] <;> rfl
  | _ => simp only [Slot.failed, h]; rfl

theorem backOff_cancelled {x : Slot} (h : x.state.cancelled = false) (reply : Bool) :
    (x.backOff reply).state.cancelled = false := by
  cases hx : x.state with
  | pending content =>
    simp only [Slot.backOff, hx]
    split
    · rfl
    · rfl
  | _ => simp only [Slot.backOff, hx]; rwa [hx] at h

/-- The sequences of a log run up to one below the low 16 bits of a count of records written (R136). -/
def SequencesRun (written : Word) (log : List LogRecord) : Prop :=
  ∀ i r, log[i]? = some r → r.sequence + BitVec.ofNat 16 (log.length - i) = written.setWidth 16

theorem logRule_iff {s : State} : LogRule s ↔ s.rs.log.length ≤ logSize ∧ SequencesRun s.rs.written s.rs.log := Iff.rfl

/-- The next record bears the low 16 bits of the count (R137). -/
theorem SequencesRun.append {w : Word} {log : List LogRecord} (h : SequencesRun w log) (r : SpillRecord) :
    SequencesRun (w + 1) (log ++ [{ sequence := BitVec.ofNat 16 w.toNat, record := r, announced := false }]) := by
  intro i x hx
  have hw : (w + 1).setWidth 16 = w.setWidth 16 + 1#16 := by bv_omega
  rcases Nat.lt_trichotomy i log.length with hi | rfl | hi
  · rw [List.getElem?_append_left hi] at hx
    have hn : (log ++ [({ sequence := BitVec.ofNat 16 w.toNat, record := r, announced := false } : LogRecord)]).length - i =
        (log.length - i) + 1 := by rw [List.length_append, List.length_singleton]; omega
    rw [hn, BitVec.ofNat_add, ← BitVec.add_assoc, h i x hx, hw]
  · rw [List.getElem?_concat_length] at hx
    rw [← Option.some.inj hx, hw]
    simp
  · rw [List.getElem?_eq_none (by rw [List.length_append, List.length_singleton]; omega)] at hx
    cases hx

/-- The sequences of the records that stay still run. -/
theorem SequencesRun.drop {w : Word} {log : List LogRecord} (h : SequencesRun w log) (n : Nat) :
    SequencesRun w (log.drop n) := by
  intro i x hx
  rw [List.getElem?_drop] at hx
  rw [List.length_drop, Nat.sub_sub]
  exact h _ _ hx

theorem dropThrough_eq_drop (sequence : Half) (log : List LogRecord) : ∃ n, dropThrough sequence log = log.drop n := by
  induction log with
  | nil => exact ⟨0, rfl⟩
  | cons r log ih =>
    unfold dropThrough
    split
    · exact ⟨1, rfl⟩
    · obtain ⟨n, hn⟩ := ih
      exact ⟨n + 1, hn⟩

theorem SequencesRun.announce {w : Word} {log : List LogRecord} (h : SequencesRun w log) (sequence : Half) (episode : Word) :
    SequencesRun w (announce sequence episode log) := by
  intro i x hx
  unfold Machine.announce at hx ⊢
  rw [List.length_map]
  rw [List.getElem?_map] at hx
  obtain ⟨r, hr, rfl⟩ := Option.map_eq_some_iff.mp hx
  rw [← h i r hr]
  split <;> rfl

/-- State t lies within the bounds that state s keeps (R136, R141, R36, R95, R155). -/
structure Within (s t : State) : Prop where
  queue : QueueRule s → QueueRule t
  log : LogRule s → LogRule t
  shape : ShapeRule s → ShapeRule t
  notice : NoticeRule s → NoticeRule t

namespace Within

theorem refl (s : State) : Within s s := ⟨id, id, id, id⟩

variable {s t u : State}

theorem trans (h : Within s t) (k : Within t u) : Within s u :=
  ⟨k.queue ∘ h.queue, k.log ∘ h.log, k.shape ∘ h.shape, k.notice ∘ h.notice⟩

/-- A state with the same queue, log, roster and alert table, and no notice newly cancelled. -/
theorem congr (h : Within s t) (hr : u.rs.queue = t.rs.queue ∧ u.rs.log = t.rs.log ∧ u.rs.written = t.rs.written)
    (hm : u.mu.roster = t.mu.roster) (ha : u.ru.alerts = t.ru.alerts)
    (hn : ∀ id ∈ noticeSlots, t.flightCancelled id = false → u.flightCancelled id = false) : Within s u := by
  obtain ⟨hq, hl, hw⟩ := hr
  refine h.trans ⟨?_, ?_, ?_, fun k id hid => hn id hid (k id hid)⟩
  · unfold QueueRule; rw [hq]; exact id
  · unfold LogRule; rw [hl, hw]; exact id
  · unfold ShapeRule; rw [hm, ha]; exact id

theorem ite {p : Prop} [Decidable p] (h : Within s t) (k : Within s u) : Within s (if p then t else u) := by
  split
  · exact h
  · exact k

/-! ### The operations of the model, in its order -/

section
variable (h : Within s t)
include h

theorem mapCl (f : ClState → ClState) : Within s (t.mapCl f) := h.congr ⟨rfl, rfl, rfl⟩ rfl rfl fun _ _ => id
theorem mapSa (f : SaState → SaState) : Within s (t.mapSa f) := h.congr ⟨rfl, rfl, rfl⟩ rfl rfl fun _ _ => id
theorem mapTs (f : TsState → TsState) : Within s (t.mapTs f) := h.congr ⟨rfl, rfl, rfl⟩ rfl rfl fun _ _ => id
theorem mapSrm (f : SrmState → SrmState) : Within s (t.mapSrm f) := h.congr ⟨rfl, rfl, rfl⟩ rfl rfl fun _ _ => id
theorem mapSc (f : ScState → ScState) : Within s (t.mapSc f) := h.congr ⟨rfl, rfl, rfl⟩ rfl rfl fun _ _ => id
theorem mapAc (f : AcState → AcState) : Within s (t.mapAc f) := h.congr ⟨rfl, rfl, rfl⟩ rfl rfl fun _ _ => id
theorem drawFree : Within s t.drawFree := h.congr ⟨rfl, rfl, rfl⟩ rfl rfl fun _ _ => id

theorem mapLc {f : LcState → LcState} (hf : ∀ l, (f l).slots = l.slots) : Within s (t.mapLc f) :=
  h.congr ⟨rfl, rfl, rfl⟩ rfl rfl fun id _ => by
    rw [flightCancelled_eq, flightCancelled_eq, slot_mapLc t f hf]; exact fun h => h

theorem mapMu {f : MuState → MuState} (hf : ∀ m, (f m).roster = m.roster) : Within s (t.mapMu f) :=
  h.congr ⟨rfl, rfl, rfl⟩ (hf _) rfl fun _ _ => id

theorem mapRu {f : RuState → RuState} (hf : ∀ m, (f m).alerts = m.alerts) : Within s (t.mapRu f) :=
  h.congr ⟨rfl, rfl, rfl⟩ rfl (hf _) fun _ _ => id

theorem mapRs {f : RsState → RsState}
    (hf : ∀ r, (f r).queue = r.queue ∧ (f r).log = r.log ∧ (f r).written = r.written) : Within s (t.mapRs f) :=
  h.congr (hf _) rfl rfl fun _ _ => id

theorem setSlot (id : SlotId) {x : Slot}
    (hx : id ∈ noticeSlots → (t.slot id).state.cancelled = false → x.state.cancelled = false) :
    Within s (t.setSlot id x) :=
  h.congr ⟨rfl, rfl, rfl⟩ rfl rfl fun j hj hc => by
    rw [flightCancelled_eq] at hc ⊢
    by_cases hij : id = j
    · subst hij; rw [setSlot_slot_same]; exact hx hj hc
    · rwa [setSlot_slot_other t x hij]

theorem writeSlot (id : SlotId) (x : Content) : Within s (t.writeSlot id x) :=
  h.setSlot id fun _ hc => by rwa [write_cancelled]

theorem cancelSlot (id : SlotId) (hid : id ∉ noticeSlots) : Within s (t.cancelSlot id) :=
  h.setSlot id fun hin => absurd hin hid

theorem pruneSlot (id : SlotId) (l : List Nat) : Within s (t.pruneSlot id l) :=
  h.setSlot id fun _ => prune_cancelled l

/-- A roster that keeps its length. -/
theorem mapRoster {f : MuState → MuState}
    (hf : ∀ r, (f t.mu).roster = some r → ∃ r', t.mu.roster = some r' ∧ r.length = r'.length) : Within s (t.mapMu f) :=
  h.trans ⟨id, id, fun ⟨hr, ha⟩ => ⟨fun r hrr => by obtain ⟨r', h1, h2⟩ := hf r hrr; exact h2.trans (hr r' h1), ha⟩, id⟩

theorem mapEntry (n : Nat) (f : RosterEntry → RosterEntry) : Within s (t.mapEntry n f) :=
  h.mapRoster fun r hr => by
    obtain ⟨r', h1, rfl⟩ := Option.map_eq_some_iff.mp hr
    refine ⟨r', h1, ?_⟩
    split
    · rfl
    · exact updateAt_length ..

theorem voidRoster {f : MuState → MuState} (hf : ∀ m, (f m).roster = none) : Within s (t.mapMu f) :=
  h.mapRoster fun r hr => by rw [hf] at hr; cases hr

theorem clearEntry (n : Nat) : Within s (t.clearEntry n) := h.mapEntry n _

theorem reorderClaims : Within s t.reorderClaims := h.mapSa _

theorem writeNotice (c : Image) (id : SlotId) (x : Content) : Within s (t.writeNotice c id x) :=
  h.ite (h.writeSlot id x)

theorem latch (c : Image) (f : Flag) : Within s (t.latch c f) := by
  have h1 : Within s (t.mapRs fun r => { r with latched := r.latched ||| f.mask }) :=
    h.mapRs fun _ => ⟨rfl, rfl, rfl⟩
  have h2 : Within s ((t.mapRs fun r => { r with latched := r.latched ||| f.mask }).joinNews f) :=
    (h1.mapRs fun _ => ⟨by rfl, by rfl, by rfl⟩).mapLc fun _ => by rfl
  exact h.ite ((h2.writeSlot _ _).ite h1)

theorem latchIfStanding (c : Image) (f : Flag) : Within s (t.latchIfStanding c f) := (h.latch c f).ite h

theorem latchStanding (c : Image) : Within s (t.latchStanding c) :=
  ((h.latchIfStanding c .sensorFault).latchIfStanding c .tideLocked).latchIfStanding c .logHigh

theorem writeStatus : Within s t.writeStatus := h.writeSlot _ _

theorem statusForChange : Within s t.statusForChange := h.writeStatus.ite h

/-! ### The record service and the spill counter -/

theorem writeRecord (c : Image) (r : SpillRecord) (hlen : LogRule s → t.rs.log.length < logSize) :
    Within s (t.writeRecord c r) := by
  have hw : Within s (t.mapRs fun x => { x with
      log := x.log ++ [{ sequence := BitVec.ofNat 16 x.written.toNat, record := r, announced := false }]
      written := x.written + 1 }) := by
    refine ⟨h.queue, fun hl => ⟨?_, SequencesRun.append (h.log hl).2 r⟩, h.shape, h.notice⟩
    simpa using hlen hl
  exact hw.writeNotice c _ _

/-- Records leave the log at its old end (R138, R140). -/
theorem dropLog {f : RsState → RsState} (n : Nat)
    (hf : ∀ r, (f r).queue = r.queue ∧ (f r).log = r.log.drop n ∧ (f r).written = r.written) : Within s (t.mapRs f) := by
  obtain ⟨hq, hl, hw⟩ := hf t.rs
  refine h.trans ⟨fun k => ?_, fun k => ?_, id, id⟩
  · unfold QueueRule; rw [mapRs_rs, hq]; exact k
  · obtain ⟨hlen, hseq⟩ := logRule_iff.mp k
    rw [logRule_iff, mapRs_rs, hl, hw, List.length_drop]
    exact ⟨by omega, hseq.drop n⟩

theorem takeRecord (c : Image) (r : SpillRecord) : Within s (t.takeRecord c r) := by
  unfold State.takeRecord
  split
  · next hlen => exact h.writeRecord c r fun _ => hlen
  · next hlen =>
    dsimp only
    split
    · exact ((h.latch c _).mapRs fun _ => ⟨by rfl, by rfl, by rfl⟩).writeNotice c _ _
    · refine ((h.latch c .recordLost).dropLog 1 fun _ => ⟨by rfl, by rfl, by rfl⟩).writeRecord c r fun hl => ?_
      have hlog := (h.log hl).1
      rw [mapRs_rs, List.length_drop, (latch_log t c .recordLost).1]
      have : logSize = 32 := rfl
      omega

theorem acknowledge (c : Image) (sequence : Half) : Within s (t.acknowledge c sequence) := by
  unfold State.acknowledge
  split
  · exact h.latch c _
  · obtain ⟨n, hn⟩ := dropThrough_eq_drop sequence t.rs.log
    exact h.trans ⟨id, fun ⟨hlen, hseq⟩ => by
      rw [logRule_iff, mapRs_rs, hn, List.length_drop]
      exact ⟨by omega, SequencesRun.drop hseq n⟩, id, id⟩

theorem deliverNotice (f : Frame) : Within s (t.deliverNotice f) := by
  unfold State.deliverNotice
  split
  · refine Within.ite (h.trans ⟨id, fun ⟨hlen, hseq⟩ => ?_, id, id⟩) h
    rw [logRule_iff, mapRs_rs]
    exact ⟨by simpa [announce] using hlen, SequencesRun.announce hseq _ _⟩
  · exact Within.ite (h.mapRs fun _ => ⟨by rfl, by rfl, by rfl⟩) h
  · exact h

theorem mapRecord (f : SpillRecord → SpillRecord) : Within s (t.mapRecord f) := h.mapSc _

theorem closeEpisode (c : Image) : Within s (t.closeEpisode c) := by
  unfold State.closeEpisode
  dsimp only
  split
  · exact h.mapSc _
  · exact (h.mapSc _).takeRecord c _

theorem openEpisode (c : Image) : Within s (t.openEpisode c) := (h.mapSc _).writeNotice c _ _

theorem onsetSample (c : Image) (level : Nat) (suspect : Bool) : Within s (t.onsetSample c level suspect) :=
  ((h.mapSc _).openEpisode c).ite (h.mapSc _)

theorem accrueSample (c : Image) (level : Nat) (suspect : Bool) : Within s (t.accrueSample c level suspect) :=
  (h.mapRecord _).mapSc _

theorem settleSample (c : Image) : Within s (t.settleSample c) :=
  Within.ite (Within.ite (((h.mapSc _).mapSc _).closeEpisode c) ((h.mapSc _).mapSc _)) (h.mapSc _)

theorem spillSample (c : Image) (chamber : Channel) : Within s (t.spillSample c chamber) := by
  unfold State.spillSample State.spillingSample State.nonSpillingSample State.unknownSample
  dsimp only
  repeat' split
  all_goals apply_rules [onsetSample, accrueSample, settleSample, mapRecord, mapSc]

theorem stormFlag : Within s t.stormFlag := h.mapRecord _


/-! ### The share allocator and the tank supervisor -/

theorem releaseShares (set : List Nat) : Within s (t.releaseShares set) := (h.mapSa _).writeSlot _ _

theorem releaseAll (c : Image) : Within s (t.releaseAll c) := (h.mapSa _).releaseShares _

theorem askClaim (c : Image) : Within s (t.askClaim c) := (h.mapSa _).writeSlot _ _

theorem requestWithdraw (c : Image) : Within s (t.requestWithdraw c) := by
  unfold State.requestWithdraw
  dsimp only
  have h1 := (h.cancelSlot .claim (by decide)).ite (p := t.slotPending .claim = true) h
  have h2 := (h1.writeSlot .withdraw .withdraw).ite (p := t.hasClaim c.station = true) h1
  exact ((h2.cancelSlot .claim (by decide)).mapSa _).ite h2

theorem voidShares : Within s t.voidShares :=
  ((((h.mapSa _).cancelSlot .claim (by decide)).cancelSlot .yield (by decide)).cancelSlot .release (by decide)).cancelSlot .withdraw (by decide)

theorem returnWhere (p : Nat → Share → Bool) : Within s (t.returnWhere p) := by
  unfold State.returnWhere
  split
  · exact (h.mapSa _).ite (h.mapSa _)
  · exact h

theorem setUrgency (n u : Nat) : Within s (t.setUrgency n u) := (h.mapEntry n _).reorderClaims

theorem takeClaim (n urgency field : Nat) : Within s (t.takeClaim n urgency field) := by
  have h1 := h.setUrgency n urgency
  unfold State.takeClaim State.claimShares
  dsimp only
  repeat' split
  · exact h1
  · exact h1.mapSa _
  · exact h1
  · exact h1.mapSa _
  · exact (h1.mapSa _).mapSa _

theorem takeCurtail (c : Image) (q : Nat) : Within s (t.takeCurtail c q) := by
  unfold State.takeCurtail
  dsimp only
  repeat' split
  · exact h
  · exact h
  · exact h.mapSa _
  · exact h.mapSa _

theorem curtailRelease (c : Image) (q : Nat) : Within s (t.curtailRelease c q) := by
  unfold State.curtailRelease
  split
  · exact h
  · exact h.releaseShares _

theorem rejoinShares (n : Nat) : Within s (t.rejoinShares n) := (h.mapSa _).returnWhere _

theorem afterFrame (b : State) (c : Image) : Within s (t.afterFrame b c) := by
  obtain ⟨l, o, r, x, n, hp⟩ := afterFrame_ownPart t b c
  refine h.congr (by rw [hp]; exact ⟨rfl, rfl, rfl⟩) (by rw [hp]) (by rw [hp]) fun id hid hc => ?_
  have hne : id ≠ .yield ∧ id ≠ .release := by constructor <;> (rintro rfl; revert hid; decide)
  rwa [flightCancelled_eq, afterFrame_slot t b c hne.1 hne.2, ← flightCancelled_eq]

theorem recomputeUrgency (c : Image) : Within s (t.recomputeUrgency c) := h.mapTs _

theorem setValve (c : Image) : Within s (t.setValve c) := h.mapTs _

theorem stopDrain : Within s t.stopDrain := h.mapTs _

theorem withdrawIfOut (c : Image) : Within s (t.withdrawIfOut c) := (h.requestWithdraw c).ite h

theorem drainSample (c : Image) : Within s (t.drainSample c) := by
  unfold State.drainSample State.failedTank State.park State.testClaim State.setDrain
  dsimp only
  repeat' split
  all_goals apply_rules [withdrawIfOut, requestWithdraw, stopDrain, askClaim, releaseAll, mapTs]

theorem drainStep (b : State) (c : Image) : Within s (t.drainStep b c) := by
  have hr : Within s (t.drainReport c) := by
    unfold State.drainReport State.judgeParked State.setDrain
    dsimp only
    repeat' split
    all_goals apply_rules [stopDrain, askClaim, releaseAll, mapTs]
  exact Within.ite (Within.ite (Within.ite ((hr.mapTs _).askClaim c) hr) hr) h

/-! ### Activity, rain and readiness -/

theorem markWake : Within s t.markWake := (h.mapAc _).cancelSlot .dormant (by decide)

theorem restDrain (c : Image) : Within s (t.restDrain c) := h.ite (h.withdrawIfOut c).stopDrain

theorem enterDormant (c : Image) : Within s (t.enterDormant c) := (((h.mapAc _).mapTs _).mapMu fun _ => by rfl).recomputeUrgency c

theorem enterWaking (c : Image) : Within s (t.enterWaking c) :=
  (((((h.mapAc _).mapTs _).mapMu fun _ => by rfl).cancelSlot .dormant (by decide)).recomputeUrgency c).writeStatus

theorem wakeTrigger (c : Image) : Within s (t.wakeTrigger c) := by
  unfold State.wakeTrigger
  split
  · exact h.enterWaking c
  · exact h.markWake.ite h
  · exact h

theorem watchDormancy (c : Image) : Within s (t.watchDormancy c) := by
  unfold State.watchDormancy
  dsimp only
  repeat' split
  · exact h.mapAc _
  · exact h.mapAc _
  · exact (h.mapAc _).cancelSlot .dormant (by decide)
  · exact (h.mapAc _).markWake
  · exact h.mapAc _
  · exact h.mapAc _

theorem writeAlert (c : Image) : Within s (t.writeAlert c) := h.writeSlot _ _

theorem evaluateLocal (c : Image) : Within s (t.evaluateLocal c) := h.ite ((h.mapRu fun _ => by rfl).writeAlert c)

theorem rewriteAlert (c : Image) : Within s (t.rewriteAlert c) := (h.writeAlert c).ite h

/-- An alert table that is void or has 15 entries. -/
theorem mapAlerts {f : RuState → RuState}
    (hf : ∀ l, (f t.ru).alerts = some l → (∀ l', t.ru.alerts = some l' → l'.length = 15) → l.length = 15) :
    Within s (t.mapRu f) :=
  h.trans ⟨id, id, fun ⟨hr, ha⟩ => ⟨hr, fun l hl => hf l hl ha⟩, id⟩

theorem mapZone (zone : Nat) (f : ZoneEntry → ZoneEntry) : Within s (t.mapZone zone f) :=
  h.mapAlerts fun l hl ha => by
    obtain ⟨l', h1, rfl⟩ := Option.map_eq_some_iff.mp hl
    rw [← ha l' h1]
    split
    · rfl
    · exact updateAt_length ..

theorem validateAlerts : Within s t.validateAlerts :=
  h.mapAlerts fun l hl ha => by
    rw [← Option.some.inj hl]
    cases hal : t.ru.alerts with
    | none => rfl
    | some l' => exact ha l' hal

theorem voidAlerts : Within s t.voidAlerts := h.mapAlerts fun _ hl => nomatch hl

theorem ageAlerts : Within s t.ageAlerts :=
  h.mapAlerts fun l hl ha => by
    obtain ⟨l', h1, rfl⟩ := Option.map_eq_some_iff.mp hl
    rw [List.length_map, ha l' h1]

theorem alertEvent (c : Image) : Within s (t.alertEvent c) := by
  unfold State.alertEvent State.readinessEvent
  dsimp only
  repeat' split
  · exact (h.mapSrm _).wakeTrigger c
  · exact h
  · exact h.mapSrm _
  · exact h
  · exact (h.mapSrm _).stormFlag
  · exact h
  · exact h

/-! ### The membership unit -/

theorem emptySlot (c : Image) (id : SlotId) : Within s (t.emptySlot c id) := (h.mapLc fun _ => by rfl).setSlot id fun _ _ => rfl

theorem emptySlots (c : Image) (ids : List SlotId) : Within s (t.emptySlots c ids) := by
  unfold State.emptySlots
  induction ids generalizing t with
  | nil => exact h
  | cons id ids ih => exact ih (h.emptySlot c id)

theorem emptyAll (c : Image) : Within s (t.emptyAll c) := (h.emptySlots c _).mapLc fun _ => by rfl

theorem rewriteNotices (old : State) : Within s (t.rewriteNotices old) := by
  unfold State.rewriteNotices
  generalize noticeSlots = ids
  induction ids generalizing t with
  | nil => exact h
  | cons id ids ih =>
    refine ih ?_
    dsimp only
    split
    · exact h
    · exact h.writeSlot _ _

theorem leaveTables : Within s t.leaveTables := by
  unfold State.leaveTables State.resetActivity
  exact ((h.stopDrain.voidShares.mapAc _).voidRoster fun _ => by rfl).mapLc fun _ => by rfl

theorem emptyQueue : Within s t.emptyQueue := h.trans ⟨fun _ => Nat.zero_le _, id, id, id⟩

theorem setMembership (m : Membership) : Within s (t.setMembership m) := h.mapMu fun _ => by rfl

theorem enterFallback (c : Image) : Within s (t.enterFallback c) :=
  (((((((h.latch c .lineLost).leaveTables).emptyAll c).emptyQueue.voidAlerts).setMembership _).mapMu fun _ => by rfl).rewriteAlert c).rewriteNotices _

theorem enterIsolated (c : Image) : Within s (t.enterIsolated c) :=
  (((h.leaveTables.emptySlots c _).validateAlerts).setMembership _).mapMu fun _ => by rfl

theorem enterListening (c : Image) (hold : Bool) : Within s (t.enterListening c hold) := (h.mapMu fun _ => by rfl).cancelSlot .join (by decide)

theorem takeRestart (c : Image) : Within s (t.takeRestart c) :=
  ((((((h.leaveTables).emptyAll c).emptyQueue.voidAlerts).mapMu fun _ => by rfl).enterListening c true).rewriteAlert c).rewriteNotices _

theorem discardLoad : Within s t.discardLoad := h.voidShares.voidRoster fun _ => by rfl

theorem spoilJoin (c : Image) : Within s (t.spoilJoin c) := h.discardLoad.enterListening c false

theorem failJoin (c : Image) : Within s (t.failJoin c) := by
  have h1 := ((h.latch c .joinFailed).discardLoad).mapMu (f := fun m => { m with failures := m.failures + 1 }) (fun _ => rfl)
  exact (h1.enterIsolated c).ite (h1.enterListening c false)

theorem isolateFor (c : Image) (f : Flag) : Within s (t.isolateFor c f) := ((h.mapTs _).latch c f).enterIsolated c

theorem enterLinked (c : Image) : Within s (t.enterLinked c) := (h.mapMu fun _ => by rfl).writeStatus

theorem newRoster {f : MuState → MuState} (hf : ∀ r, (f t.mu).roster = some r → r.length = 48) : Within s (t.mapMu f) :=
  h.trans ⟨id, id, fun ⟨_, ha⟩ => ⟨hf, ha⟩, id⟩

theorem found (c : Image) : Within s (t.found c) := by
  have hr : Within s ((t.foundShares c).mapMu fun m => { m with roster := some (founderRoster c.station) }) :=
    (h.mapSa _).newRoster fun r hr => by
      rw [← Option.some.inj hr]
      exact updateAt_length ..
  exact hr.validateAlerts.enterLinked c

theorem linkLoaded (c : Image) : Within s (t.linkLoaded c) := by
  have hr : Within s (t.mapMu fun m => { m with roster := m.roster.map fun r => r.map (startEntryTimers c) }) :=
    h.mapRoster fun r hr => by
      obtain ⟨r', h1, rfl⟩ := Option.map_eq_some_iff.mp hr
      exact ⟨r', h1, List.length_map ..⟩
  exact ((hr.mapEntry _ _).reorderClaims).enterLinked c

theorem endLock (c : Image) : Within s (t.endLock c) := by
  unfold State.endLock
  split
  · exact h
  · next l _ =>
    have h1 := (h.mapMu (f := fun m => { m with lock := none }) (fun _ => rfl)).ite (p := l.joiner = c.station)
      ((h.mapMu (f := fun m => { m with lock := none }) (fun _ => rfl)).clearEntry l.joiner)
    exact (h1.cancelSlot .table (by decide)).ite h1

theorem spoil (c : Image) : Within s (t.spoil c) := by
  unfold State.spoil
  split
  · exact h.endLock c
  · exact h.spoilJoin c
  · exact h.spoilJoin c
  · exact h

/-! ### The end of a command -/

theorem startFlight (c : Image) (id : SlotId) : Within s (t.startFlight c id) := by
  unfold State.startFlight
  split
  · exact (h.setSlot id fun _ _ => rfl).mapLc fun _ => by rfl
  · exact h

theorem offer (c : Image) (fresh : Bool) : Within s (t.offer c fresh) := by
  unfold State.offer State.offerIfStillIdle
  repeat' split
  · exact h
  · exact h.startFlight c _
  · exact h.drawFree.startFlight c _
  · exact h.drawFree.mapLc fun _ => by rfl
  · exact h

theorem writeReplies (n : Nat) (ids : List SlotId) (rs : List Reply) : Within s (t.writeReplies n ids rs) := by
  induction ids generalizing t rs with
  | nil => exact h
  | cons id ids ih =>
    cases rs with
    | nil => exact h
    | cons r rs => exact ih (h.writeSlot _ _) rs

theorem serviceMove (c : Image) : Within s (t.serviceMove c) := by
  unfold State.serviceMove
  repeat' split
  · refine h.trans ⟨fun k => ?_, id, id, id⟩
    unfold QueueRule at k ⊢
    rw [mapRs_rs, List.length_drop]
    omega
  · exact h
  · exact h
  · exact (h.writeReplies _ _ _).mapRs fun _ => ⟨by rfl, by rfl, by rfl⟩

theorem runService (c : Image) : Within s (t.runService c) := by
  unfold State.runService
  generalize 2 * t.rs.queue.length + 1 = n
  induction n generalizing t with
  | zero => exact h
  | succ n ih => exact ih (h.serviceMove c)

theorem controlCalm (c : Image) : Within s (t.controlCalm c) := Within.ite ((h.mapSrm _).ite (h.mapSrm _)) h

theorem watchSilence (c : Image) : Within s (t.watchSilence c) := h.mapMu fun _ => by rfl

theorem writeJoinIfDue (c : Image) : Within s (t.writeJoinIfDue c) := (h.writeSlot _ _).ite h

theorem statusOnChange (b : State) : Within s (t.statusOnChange b) := h.statusForChange.ite h

theorem settle (c : Image) (b : State) : Within s (settle c b t) := by
  have h1 := (((h.recomputeUrgency c).drainStep b c).setValve c).latchStanding c
  have h2 := ((h1.controlCalm c).watchSilence c).writeJoinIfDue c
  exact (((h2.runService c).statusOnChange b).watchDormancy c).offer c _

/-! ### Accepted frames -/

theorem failFlight : Within s t.failFlight := by
  have hr : ∀ {u : State} (id : SlotId), Within s u → Within s (u.reportEmptied id) := by
    intro u id hu
    unfold State.reportEmptied
    split
    · exact hu.mapSa _
    · exact hu.mapAc _
    · exact hu
  unfold State.failFlight
  split
  · exact h.mapLc fun _ => by rfl
  · next id _ =>
    have h1 := h.setSlot id fun _ _ => failed_cancelled (t.slot id)
    exact (hr id h1).ite h1

theorem bookkeep (a : Arrival) : Within s (t.bookkeep a) := by
  unfold State.bookkeep
  split
  · exact h.mapLc fun _ => by rfl
  · exact (h.setSlot _ fun _ _ => accepted_cancelled _).mapLc fun _ => by rfl

theorem endField (m : Marks) : Within s (t.endField m) := h.mapLc fun _ => by rfl

theorem concluded (c : Image) (f : Frame) : Within s (t.concluded c f) :=
  ((h.endField _).bookkeep _).ite (h.endField _).failFlight

theorem hearEntry (c : Image) (n : Nat) : Within s (t.hearEntry c n) := (h.mapEntry n _).ite h

theorem hear (c : Image) (a : Arrival) (f : Frame) : Within s (t.hear c a f) := by
  have h1 : Within s ((t.hearSilence c a).hearPopulated f) := by
    unfold State.hearPopulated State.hearSilence
    repeat' split
    all_goals apply_rules [mapMu]
  have h2 := (h1.pruneSlot .absent [f.sender]).ite (p := isTank f.sender = true) h1
  exact h2.ite (h2.hearEntry c _)

theorem heardFrame (c : Image) (f : Frame) : Within s (t.heardFrame c f) := (h.concluded c f).hear c _ f

theorem ownerDone (c : Image) (a : Arrival) (f : Frame) : Within s (t.ownerDone c a f) := by
  have h1 : Within s (t.restartPresence c a) := (h.mapMu fun _ => by rfl).ite h
  exact (h1.spoil c).ite h1

/-- What surrounds the owner of an accepted frame keeps the bounds, so the frame keeps them if its owner does. -/
theorem acceptFrame (c : Image) (f : Frame) {o : Arrival → State → State}
    (ho : Within s (o (t.arrival c f) (t.heardFrame c f))) : Within s (acceptFrame c f o t) :=
  ((ho.ownerDone c _ f).afterFrame _ c).ite (h.concluded c f)

theorem takeSegment0 (c : Image) (f : Frame) : Within s (t.takeSegment0 c f) := by
  unfold State.takeSegment0
  split
  · exact h
  · next hfit =>
    have hlen : f.payload.length = 50 := by simpa [unfitSegment] using hfit
    have hr : Within s (t.enterLoading f.payload) := by
      unfold State.enterLoading
      refine (h.newRoster fun r hr => ?_).mapSa _
      rw [← Option.some.inj hr, rosterOfBytes, List.length_map, List.length_drop, hlen]
    exact (hr.hearEntry c _).ite (h.isolateFor c _)

theorem loadSegment (c : Image) (segment : Nat) (payload : List Byte) : Within s (t.loadSegment c segment payload) := by
  have hc : ∀ claims, Within s (t.loadClaims claims) := fun claims => (h.mapSa _).reorderClaims
  unfold State.loadSegment
  split
  · exact (h.mapSa _).mapMu fun _ => by rfl
  · exact (hc _).mapMu fun _ => by rfl
  · refine (Within.mapAlerts (hc _) fun l hl _ => ?_).linkLoaded c
    rw [← Option.some.inj hl, alertsOfBytes, List.length_map, List.length_range]
  · exact h

theorem hearBurst (c : Image) (segment : Nat) (f : Frame) : Within s (t.hearBurst c segment f) :=
  h.ite ((h.mapMu fun _ => by rfl).ite ((h.mapMu fun _ => by rfl).ite h))

theorem finalSegment (c : Image) (l : Lock) : Within s (t.finalSegment c l) :=
  (((h.mapMu fun _ => by rfl).mapEntry _ _).cancelSlot .table (by decide)).ite ((h.mapMu fun _ => by rfl).mapEntry _ _)

theorem takeTable (c : Image) (a : Arrival) (segment : Nat) (f : Frame) : Within s (t.takeTable c a segment f) := by
  unfold State.takeTable State.takeSegment State.burstAtLinked State.nextBurst
  repeat' split
  · exact h.hearBurst c segment f
  · exact h.takeSegment0 c f
  · exact h.hearBurst c segment f
  · exact h.loadSegment c segment _
  · exact h
  · exact h
  · exact h
  · exact h
  · exact h.finalSegment c _
  · exact h.writeSlot _ _
  · exact h
  · exact h

theorem declareAbsent (c : Image) (n : Nat) : Within s (t.declareAbsent c n) := by
  unfold State.declareAbsent State.strand
  exact ((h.mapEntry n _).mapSa _).mapSa _

theorem foldl {op : State → Nat → State} (ho : ∀ {u : State} (n : Nat), Within s u → Within s (op u n)) (l : List Nat) :
    Within s (l.foldl op t) := by
  induction l generalizing t with
  | nil => exact h
  | cons n l ih => exact ih (ho n h)

theorem takeAbsent (c : Image) (named : List Nat) : Within s (t.takeAbsent c named) := by
  have h1 := (h.foldl (fun n hu => hu.declareAbsent c n) (named.filter t.isLinked)).pruneSlot .absent named
  exact (h1.enterFallback c).ite h1

theorem takeReclaim (named : List Nat) : Within s (t.takeReclaim named) :=
  ((h.returnWhere _).foldl (fun n hu => hu.clearEntry n) _).pruneSlot .reclaim named

theorem takeCurtailFrame (c : Image) (q : Nat) : Within s (t.takeCurtailFrame c q) :=
  ((h.takeCurtail c q).curtailRelease c q).ite h

theorem settleOutgoing (a : Arrival) (set : List Nat) : Within s (t.settleOutgoing a set) := (h.mapSa _).ite h

theorem lateWithdraw (c : Image) (a : Arrival) : Within s (t.lateWithdraw c a) :=
  Within.ite (((h.mapSa _).writeSlot _ _).ite (h.mapSa _)) h

theorem takeAlert (c : Image) (a : Arrival) (origin zone : Nat) (g : Grade) : Within s (t.takeAlert c a origin zone g) := by
  have h1 : Within s (if a.own then t.ownAlert c g else t) := (h.mapRu fun _ => by rfl).ite h
  have h2 := h1.mapZone zone (applyAlert g origin)
  exact (((h2.alertEvent c).wakeTrigger c).ite (h2.alertEvent c)).ite h2

theorem markJoiner (c : Image) (n : Nat) : Within s (t.markJoiner c n) :=
  ((((h.rejoinShares n).ite h).pruneSlot .absent [n]).pruneSlot .reclaim [n]).mapEntry n _

theorem takeJoin (c : Image) (a : Arrival) (n pool : Nat) : Within s (t.takeJoin c a n pool) := by
  have hj : Within s (t.enterJoining c) := (h.mapMu fun _ => by rfl).mapMu fun _ => by rfl
  have hh : Within s (t.hearJoin n) := (h.mapMu fun _ => by rfl).mapMu fun _ => by rfl
  have hm : Within s ((t.markJoiner c n).mapMu fun m => { m with lock := some (t.lockFor c n pool) }) :=
    (h.markJoiner c n).mapMu fun _ => rfl
  have hb : Within s (t.beginLock c n pool) := Within.ite ((hm.wakeTrigger c).writeSlot _ _) hm
  unfold State.takeJoin
  split
  · exact h.isolateFor c _
  · split
    · exact hj.ite hh
    · exact hj.ite hh
    · exact h.ite hb
    · exact h

theorem takeStatus (n urgency : Nat) : Within s (t.takeStatus n urgency) := (h.setUrgency n urgency).ite h

theorem reassert (a : Arrival) : Within s (t.reassert a) := (h.writeSlot _ _).ite h

theorem markDormant (c : Image) (n : Nat) : Within s (t.markDormant c n) := (h.mapEntry n _).ite h

theorem ownDormant (c : Image) (a : Arrival) : Within s (t.ownDormant c a) := by
  have h1 := (h.restDrain c).enterDormant c
  exact ((h1.enterWaking c).ite h1).ite h

/-- A QUERY finds room in the queue, or this station has driven BUSY (R141). -/
theorem takeQuery (c : Image) (f : Frame) (hb : t.drivesBusy c f.sender f.addressee = false) :
    Within s (t.takeQuery c f) := by
  unfold State.takeQuery
  split
  · next hq =>
    simp only [Frame.fromListenerTo, Bool.and_eq_true, decide_eq_true_eq] at hq
    have hroom : ¬ queueSize ≤ t.rs.queue.length := by simpa [State.drivesBusy, hq] using hb
    have hqueue : Within s (t.mapRs fun r =>
        { r with queue := r.queue ++ [{ requester := f.sender, kind := queryKindOf f.payload }] }) :=
      h.trans ⟨fun _ => by
        unfold QueueRule
        rw [mapRs_rs, List.length_append, List.length_singleton]
        omega, id, id, id⟩
    exact hqueue.wakeTrigger c
  · exact h

theorem takeClear (c : Image) (mask : FlagSet) : Within s (t.takeClear c mask) :=
  h.ite (((h.mapRs fun _ => ⟨by rfl, by rfl, by rfl⟩).latchStanding c).statusForChange)

end
end Within
end Sys2Proof.Machine

namespace Sys2Proof.Machine
open Sys2Proof

/-! ## The roster and the own entry -/

/-- A LINKED entry that no timer runs on (R36, R54). -/
def RosterEntry.Untimed (e : RosterEntry) : Prop := e.state = .linked ∧ e.lastHeard = none ∧ e.stranding = none

/-- The roster of a station under image c: 48 entries, valid exactly in LINKED and LOADING, and in LINKED the own entry
LINKED and untimed (R36, R54). -/
structure Rostered (c : Image) (s : State) : Prop where
  length : ∀ r, s.mu.roster = some r → r.length = 48
  valid : s.mu.roster.isSome = true ↔ s.mu.membership = .linked ∨ s.mu.membership = .loading
  own : isTank c.station = true → s.mu.membership = .linked → (s.entry c.station).Untimed

namespace Rostered

variable {c : Image} {s t : State}

theorem congr (h : Rostered c s) (hm : t.mu.membership = s.mu.membership) (hr : t.mu.roster = s.mu.roster) :
    Rostered c t := by
  refine ⟨?_, ?_, ?_⟩
  · rw [hr]; exact h.length
  · rw [hr, hm]; exact h.valid
  · rw [hm, entry_of_roster hr]; exact h.own

theorem of_member (h : Rostered c s) (ht : t.member = s.member) : Rostered c t :=
  h.congr (membership_of_member ht) (roster_of_member ht)

/-- A station that is neither LINKED nor LOADING has no roster. -/
theorem of_void (hr : s.mu.roster = none) (h1 : s.mu.membership ≠ .linked) (h2 : s.mu.membership ≠ .loading) :
    Rostered c s := by
  refine ⟨fun r h => ?_, ?_, fun _ h => absurd h h1⟩
  · rw [hr] at h; cases h
  · simp [hr, h1, h2]

/-- A change of one entry, which keeps the own one untimed. -/
theorem mapEntry (h : Rostered c s) {n : Nat} {f : RosterEntry → RosterEntry}
    (hf : s.mu.membership = .linked → isTank c.station = true → n = c.station → (s.entry n).Untimed →
      (f (s.entry n)).Untimed) : Rostered c (s.mapEntry n f) := by
  refine ⟨fun r hr => ?_, ?_, fun hc hl => ?_⟩
  · rw [mapEntry_roster] at hr
    obtain ⟨r', h1, rfl⟩ := Option.map_eq_some_iff.mp hr
    rw [← h.length r' h1]
    split
    · rfl
    · exact updateAt_length ..
  · rw [mapEntry_roster, Option.isSome_map]
    exact h.valid
  · have ho := h.own hc hl
    by_cases hn : n = c.station
    · subst hn
      rw [entry_mapEntry_of_state (by rw [State.entryState, ho.1]; simp)]
      exact hf hl hc rfl ho
    · rw [entry_mapEntry_other s f (Ne.symm hn)]
      exact ho

/-- A change of another station's entry. -/
theorem mapEntry_other (h : Rostered c s) {n : Nat} (hn : n ≠ c.station) (f : RosterEntry → RosterEntry) :
    Rostered c (s.mapEntry n f) :=
  h.mapEntry fun _ _ he => absurd he hn

theorem ite {p : Prop} [Decidable p] (h : p → Rostered c s) (k : ¬ p → Rostered c t) :
    Rostered c (if p then s else t) := by
  split
  · next hp => exact h hp
  · next hp => exact k hp

/-! ### Membership without a roster -/

theorem enterFallback (s : State) : Rostered c (s.enterFallback c) := by
  obtain ⟨l, r, h⟩ := enterFallback_eq s c
  rw [h]
  exact of_void rfl (by simp) (by simp)

theorem enterIsolated (s : State) : Rostered c (s.enterIsolated c) := by
  obtain ⟨-, hr, -⟩ := enterIsolated_leftTables s c
  have hm := enterIsolated_membership s c
  exact of_void hr (by simp [hm]) (by simp [hm])

theorem isolateFor (s : State) (f : Flag) : Rostered c (s.isolateFor c f) := enterIsolated _

theorem enterListening {s : State} (hr : s.mu.roster = none) (hold : Bool) : Rostered c (s.enterListening c hold) :=
  of_void hr (fun h => nomatch h) (fun h => nomatch h)

theorem spoilJoin (s : State) : Rostered c (s.spoilJoin c) := enterListening rfl false

theorem failJoin (s : State) : Rostered c (s.failJoin c) :=
  ite (fun _ => enterIsolated _) fun _ => enterListening rfl false

theorem takeRestart (s : State) : Rostered c (s.takeRestart c) := by
  have hl : ∀ x : State, x.mu.roster = none →
      Rostered c ((x.mapMu fun m => { m with failures := 0, quiet := none }).enterListening c true) :=
    fun _ hr => of_void hr (fun h => nomatch h) (fun h => nomatch h)
  have hr : ((s.leaveTables.emptyAll c).emptyQueue.voidAlerts).mu.roster = none :=
    roster_of_member (s := s.leaveTables) (by simp)
  refine (hl _ hr).of_member ?_
  unfold State.takeRestart
  rw [rewriteNotices_member, rewriteAlert_member]

section
variable (h : Rostered c s)
include h

theorem lineFault : Rostered c (s.lineFault c) := by
  unfold State.lineFault
  dsimp only
  split
  case h_5 => exact h.of_member (by simp)
  case h_6 => exact h.of_member (by simp)
  all_goals exact enterFallback _

theorem abortOwn : Rostered c (s.abortOwn c) := by
  have h1 : Rostered c (s.failFlight.mapLc fun l => { l with tally := l.tally + 1 }) := h.of_member (by simp)
  exact ite (fun _ => ite (fun _ => h1.lineFault) fun _ => h1) fun _ => h.of_member (by simp)

/-- A founder's own entry is LINKED and untimed (R36, R43). -/
theorem judgeJoin : Rostered c (s.judgeJoin c) := by
  have hq : Rostered c (s.requeueJoin c) := h.congr rfl rfl
  have hr0 : (s.found c).mu.roster = some (founderRoster c.station) := rfl
  have hf : Rostered c (s.found c) := by
    refine ⟨fun r hr => ?_, ⟨fun _ => .inl rfl, fun _ => rfl⟩, fun hc _ => ?_⟩
    · rw [← Option.some.inj hr]; exact updateAt_length ..
    · rw [isTank_iff] at hc
      have he : (s.found c).entry c.station = RosterEntry.linkedNow none := by
        have h0 : c.station ≠ 0 := by omega
        have h1 : c.station - 1 < stationCount := Nat.lt_of_lt_of_le (by omega) hc.2
        rw [State.entry, hr0]
        simp [founderRoster, h0, h1, List.getD_eq_getElem?_getD, getElem?_updateAt]
      rw [he]
      exact ⟨rfl, rfl, rfl⟩
  exact ite (fun _ => failJoin _) fun _ => ite (fun _ => hq) fun _ => ite (fun _ => hf) fun _ => hq

/-! ### The lock and the entries -/

theorem endLock : Rostered c (s.endLock c) := by
  unfold State.endLock
  split
  · exact h
  · next l _ =>
    have h0 : Rostered c (s.mapMu fun m => { m with lock := none }) := h.congr rfl rfl
    have h1 := ite (p := l.joiner = c.station) (fun _ => h0) fun hj => h0.mapEntry_other hj fun _ => .blank
    exact ite (fun _ => h1.congr rfl rfl) fun _ => h1

theorem ownerDone (a : Arrival) (f : Frame) : Rostered c (s.ownerDone c a f) := by
  have h1 : Rostered c (s.restartPresence c a) := h.of_member (by simp)
  have h2 : Rostered c ((s.restartPresence c a).spoil c) := by
    unfold State.spoil
    split
    · exact h1.endLock
    · exact spoilJoin _
    · exact spoilJoin _
    · exact h1
  exact ite (fun _ => h2) fun _ => h1

theorem hearEntry (n : Nat) : Rostered c (s.hearEntry c n) :=
  ite (fun _ => h.mapEntry fun _ _ hn ⟨hs, hl, hst⟩ => ⟨hs, by rw [if_neg fun hh => hh.2 hn]; exact hl, hst⟩) fun _ => h

theorem heardFrame (f : Frame) : Rostered c (s.heardFrame c f) := by
  have hr := heardFrame_roster s c f
  have hm := heardFrame_membership s c f
  split at hr
  · exact h.congr hm hr
  · obtain ⟨r, hh⟩ := hearEntry_eq s c f.sender
    exact (h.hearEntry f.sender).congr (by rw [hm, hh]; rfl) hr

/-- What surrounds the owner of an accepted frame keeps the roster, so the frame keeps it if its owner does. -/
theorem acceptFrame (f : Frame) {o : Arrival → State → State}
    (ho : Rostered c (s.heardFrame c f) → Rostered c (o (s.arrival c f) (s.heardFrame c f))) :
    Rostered c (acceptFrame c f o s) :=
  ite (fun _ => ((ho (h.heardFrame f)).ownerDone _ f).of_member (afterFrame_member ..)) fun _ => h.of_member (by simp)

theorem setUrgency (n u : Nat) : Rostered c (s.setUrgency n u) := 
  (h.mapEntry (f := fun e => { e with urgency := u }) fun _ _ _ ⟨hs, hl, hst⟩ => ⟨hs, hl, hst⟩).congr rfl rfl

theorem takeClaim (n urgency field : Nat) : Rostered c (s.takeClaim n urgency field) :=
  ite (fun _ => h.setUrgency n urgency) fun _ => (h.setUrgency n urgency).of_member (by simp)

theorem takeStatus (n urgency : Nat) : Rostered c (s.takeStatus n urgency) :=
  ite (fun _ => h.setUrgency n urgency) fun _ => h

theorem markDormant (n : Nat) : Rostered c (s.markDormant c n) :=
  ite (fun _ => h.mapEntry fun _ _ hn ⟨hs, hl, hst⟩ => ⟨hs, by rw [if_neg fun hh => hh.2 hn]; exact hl, hst⟩) fun _ => h

/-- Entries of other stations, one after the other. -/
theorem foldl {op : State → Nat → State} (ho : ∀ {u : State} (n : Nat), n ≠ c.station → Rostered c u → Rostered c (op u n))
    {l : List Nat} (hl : ∀ n ∈ l, n ≠ c.station) : Rostered c (l.foldl op s) := by
  induction l generalizing s with
  | nil => exact h
  | cons n l ih =>
    rw [List.forall_mem_cons] at hl
    exact ih (ho n hl.1 h) hl.2

/-- An ABSENT that names the station itself takes it off the tables (R55). -/
theorem takeAbsent (named : List Nat) : Rostered c (s.takeAbsent c named) := by
  refine ite (fun _ => enterFallback _) fun hn => ?_
  have hown : ∀ n ∈ named.filter s.isLinked, n ≠ c.station := by
    rintro n hmem rfl
    exact hn (List.contains_iff_mem.mpr (List.mem_filter.mp hmem).1)
  exact (h.foldl (fun n hne hu => (hu.mapEntry_other hne _).of_member (strand_member ..)) hown).of_member
    (pruneSlot_member ..)

theorem clearAll {l : List Nat} (hl : s.mu.membership = .linked → isTank c.station = true → c.station ∉ l) :
    Rostered c (s.clearAll l) := by
  unfold State.clearAll
  induction l generalizing s with
  | nil => exact h
  | cons n l ih =>
    refine ih (h.mapEntry fun hm hc hn _ => ?_) fun hm hc hin => hl hm hc (List.mem_cons_of_mem _ hin)
    exact absurd (hn ▸ List.mem_cons_self) (hl hm hc)

/-- A LINKED station's own entry is not ABSENT, so no RECLAIM clears it (R57). -/
theorem takeReclaim (named : List Nat) : Rostered c (s.takeReclaim named) := by
  let hit := named.filter fun n => decide (s.entryState n = .absent)
  have hm : (s.reclaimShares hit).member = s.member := returnWhere_member ..
  refine ((h.of_member hm).clearAll (l := hit) fun hl hc hin => ?_).of_member (pruneSlot_member ..)
  have ho := (h.own hc ((membership_of_member hm).symm.trans hl)).1
  simp [hit, State.entryState, ho] at hin

theorem takeSegment0 (f : Frame) : Rostered c (s.takeSegment0 c f) := by
  refine ite (fun _ => h) fun hfit => ite (fun _ => ?_) fun _ => isolateFor _ _
  have hlen : f.payload.length = 50 := by simpa [unfitSegment] using hfit
  have hl : Rostered c (s.enterLoading f.payload) := by
    refine ⟨fun r hr => ?_, ⟨fun _ => .inr rfl, fun _ => rfl⟩, fun _ hm => nomatch hm⟩
    rw [← Option.some.inj hr, rosterOfBytes, List.length_map, List.length_drop, hlen]
  exact hl.hearEntry _

/-- A station that has loaded its tables is LINKED, its own entry with it (R51). -/
theorem linkLoaded (hl : s.mu.membership = .loading) : Rostered c (s.linkLoaded c) := by
  obtain ⟨r, hr⟩ := Option.isSome_iff_exists.mp (h.valid.mpr (.inr hl))
  have hlen := h.length r hr
  refine ⟨fun r' hr' => ?_, ?_, fun hc _ => ?_⟩
  · rw [linkLoaded_roster, mapEntry_roster] at hr'
    simp only [mapMu_mu, hr, Option.map_some, Option.some.injEq] at hr'
    rw [← hr']
    split
    · rw [List.length_map, hlen]
    · rw [updateAt_length, List.length_map, hlen]
  · rw [linkLoaded_roster, mapEntry_roster]
    simp only [mapMu_mu, hr, Option.map_some, Option.isSome_some, true_iff]
    exact .inl rfl
  · rw [isTank_iff] at hc
    rw [linkLoaded_entry_own c hr hc.1 (by omega)]
    exact ⟨rfl, rfl, rfl⟩

theorem takeSegment (segment : Nat) (f : Frame) (hl : s.mu.membership = .loading) : Rostered c (s.takeSegment c segment f) := by
  refine ite (fun _ => ?_) fun _ => h
  unfold State.loadSegment
  split
  · exact h.congr rfl rfl
  · exact h.congr rfl rfl
  · exact Rostered.linkLoaded (h.congr (t := State.mapRu _ _) rfl rfl) hl
  · exact h

theorem finalSegment (l : Lock) : Rostered c (s.finalSegment c l) := by
  have h0 : Rostered c (s.mapMu fun m => { m with lock := none }) := h.congr rfl rfl
  have h1 : Rostered c ((s.mapMu fun m => { m with lock := none }).mapEntry l.joiner fun _ =>
      RosterEntry.linkedNow (if l.joiner = c.station then none else lastHeardLimit c false)) :=
    h0.mapEntry fun _ _ hj _ => by rw [if_pos hj]; exact ⟨rfl, rfl, rfl⟩
  exact ite (fun _ => h1.of_member (cancelSlot_member ..)) fun _ => h1

theorem hearBurst (segment : Nat) (f : Frame) : Rostered c (s.hearBurst c segment f) := h.of_member (by simp)

theorem takeTable (a : Arrival) (segment : Nat) (f : Frame) : Rostered c (s.takeTable c a segment f) := by
  unfold State.takeTable
  split
  · exact h.hearBurst _ f
  · exact ite (fun _ => h.takeSegment0 f) fun _ => h.hearBurst _ f
  · next hl => exact ite (fun _ => h.takeSegment _ f hl) fun _ => h
  · unfold State.burstAtLinked
    split
    · exact h
    · exact ite (fun _ => h) fun _ => ite (fun _ => h.finalSegment _) fun _ => h.of_member (nextBurst_member ..)
  · exact h

theorem markJoiner (n : Nat) : Rostered c (s.markJoiner c n) := by
  rw [markJoiner_eq]
  have hj : Rostered c (((s.joinShares n).pruneSlot .absent [n]).pruneSlot .reclaim [n]) :=
    h.of_member (joinShares_member s n)
  refine hj.mapEntry fun _ _ hn hu => ?_
  rw [joinerEntry, if_pos hn]
  exact hu

theorem takeJoin (a : Arrival) (n pool : Nat) : Rostered c (s.takeJoin c a n pool) := by
  have hj : s.mu.membership = .listening ∨ s.mu.membership = .joining → Rostered c (s.enterJoining c) := by
    intro hm
    have hr : s.mu.roster = none := by
      rw [← Option.not_isSome_iff_eq_none, h.valid]
      rcases hm with hm | hm <;> simp [hm]
    exact of_void hr (fun hh => nomatch hh) (fun hh => nomatch hh)
  have hh : Rostered c (s.hearJoin n) := h.congr rfl rfl
  refine ite (fun _ => isolateFor _ _) fun _ => ?_
  split
  · next hm => exact ite (fun _ => hj (.inl hm)) fun _ => hh
  · next hm => exact ite (fun _ => hj (.inr hm)) fun _ => hh
  · exact ite (fun _ => h) fun _ => (h.markJoiner n).congr
      ((beginLock_membership s c n pool).trans (membership_of_member (joinShares_member s n)).symm) (beginLock_roster s c n pool)
  · exact h

/-- The quiet timer runs in FALLBACK, where there is no roster (R59). -/
theorem quiet_over (hm : s.mu.membership = .fallback) :
    Rostered c ((s.mapMu fun m => { m with quiet := none }).enterListening c false) := by
  refine enterListening (s := State.mapMu _ _) ?_ false
  show s.mu.roster = none
  rw [← Option.not_isSome_iff_eq_none, h.valid]
  simp [hm]

end
end Rostered
end Sys2Proof.Machine

namespace Sys2Proof.Machine
open Sys2Proof

namespace Within

variable {s t : State} (h : Within s t)
include h

theorem makeSample (c : Image) (chamber tank : Channel) : Within s (t.makeSample c chamber tank) := by
  have h0 : Within s (t.mapTs fun x => { x with window := none }) := h.mapTs _
  have h1 : Within s ((t.mapTs fun x => { x with window := none }).keepValues c chamber tank) :=
    Within.ite ((h0.mapTs _).mapTs _) (h0.mapTs _)
  have h2 := ((h1.spillSample c chamber).wakeTrigger c).ite (p := wakingSample c chamber = true) (h1.spillSample c chamber)
  exact h0.ite (((h2.recomputeUrgency c).mapTs _).drainSample c)

theorem lineFault (c : Image) : Within s (t.lineFault c) := by
  have hl := h.latch c .sendFailed
  unfold State.lineFault
  dsimp only
  split
  case h_5 => exact (hl.emptyAll c).rewriteNotices _
  case h_6 => exact hl
  all_goals exact hl.enterFallback c

theorem abortOwn (c : Image) : Within s (t.abortOwn c) := by
  have h1 : Within s (t.failFlight.mapLc fun l => { l with tally := l.tally + 1 }) := h.failFlight.mapLc fun _ => by rfl
  exact Within.ite (Within.ite (h1.lineFault c) h1) h.failFlight

theorem busyOwn : Within s t.busyOwn := by
  unfold State.busyOwn
  dsimp only
  split
  · exact h.failFlight
  · next id hid =>
    refine h.failFlight.setSlot id fun _ _ => backOff_cancelled ?_ _
    rw [slot_failFlight t id hid]
    exact failed_cancelled _

theorem judgeJoin (c : Image) : Within s (t.judgeJoin c) := by
  have hq : Within s (t.requeueJoin c) := (h.mapMu fun _ => by rfl).writeSlot _ _
  exact (h.failJoin c).ite (hq.ite ((h.found c).ite hq))

end Within

/-! ## How a command runs -/

/-- The body of a command on a running station has left the configuration, and has kept the bounds and the roster. -/
structure Sound (c : Image) (s u : State) : Prop where
  cl : u.cl = s.cl
  within : Within s u
  rostered : Rostered c s → Rostered c u

theorem cl_of_chip {s t : State} (h : t.chip = s.chip) : t.cl = s.cl := congrArg (fun x => x.2.2.2.2.1) h

/-- A body that leaves the chip and the membership views. -/
theorem Sound.of_member {c : Image} {s u : State} (hw : Within s u) (hc : u.chip = s.chip) (hm : u.member = s.member) :
    Sound c s u := ⟨cl_of_chip hc, hw, fun h => h.of_member hm⟩

/-- The owner of an accepted frame leaves the configuration, and keeps the bounds and the roster. -/
structure SoundOwner (c : Image) (x u : State) : Prop where
  chip : u.chip = x.chip
  within : ∀ s, Within s x → Within s u
  rostered : Rostered c x → Rostered c u

/-- How a command has run from s. Only its inputs, the configuration and the mark of the step window's start have changed;
or every block has its reset values; or a good load has been taken; or a running station's command has ended. -/
inductive Ran (s : State) : State → Prop
  | inputs (l : ClState) (resetHeld : Bool) (tidePin : Tide) (seconds : Word) (fresh : Bool)
      (hl : l.image = s.cl.image ∨ l.image = none) :
      Ran s { s with
        cl := l, resetHeld := resetHeld, tidePin := tidePin, seconds := seconds
        srm := { s.srm with stepFresh := fresh } }
  | reset (t : State) (hmu : t.mu = .reset) (hlc : t.lc = .reset) (hru : t.ru = .reset) (hq : t.rs.queue = [])
      (hlog : LogRule s → LogRule t) : Ran s t
  | loaded (c : Image) (hl : s.cl.load = .reading) : Ran s (settle c s (s.goodLoad c))
  | settled (c : Image) (b u : State) (hc : s.running = some c) (hb : b.statusValues = s.statusValues)
      (hu : Sound c s u) : Ran s (settle c b u)

namespace Ran

variable {s : State}

theorem refl (s : State) : Ran s s := .inputs s.cl s.resetHeld s.tidePin s.seconds s.srm.stepFresh (.inl rfl)

theorem ite {p : Prop} [Decidable p] {t u : State} (h : p → Ran s t) (k : ¬ p → Ran s u) : Ran s (if p then t else u) := by
  split
  · next hp => exact h hp
  · next hp => exact k hp

theorem onRunning {g : Image → Bool} {body : Image → State}
    (hb : ∀ c, s.running = some c → g c = true → Sound c s (body c)) : Ran s (s.onRunning g body) := by
  cases hc : s.running with
  | none => rw [onRunning_none hc]; exact refl s
  | some c =>
    rw [onRunning_some hc]
    exact ite (fun hg => .settled c s _ hc rfl (hb c hc hg)) fun _ => refl s


theorem acceptFrame {c : Image} {f : Frame} {o : Arrival → State → State}
    (ho : SoundOwner c (s.heardFrame c f) (o (s.arrival c f) (s.heardFrame c f))) :
    Sound c s (acceptFrame c f o s) :=
  ⟨cl_of_chip (acceptFrame_keeps State.chip c f _ s (by simp) (by simp) (by simp) (ho.chip.trans (by simp))),
    (Within.refl s).acceptFrame c f (ho.within s ((Within.refl s).heardFrame c f)),
    fun h => h.acceptFrame f ho.rostered⟩

theorem receive {f : Frame} {o : Image → Arrival → State → State} (ho : ∀ c a x, SoundOwner c x (o c a x)) :
    Ran s (receive f o s) :=
  onRunning fun c _ _ => acceptFrame (ho c _ _)

end Ran

namespace SoundOwner

variable {c : Image} {x u v : State}

theorem refl (c : Image) (x : State) : SoundOwner c x x := ⟨rfl, fun _ => id, id⟩

theorem ite {p : Prop} [Decidable p] (h : SoundOwner c x u) (k : SoundOwner c x v) : SoundOwner c x (if p then u else v) := by
  split
  · exact h
  · exact k

theorem guarded {p : Prop} [Decidable p] (h : SoundOwner c x u) : SoundOwner c x (if p then u else x) := h.ite (refl c x)

theorem of_member (hw : ∀ s, Within s x → Within s u) (hc : u.chip = x.chip) (hm : u.member = x.member) :
    SoundOwner c x u := ⟨hc, hw, fun h => h.of_member hm⟩

end SoundOwner

/-- Every command of the table runs in one of these ways. -/
theorem exec_ran {i : Instr} {s t : State} (he : exec i s = .next t) : Ran s t := by
  have r := Within.refl s
  cases i with
  | powerOn =>
    obtain rfl := Host.Outcome.next.inj he
    exact .reset _ rfl rfl rfl rfl fun _ => ⟨Nat.zero_le _, fun i r hr => by cases hr⟩
  | supplyBelowThreshold =>
    obtain rfl := Host.Outcome.next.inj he
    exact .reset _ rfl rfl rfl rfl fun _ => ⟨Nat.zero_le _, fun i r hr => by cases hr⟩
  | resetLinePulse =>
    obtain rfl := Host.Outcome.next.inj he
    have hcut : Within s s.cutAtPulse := by
      unfold State.cutAtPulse State.cutEpisode
      repeat' split
      · exact r
      · exact (r.mapRecord _).closeEpisode _
      · exact r
    exact Ran.ite (fun _ => .reset _ rfl rfl rfl rfl hcut.log) fun _ => .refl s
  | resetLineRelease =>
    obtain rfl := Host.Outcome.next.inj he
    exact Ran.ite (fun _ => .inputs _ _ _ _ _ (.inr rfl)) fun _ => .refl s
  | configReadAttempt read =>
    obtain rfl := Host.Outcome.next.inj he
    refine Ran.ite (fun ha => ?_) fun _ => .refl s
    have hl : s.cl.load = .reading := by
      simp only [State.attempting, Bool.and_eq_true, decide_eq_true_eq] at ha
      exact ha.1
    unfold State.readAttempt
    split
    · exact Ran.ite (fun _ => .inputs _ _ _ _ _ (.inr rfl)) fun _ => .inputs _ _ _ _ _ (.inl rfl)
    · split
      · exact .inputs _ _ _ _ _ (.inr rfl)
      · exact .loaded _ hl
  | configRetryWaitExpiry => obtain rfl := Host.Outcome.next.inj he; exact .inputs _ _ _ _ _ (.inl rfl)
  | stationSecondsTick =>
    obtain rfl := Host.Outcome.next.inj he
    exact Ran.ite (fun _ => .inputs _ _ _ _ _ (.inl rfl)) fun _ => .refl s
  | tideInputChange level =>
    obtain rfl := Host.Outcome.next.inj he
    let s1 : State := { s with tidePin := level }
    have hw : Within s s1 := r.congr ⟨rfl, rfl, rfl⟩ rfl rfl fun _ _ => id
    show Ran s (s1.onRunning _ _)
    have hin : Ran s s1 := .inputs s.cl s.resetHeld level s.seconds s.srm.stepFresh (.inl rfl)
    cases hc : s.running with
    | none => rw [onRunning_none (s := s1) hc]; exact hin
    | some c =>
      rw [onRunning_some (s := s1) hc]
      exact Ran.ite (fun _ => .settled c s1 _ hc rfl ⟨rfl, hw.mapTs _, fun k => k.congr rfl rfl⟩) fun _ => hin
  | sensorReply reply =>
    unfold Machine.exec execSensorReply at he
    dsimp only at he
    split at he <;> obtain rfl := Host.Outcome.next.inj he
    · exact .refl s
    · exact .onRunning fun c _ _ => .of_member (r.makeSample c _ _) (by simp) (by simp)
  | lineIdle =>
    obtain rfl := Host.Outcome.next.inj he
    split
    · exact .refl s
    · next c hc => exact .settled c s.lineBusy _ hc rfl (.of_member (r.mapLc fun _ => by rfl) rfl rfl)
  | minuteBoundary =>
    obtain rfl := Host.Outcome.next.inj he
    exact .onRunning fun c _ _ => .of_member (((r.mapRu fun _ => by rfl).evaluateLocal c).alertEvent c) (by simp) (by simp)
  | rainPulse time =>
    obtain rfl := Host.Outcome.next.inj he
    exact .onRunning fun c _ _ => .of_member ((((r.mapRu fun _ => by rfl).evaluateLocal c).alertEvent c).wakeTrigger c) (by simp) (by simp)
  | tideStateChange =>
    obtain rfl := Host.Outcome.next.inj he
    exact .onRunning fun c _ _ => .of_member ((r.mapTs _).mapTs _) (by simp) (by simp)
  | sampleTimerExpiry =>
    obtain rfl := Host.Outcome.next.inj he
    refine .onRunning fun c _ _ => ?_
    have hw := (r.makeSample c .failed .failed).ite (p := s.ts.window.isSome = true) r
    exact .of_member (hw.mapTs _) (by simp [apply_ite State.chip]) (by simp [apply_ite State.member])
  | replyWindowClose =>
    obtain rfl := Host.Outcome.next.inj he
    exact .onRunning fun c _ _ => .of_member (r.makeSample c _ _) (by simp) (by simp)
  | mergeTimerExpiry =>
    obtain rfl := Host.Outcome.next.inj he
    exact .onRunning fun c _ _ => .of_member (r.closeEpisode c) (by simp) (by simp)
  | lostArbitration =>
    obtain rfl := Host.Outcome.next.inj he
    exact .onRunning fun c _ _ => .of_member (r.mapLc fun _ => by rfl).failFlight (by simp) (by simp)
  | frameBreakOff =>
    obtain rfl := Host.Outcome.next.inj he
    refine .onRunning fun c _ _ => ?_
    split
    · exact ⟨cl_of_chip (by simp), (r.mapLc fun _ => by rfl).abortOwn c, fun h => (h.congr (t := s.lineBusy) rfl rfl).abortOwn⟩
    · exact .of_member (r.mapLc fun _ => by rfl) rfl rfl
  | frameAbortedOrBusy rx =>
    obtain rfl := Host.Outcome.next.inj he
    exact .onRunning fun c _ _ => .of_member (r.endField _).failFlight (by simp) (by simp)
  | ownFrameAborted found =>
    obtain rfl := Host.Outcome.next.inj he
    exact .onRunning fun c _ _ =>
      ⟨cl_of_chip (by simp), (r.endField _).abortOwn c,
        fun h => (h.congr (t := s.endField (s.senderMarks c found)) rfl rfl).abortOwn⟩
  | ownFrameBusy =>
    obtain rfl := Host.Outcome.next.inj he
    exact .onRunning fun c _ _ => .of_member (r.endField _).busyOwn (by simp) (by simp)
  | busyBackoffExpiry slot =>
    obtain rfl := Host.Outcome.next.inj he
    exact .onRunning fun c _ _ => .of_member (r.setSlot slot fun _ => id) (by simp) (by simp)
  | claimSpacingExpiry =>
    obtain rfl := Host.Outcome.next.inj he
    exact .onRunning fun c _ _ => .of_member (r.mapLc fun _ => by rfl) (by simp) (by simp)
  | table segment b =>
    obtain rfl := Host.Outcome.next.inj he
    exact .receive fun c a x => ⟨by simp, fun _ h => h.takeTable c a _ _, fun h => h.takeTable a _ _⟩
  | absent b =>
    obtain rfl := Host.Outcome.next.inj he
    exact .receive fun c a x => .guarded ⟨by simp, fun _ h => h.takeAbsent c _, fun h => h.takeAbsent _⟩
  | reclaim b =>
    obtain rfl := Host.Outcome.next.inj he
    exact .receive fun c a x => .guarded ⟨by simp, fun _ h => h.takeReclaim _, fun h => h.takeReclaim _⟩
  | curtail b =>
    obtain rfl := Host.Outcome.next.inj he
    exact .receive fun c a x => .guarded (.of_member (fun _ h => h.takeCurtailFrame c _) (by simp) (by simp))
  | yield b =>
    obtain rfl := Host.Outcome.next.inj he
    refine .receive fun c a x => .guarded (.ite ?_ ?_)
    · exact .of_member (fun _ h => (h.settleOutgoing a _).returnWhere _) (by simp) (by simp)
    · exact .of_member (fun _ h => h.settleOutgoing a _) (by simp) (by simp)
  | release b =>
    obtain rfl := Host.Outcome.next.inj he
    refine .receive fun c a x => .guarded (.ite ?_ ?_)
    · exact .of_member (fun _ h => (h.settleOutgoing a _).returnWhere _) (by simp) (by simp)
    · exact .of_member (fun _ h => h.settleOutgoing a _) (by simp) (by simp)
  | withdraw b =>
    obtain rfl := Host.Outcome.next.inj he
    exact .receive fun c a x => .guarded (.of_member (fun _ h => h.mapSa _) (by simp) (by simp))
  | claim sub b =>
    obtain rfl := Host.Outcome.next.inj he
    refine .receive fun c a x => ?_
    have hc : SoundOwner c x (if (bodyFrame b 3 sub.toNat).atLeast 1 && x.takesFrom (bodyFrame b 3 sub.toNat).sender then
        x.takeClaim (bodyFrame b 3 sub.toNat).sender (7 - sub.toNat) (numAt (bodyFrame b 3 sub.toNat).payload 0) else x) :=
      .guarded ⟨by simp, fun _ h => h.takeClaim _ _ _, fun h => h.takeClaim _ _ _⟩
    exact ⟨(lateWithdraw_chip ..).trans hc.chip, fun s h => (hc.within s h).lateWithdraw c a,
      fun h => (hc.rostered h).of_member (lateWithdraw_member ..)⟩
  | alert sub b =>
    obtain rfl := Host.Outcome.next.inj he
    exact .receive fun c a x => .guarded (.of_member (fun _ h => h.takeAlert c a _ _ _) (by simp) (by simp))
  | join b =>
    obtain rfl := Host.Outcome.next.inj he
    exact .receive fun c a x => .guarded ⟨by simp, fun _ h => h.takeJoin c a _ _, fun h => h.takeJoin a _ _⟩
  | status b =>
    obtain rfl := Host.Outcome.next.inj he
    exact .receive fun c a x => .guarded ⟨by simp, fun _ h => (h.takeStatus _ _).reassert a,
      fun h => (h.takeStatus _ _).of_member (reassert_member ..)⟩
  | dormant b =>
    obtain rfl := Host.Outcome.next.inj he
    exact .receive fun c a x => ⟨by simp, fun _ h => (h.markDormant c _).ownDormant c a,
      fun h => (h.markDormant _).of_member (ownDormant_member ..)⟩
  | query b =>
    obtain rfl := Host.Outcome.next.inj he
    refine .onRunning fun c _ _ => ?_
    split
    · exact .of_member (r.endField _).failFlight (by simp) (by simp)
    · next hb =>
      refine Ran.acceptFrame (.of_member (fun _ h => h.takeQuery c _ ?_) (by simp) (by simp))
      simpa [State.drivesBusy] using hb
  | recack b =>
    obtain rfl := Host.Outcome.next.inj he
    exact .receive fun c a x => .guarded (.of_member (fun _ h => h.acknowledge c _) (by simp) (by simp))
  | period b =>
    obtain rfl := Host.Outcome.next.inj he
    exact .receive fun c a x => .guarded (.of_member (fun _ h => h.mapSc _) (by simp) (by simp))
  | clear b =>
    obtain rfl := Host.Outcome.next.inj he
    exact .receive fun c a x => .guarded (.of_member (fun _ h => h.takeClear c _) (by simp) (by simp))
  | restart b =>
    obtain rfl := Host.Outcome.next.inj he
    exact .receive fun c a x => .guarded ⟨by simp, fun _ h => h.takeRestart c, fun _ => .takeRestart x⟩
  | record b => obtain rfl := Host.Outcome.next.inj he; exact .receive fun c a x => .refl c x
  | norec b => obtain rfl := Host.Outcome.next.inj he; exact .receive fun c a x => .refl c x
  | counts b => obtain rfl := Host.Outcome.next.inj he; exact .receive fun c a x => .refl c x
  | conditions b => obtain rfl := Host.Outcome.next.inj he; exact .receive fun c a x => .refl c x
  | unlistedSubKindFrame cls sub b => obtain rfl := Host.Outcome.next.inj he; exact .receive fun c a x => .refl c x
  | notice b =>
    obtain rfl := Host.Outcome.next.inj he
    exact .receive fun c a x => .guarded (.of_member (fun _ h => h.deliverNotice _) (by simp) (by simp))
  | listenTimerExpiry =>
    obtain rfl := Host.Outcome.next.inj he
    exact .onRunning fun c _ _ => .of_member (r.mapMu fun _ => by rfl) (by simp) (by simp)
  | restartHoldExpiry =>
    obtain rfl := Host.Outcome.next.inj he
    exact .onRunning fun c _ _ => .of_member (r.mapMu fun _ => by rfl) (by simp) (by simp)
  | burstHoldExpiry =>
    obtain rfl := Host.Outcome.next.inj he
    exact .onRunning fun c _ _ => .of_member (r.mapMu fun _ => by rfl) (by simp) (by simp)
  | joinWaitExpiry =>
    obtain rfl := Host.Outcome.next.inj he
    refine .onRunning fun c _ _ => ?_
    have hw : Within s (s.mapMu fun m => { m with joinWait := none }) := r.mapMu fun _ => by rfl
    have hr : Rostered c s → Rostered c (s.mapMu fun m => { m with joinWait := none }) := fun h => h.congr rfl rfl
    split
    · exact ⟨cl_of_chip (by simp), hw.judgeJoin c, fun h => (hr h).judgeJoin⟩
    · exact ⟨rfl, hw, hr⟩
  | loadTimerExpiry =>
    obtain rfl := Host.Outcome.next.inj he
    refine .onRunning fun c _ _ => ?_
    have hw : Within s (s.mapMu fun m => { m with load := none }) := r.mapMu fun _ => by rfl
    split
    · exact ⟨cl_of_chip (by simp), hw.failJoin c, fun _ => .failJoin _⟩
    · exact ⟨rfl, hw, fun h => h.congr rfl rfl⟩
  | lockTimerExpiry =>
    obtain rfl := Host.Outcome.next.inj he
    exact .onRunning fun c _ _ => ⟨cl_of_chip (by simp), r.endLock c, fun h => h.endLock⟩
  | lastHeardExpiry station =>
    obtain rfl := Host.Outcome.next.inj he
    refine .onRunning fun c _ _ => ⟨cl_of_chip (by simp), (r.mapEntry _ _).writeSlot _ _, fun h => ?_⟩
    exact (h.mapEntry fun _ _ _ ⟨h1, _, h3⟩ => ⟨h1, rfl, h3⟩).of_member (writeSlot_member ..)
  | strandingTimerExpiry station =>
    obtain rfl := Host.Outcome.next.inj he
    refine .onRunning fun c _ _ => ⟨cl_of_chip (by simp), (r.mapEntry _ _).writeSlot _ _, fun h => ?_⟩
    exact (h.mapEntry fun _ _ _ ⟨h1, h2, _⟩ => ⟨h1, h2, rfl⟩).of_member (writeSlot_member ..)
  | silenceTimerExpiry =>
    obtain rfl := Host.Outcome.next.inj he
    exact .onRunning fun c _ _ => ⟨cl_of_chip (by simp), r.enterFallback c, fun _ => .enterFallback s⟩
  | quietTimerExpiry =>
    obtain rfl := Host.Outcome.next.inj he
    refine .onRunning fun c _ hg => ⟨cl_of_chip (by simp), (r.mapMu fun _ => by rfl).enterListening c false, fun h => h.quiet_over ?_⟩
    simp only [Bool.and_eq_true, decide_eq_true_eq] at hg
    exact hg.2
  | presenceTimerExpiry =>
    obtain rfl := Host.Outcome.next.inj he
    exact .onRunning fun c _ _ => .of_member (r.mapMu fun _ => by rfl).writeStatus (by simp) (by simp)
  | refreshTimerExpiry =>
    obtain rfl := Host.Outcome.next.inj he
    exact .onRunning fun c _ _ => .of_member ((r.mapRu fun _ => by rfl).writeAlert c) (by simp) (by simp)
  | alertAgeExpiry zone =>
    obtain rfl := Host.Outcome.next.inj he
    refine .onRunning fun c _ _ => ?_
    split
    · exact .of_member ((r.mapZone zone _).alertEvent c) (by simp) (by simp)
    · exact .of_member (r.mapZone zone _) (by simp) (by simp)
  | stepWindowExpiry =>
    obtain rfl := Host.Outcome.next.inj he
    exact .onRunning fun c _ _ => .of_member (r.mapSrm _) (by simp) (by simp)
  | calmTimerExpiry =>
    obtain rfl := Host.Outcome.next.inj he
    exact .onRunning fun c _ _ => .of_member (r.mapSrm _) (by simp) (by simp)
  | parkTimerExpiry =>
    obtain rfl := Host.Outcome.next.inj he
    exact .onRunning fun c _ _ => .of_member ((r.mapTs _).releaseAll c) (by simp) (by simp)
  | dormancyDelayExpiry =>
    obtain rfl := Host.Outcome.next.inj he
    exact .onRunning fun c _ _ => .of_member ((r.mapAc _).writeSlot _ _) (by simp) (by simp)
  | wakeRecoveryExpiry =>
    obtain rfl := Host.Outcome.next.inj he
    exact .onRunning fun c _ _ => .of_member (((r.mapAc _).mapTs _).recomputeUrgency c) (by simp) (by simp)

end Sys2Proof.Machine

namespace Sys2Proof.Machine
open Sys2Proof

theorem step_ran {s t : State} (h : step s = .next t) :
    t = s.elapse ∨ ∃ x, Ran x t ∧ (∃ p, x = { s with pending := p }) := by
  unfold step at h
  split at h
  · exact .inl (Host.Outcome.next.inj h).symm
  · exact .inr ⟨_, exec_ran h, _, rfl⟩

/-- The passing of a ms changes the running ages of the alert table and the mark of the step window's start. -/
theorem elapse_eq (s : State) : ∃ a f, s.elapse = { s with ru := { s.ru with alerts := a }, srm := { s.srm with stepFresh := f } } := by
  unfold State.elapse
  split
  · exact ⟨_, _, rfl⟩
  · exact ⟨_, _, rfl⟩

theorem Within.elapse {s t : State} (h : Within s t) : Within s t.elapse := Within.ite (h.ageAlerts.mapSrm _) h

/-- Under the rules of the load and of the shape, the roster rule is the roster's at the image. -/
theorem rostered_of_rules {s : State} {c : Image} (hc : s.running = some c) (hs : ShapeRule s) (hr : RosterRule s) :
    Rostered c s :=
  ⟨hs.1, hr.1, fun ht hl => hr.2 c hc (isTank_iff.mp ht).1 (isTank_iff.mp ht).2 hl⟩

theorem rosterRule_of_rostered {s : State} {c : Image} (hc : s.cl.image = some c) (h : Rostered c s) : RosterRule s := by
  refine ⟨h.valid, fun c' hc' h1 h2 hl => ?_⟩
  obtain rfl : c' = c := Option.some.inj ((running_image hc').symm.trans hc)
  exact h.own (isTank_iff.mpr ⟨h1, h2⟩) hl

theorem rosterRule_of_down {s : State} (hm : s.mu.membership = .down) (hr : s.mu.roster = none) : RosterRule s := by
  refine ⟨by simp [hm, hr], fun c hc => ?_⟩
  rw [running_of_down hm] at hc
  cases hc

/-- The roster rule follows the membership, the roster and the image. -/
theorem RosterRule.congr {s t : State} (h : RosterRule s) (hmu : t.mu = s.mu)
    (hi : t.cl.image = s.cl.image ∨ t.cl.image = none) : RosterRule t := by
  refine ⟨by rw [hmu]; exact h.1, fun c hc h1 h2 hl => ?_⟩
  have hs : s.running = some c := by
    have hti := running_image hc
    rcases hi with hi | hi
    · exact running_iff.mpr ⟨by rw [← hmu]; exact running_not_down hc, hi.symm.trans hti⟩
    · rw [hi] at hti; cases hti
  have he := entry_of_roster (s := s) (t := t) (congrArg MuState.roster hmu) c.station
  unfold State.entryState
  rw [he]
  exact h.2 c hs h1 h2 (by rw [← hmu]; exact hl)

/-- However a command has run, the bounds are kept. -/
theorem Ran.bounds {s t : State} (h : Ran s t) : Within s t := by
  cases h with
  | inputs l r p n f hl => exact (Within.refl s).congr ⟨rfl, rfl, rfl⟩ rfl rfl fun _ _ => id
  | reset _ hmu hlc hru hq hlog =>
    refine ⟨fun _ => ?_, hlog, fun _ => ?_, fun _ id _ => ?_⟩
    · unfold QueueRule; rw [hq]; exact Nat.zero_le _
    · unfold ShapeRule
      rw [hmu, hru]
      exact ⟨fun r hr => (nomatch hr), fun l hl => by rw [← Option.some.inj hl]; rfl⟩
    · rw [flightCancelled_eq, State.slot, hlc]
      exact congrArg (fun x => x.state.cancelled) (slot_blank id)
  | loaded c hl => exact ((((Within.refl s).mapCl _).enterListening c _).mapTs _ |>.mapTs _).settle c s
  | settled c b u hc hb hu => exact hu.within.settle c b

theorem Ran.rosterRule {s t : State} (h : Ran s t) (hl : LoadRule s) (hs : ShapeRule s) (hr : RosterRule s) :
    RosterRule t := by
  cases h with
  | inputs l r p n f hi => exact hr.congr rfl hi
  | reset _ hmu => exact rosterRule_of_down (by rw [hmu]; rfl) (by rw [hmu]; rfl)
  | loaded c hload =>
    have hdown : s.mu.membership = .down := by
      by_contra hne
      rw [hl.2.2 hne] at hload
      cases hload
    have hnone : s.mu.roster = none := by
      rw [← Option.not_isSome_iff_eq_none, hr.1]
      simp [hdown]
    refine rosterRule_of_rostered (c := c) ?_ ((Rostered.of_void (s := s.goodLoad c) hnone ?_ ?_).of_member (settle_member ..))
    · rw [cl_of_chip (settle_chip ..)]; rfl
    · exact fun h => nomatch h
    · exact fun h => nomatch h
  | settled c b u hc hb hu =>
    refine rosterRule_of_rostered (c := c) ?_ ((hu.rostered (rostered_of_rules hc hs hr)).of_member (settle_member ..))
    rw [cl_of_chip (settle_chip ..), hu.cl]
    exact running_image hc

/-- Settles O7: every operation of the model keeps the bounds, and every command is made of them. -/
theorem boundsKept : Obligations.BoundsKept := by
  intro s t h
  rcases step_ran h with rfl | ⟨x, hx, p, rfl⟩
  · have hw := (Within.refl s).elapse
    obtain ⟨a, f, he⟩ := elapse_eq s
    exact ⟨hw.queue, hw.log, hw.shape, hw.notice, fun _ _ hr => hr.congr (by rw [he]) (.inl (by rw [he]))⟩
  · have hw := hx.bounds
    exact ⟨hw.queue, hw.log, hw.shape, hw.notice, fun hl hs hr => hx.rosterRule hl hs hr⟩

end Sys2Proof.Machine

namespace Sys2Proof.Machine
open Sys2Proof

/-! ## What the end of a command leaves of the timers that follow conditions (R58, R109) -/

/-- From s to t the membership unit and the readiness monitor have stayed. -/
def SameWatch (s t : State) : Prop := t.mu = s.mu ∧ t.srm = s.srm

theorem SameWatch.trans {s t u : State} (h : SameWatch s t) (k : SameWatch t u) : SameWatch s u :=
  ⟨k.1.trans h.1, k.2.trans h.2⟩

section
variable (s b : State) (c : Image)

theorem drainStep_sameWatch : SameWatch s (s.drainStep b c) := by
  have hr : SameWatch s (s.drainReport c) := by
    unfold State.drainReport State.judgeParked
    dsimp only
    (repeat' split) <;> exact ⟨rfl, rfl⟩
  have ht : ∀ x : State, SameWatch x (x.testClaim c) := by
    intro x; unfold State.testClaim; split <;> exact ⟨rfl, rfl⟩
  unfold State.drainStep
  dsimp only
  repeat' split
  · exact hr.trans (ht _)
  · exact hr
  · exact ⟨rfl, rfl⟩

theorem latchStanding_sameWatch : SameWatch s (s.latchStanding c) := by
  have hl : ∀ (x : State) (f : Flag), SameWatch x (x.latchIfStanding c f) := by
    intro x f
    unfold State.latchIfStanding State.latch
    dsimp only
    (repeat' split) <;> exact ⟨rfl, rfl⟩
  exact ((hl s .sensorFault).trans (hl _ .tideLocked)).trans (hl _ .logHigh)

theorem writeJoinIfDue_sameWatch : SameWatch s (s.writeJoinIfDue c) := by
  unfold State.writeJoinIfDue; split <;> exact ⟨rfl, rfl⟩

theorem runService_sameWatch : SameWatch s (s.runService c) := by
  have hw : ∀ (ids : List SlotId) (x : State) (n : Nat) (rs : List Reply), SameWatch x (x.writeReplies n ids rs) := by
    intro ids
    induction ids with
    | nil => intro x n rs; exact ⟨rfl, rfl⟩
    | cons id ids ih =>
      intro x n rs
      cases rs with
      | nil => exact ⟨rfl, rfl⟩
      | cons r rs => exact SameWatch.trans (t := x.writeSlot id _) ⟨rfl, rfl⟩ (ih _ n rs)
  have hm : ∀ x : State, SameWatch x (x.serviceMove c) := by
    intro x
    unfold State.serviceMove
    repeat' split
    · exact ⟨rfl, rfl⟩
    · exact ⟨rfl, rfl⟩
    · exact ⟨rfl, rfl⟩
    · exact (hw _ x _ _).trans ⟨rfl, rfl⟩
  have hn : ∀ (n : Nat) (x : State), SameWatch x (x.serviceMoves c n) := by
    intro n
    induction n with
    | zero => exact fun _ => ⟨rfl, rfl⟩
    | succ n ih => exact fun x => (hm x).trans (ih _)
  exact hn _ s

theorem statusOnChange_sameWatch : SameWatch s (s.statusOnChange b) := by
  unfold State.statusOnChange State.statusForChange; (repeat' split) <;> exact ⟨rfl, rfl⟩

theorem watchDormancy_sameWatch : SameWatch s (s.watchDormancy c) := by
  unfold State.watchDormancy; dsimp only; (repeat' split) <;> exact ⟨rfl, rfl⟩

theorem offer_sameWatch (fresh : Bool) : SameWatch s (s.offer c fresh) := by
  unfold State.offer State.offerIfStillIdle State.startFlight; (repeat' split) <;> exact ⟨rfl, rfl⟩

theorem controlCalm_mu : (s.controlCalm c).mu = s.mu := by
  unfold State.controlCalm; (repeat' split) <;> rfl

theorem silenceCondition_congr {s t : State} (h : t.mu = s.mu) (c : Image) :
    t.silenceCondition c = s.silenceCondition c := by
  have he : ∀ n, t.entry n = s.entry n := fun n => entry_of_roster (congrArg MuState.roster h) n
  unfold State.silenceCondition State.isLinked
  simp only [he, h]

theorem watchSilence_congr {s t : State} (h : t.mu = s.mu) (c : Image) : (t.watchSilence c).mu = (s.watchSilence c).mu := by
  unfold State.watchSilence
  rw [mapMu_mu, mapMu_mu, silenceCondition_congr h, h]

/-- Where STATUS is queued and the delay timer judged: the blocks' end of a command before that. -/
def State.reported : State :=
  (((((((s.recomputeUrgency c).drainStep b c).setValve c).latchStanding c).controlCalm c).watchSilence c).writeJoinIfDue c).runService c

theorem settleBlocks_eq : settleBlocks c b s = ((s.reported b c).statusOnChange b).watchDormancy c := rfl

theorem reported_frozen : (s.reported b c).frozen = s.frozen := by
  unfold State.reported
  simp only [runService_frozen, writeJoinIfDue_frozen, watchSilence_frozen, controlCalm_frozen, latchStanding_frozen,
    setValve_frozen, drainStep_frozen, recomputeUrgency_frozen]

theorem reported_slot {id : SlotId} (h : id = .status ∨ id = .dormant) : (s.reported b c).slot id = s.slot id := by
  have hid : id ≠ .release ∧ id ≠ .claim ∧ id ≠ .join ∧ id ≠ .noticeCondition ∧ id ∉ replySlots := by
    rcases h with rfl | rfl <;> decide
  obtain ⟨h1, h2, h3, h4, h5⟩ := hid
  unfold State.reported
  rw [runService_slot c id _ h5, writeJoinIfDue_slot c id _ h3]
  show (State.controlCalm _ c).slot id = _
  rw [controlCalm_slot, latchStanding_slot c id _ h4]
  exact drainStep_slot c id _ b h1 h2

/-- The timers that follow conditions are judged on what the drain machine and the flags leave as it was. -/
theorem reported_watch : (s.reported b c).mu = (s.watchSilence c).mu ∧ (s.reported b c).srm = (s.controlCalm c).srm := by
  let x := (((s.recomputeUrgency c).drainStep b c).setValve c).latchStanding c
  have hx : SameWatch s x := SameWatch.trans (t := s.recomputeUrgency c) ⟨rfl, rfl⟩
    ((drainStep_sameWatch _ b c).trans (SameWatch.trans (t := State.setValve _ c) ⟨rfl, rfl⟩ (latchStanding_sameWatch _ c)))
  have hru : x.ru = s.ru := eq_of_frozen (·.ru) (fun _ => rfl) (by
    simp only [x, latchStanding_frozen, setValve_frozen, drainStep_frozen, recomputeUrgency_frozen])
  have hend : SameWatch ((x.controlCalm c).watchSilence c) (s.reported b c) :=
    (writeJoinIfDue_sameWatch _ c).trans (runService_sameWatch _ c)
  have hmu : (x.controlCalm c).mu = s.mu := (controlCalm_mu x c).trans hx.1
  constructor
  · rw [hend.1]
    exact watchSilence_congr hmu c
  · rw [hend.2]
    show (x.controlCalm c).srm = _
    have hg : x.heededGrade c = s.heededGrade c := heeded_congr hru c
    unfold State.controlCalm
    rw [hg, hx.2]
    (repeat' split) <;> simp [hx.2]

theorem settle_watch : (settle c b s).mu = (s.watchSilence c).mu ∧ (settle c b s).srm = (s.controlCalm c).srm := by
  have h : SameWatch (s.reported b c) (settle c b s) :=
    ((statusOnChange_sameWatch _ b).trans (watchDormancy_sameWatch _ c)).trans (offer_sameWatch _ c _)
  exact ⟨h.1.trans (reported_watch s b c).1, h.2.trans (reported_watch s b c).2⟩

end

end Sys2Proof.Machine

namespace Sys2Proof.Machine
open Sys2Proof

/-! ## The rules at the end of a command (R58, R66, R70, R109) -/

/-- Table 3-3 and the storm floor, as the urgency rule words them. -/
theorem computeUrgency_rule (s : State) (c : Image) :
    (s.ac.activity = .dormant ∨ s.tankNow = none → s.computeUrgency c = 0) ∧
    ∀ l, s.ac.activity ≠ .dormant → s.tankNow = some l →
      ((s.sc.episode = .spilling ∨ s.ts.tideLock = true) → s.computeUrgency c = 7) ∧
      (s.sc.episode ≠ .spilling → s.ts.tideLock = false →
        s.computeUrgency c = max
          (if l ≤ c.tankEmpty then 0 else min 6 (1 + 6 * (l - c.tankEmpty) / (c.tankFull - c.tankEmpty)))
          (if s.srm.readiness = .storm ∧ c.drawdown < l then 4 else 0)) := by
  unfold State.computeUrgency
  refine ⟨?_, fun l ha hl => ⟨fun h7 => ?_, fun he ht => ?_⟩⟩
  · rintro (h | h)
    · rw [if_pos h]
    · rw [h]; exact ite_self _
  · have hu : s.tableUrgency c l = 7 := if_pos h7
    rw [if_neg ha, hl]
    simp [hu]
  · have hu : s.tableUrgency c l =
        if l ≤ c.tankEmpty then 0 else min 6 (1 + 6 * (l - c.tankEmpty) / (c.tankFull - c.tankEmpty)) :=
      if_neg (by simp [he, ht])
    rw [if_neg ha, hl, ← hu]
    dsimp only
    generalize s.tableUrgency c l = u
    by_cases hs : s.srm.readiness = .storm ∧ c.drawdown < l
    · rw [if_pos hs]
      by_cases h4 : u < 4
      · rw [if_pos ⟨h4, hs⟩]; omega
      · rw [if_neg fun h => h4 h.1]; omega
    · rw [if_neg hs, if_neg fun h => hs h.2]
      omega

theorem drainStep_urgency (s b : State) (c : Image) : (s.drainStep b c).ts.urgency = s.ts.urgency := by
  have hr : (s.drainReport c).ts.urgency = s.ts.urgency := by
    unfold State.drainReport State.judgeParked
    dsimp only
    (repeat' split) <;> rfl
  have ht : ∀ x : State, (x.testClaim c).ts.urgency = x.ts.urgency := by
    intro x; unfold State.testClaim; split <;> rfl
  unfold State.drainStep
  dsimp only
  repeat' split
  · rw [ht, hr]
  · exact hr
  · rfl

/-- The urgency of record is that of the state the end of the command found. -/
theorem settle_urgency (c : Image) (b s : State) : (settle c b s).ts.urgency = s.computeUrgency c := by
  rw [(settle_ts_sa c b s).1]
  exact drainStep_urgency (s.recomputeUrgency c) b c

theorem silenceCondition_iff {s : State} {c : Image} : s.silenceCondition c = true ↔ s.mu.membership = .linked ∧
    ∃ n, 1 ≤ n ∧ n ≤ 48 ∧ n ≠ c.station ∧ (s.entry n).state = .linked ∧ (s.entry n).dormant = false := by
  unfold State.silenceCondition State.isLinked
  simp [mem_tankNumbers, and_assoc]

section
variable {c : Image} {s : State} (hc : s.cl.image = some c) (b : State)
include hc

/-- A station that runs after the end of a command runs under the command's image. -/
theorem settle_running {c' : Image} (h : (settle c b s).running = some c') : c' = c := by
  have hi := running_image h
  rw [settle_cl, hc] at hi
  exact (Option.some.inj hi).symm

theorem settle_urgencyRule : UrgencyRule (settle c b s) := by
  intro c' h
  obtain rfl := settle_running hc b h
  have ht : (settle c' b s).tankNow = s.tankNow := by unfold State.tankNow; simp
  rw [settle_urgency, ht]
  simpa using computeUrgency_rule s c'

theorem settle_flagRule : FlagRule (settle c b s) := by
  intro c' h
  obtain rfl := settle_running hc b h
  simp only [settle_latched, Bool.or_eq_true, settle_chamberQuality, settle_tankQuality, settle_tideLock, settle_log]
  refine ⟨fun hq => .inr ?_, fun ht => .inr ht, fun hl => .inr (decide_eq_true hl)⟩
  show s.sensorCause = true
  unfold State.sensorCause
  rcases hq with hq | hq | hq | hq <;> simp [hq, Quality.isFault]

theorem settle_calmRule : CalmRule (settle c b s) := by
  intro c' h hs
  obtain rfl := settle_running hc b h
  rw [settle_readiness] at hs
  have hg : (settle c' b s).heededGrade c' = s.heededGrade c' := heeded_congr (settle_ru c' b s) c'
  rw [(settle_watch s b c').2, hg]
  unfold State.controlCalm
  rw [if_pos hs]
  split
  · next hn => simp [hn]
  · next hn => simp [hn]

theorem settle_silenceRule : SilenceRule (settle c b s) := by
  intro c' h
  obtain rfl := settle_running hc b h
  have he : ∀ n, (settle c' b s).entry n = s.entry n := entry_of_roster (settle_roster ..)
  simp only [he, settle_membership]
  rw [← silenceCondition_iff, (settle_watch s b c').1]
  unfold State.watchSilence
  rw [mapMu_mu]
  split
  · next hs => simp [hs]
  · next hs => simp [hs]

end

/-! ## STATUS at the end of a command (R53) -/

/-- The offer leaves a slot's newest content, but for a TABLE, which it builds. -/
theorem startFlight_newest (s : State) (c : Image) (i : SlotId) {id : SlotId} {v : StatusValues}
    (h : (s.slot id).state.newest = some (.status v)) : ((s.startFlight c i).slot id).state.newest = some (.status v) := by
  cases hp : (s.slot i).state with
  | pending content =>
    rw [startFlight_slot s c i id content hp]
    split
    · next hi =>
      subst hi
      rw [hp] at h
      obtain rfl : content = .status v := Option.some.inj h
      rfl
    · exact h
  | _ => unfold State.startFlight; rw [hp]; exact h

theorem offer_statusValues (s : State) (c : Image) (fresh : Bool) : (s.offer c fresh).statusValues = s.statusValues := by
  unfold State.offer State.offerIfStillIdle State.startFlight
  (repeat' split) <;> rfl

theorem offer_newest (s : State) (c : Image) (fresh : Bool) {id : SlotId} {v : StatusValues}
    (h : (s.slot id).state.newest = some (.status v)) : ((s.offer c fresh).slot id).state.newest = some (.status v) := by
  unfold State.offer State.offerIfStillIdle
  repeat' split
  · exact h
  · exact startFlight_newest s c _ h
  · exact startFlight_newest s.drawFree c _ h
  · exact h
  · exact h

/-- A change of the values that STATUS carries leaves it written with those of the moment, at a station that is LINKED and
not DORMANT. -/
theorem settle_status_newest (c : Image) (b s : State) (hl : s.mu.membership = .linked) (ha : s.ac.activity ≠ .dormant)
    (hb : b.statusValues ≠ (settle c b s).statusValues) :
    ((settle c b s).slot .status).state.newest = some (.status (settle c b s).statusValues) := by
  have hf := reported_frozen s b c
  have hpl : (s.reported b c).mu.membership = .linked := (eq_of_frozen (·.mu.membership) (fun _ => rfl) hf).trans hl
  have hpa : (s.reported b c).ac.activity ≠ .dormant := by rwa [eq_of_frozen (·.ac.activity) (fun _ => rfl) hf]
  have hv : (settle c b s).statusValues = (s.reported b c).statusValues := by
    unfold settle
    rw [offer_statusValues, settleBlocks_eq, watchDormancy_statusValues, statusOnChange_statusValues]
  rw [hv] at hb ⊢
  refine offer_newest _ c _ ?_
  rw [settleBlocks_eq, watchDormancy_slot c .status _ (by decide)]
  exact statusOnChange_newest _ b hpl hpa hb

theorem settleBlocks_status_dormant (c : Image) (b s : State) (ha : s.ac.activity = .dormant) :
    (settleBlocks c b s).slot .status = s.slot .status := by
  have hpa : (s.reported b c).ac.activity = .dormant :=
    (eq_of_frozen (·.ac.activity) (fun _ => rfl) (reported_frozen s b c)).trans ha
  rw [settleBlocks_eq, watchDormancy_slot c .status _ (by decide), statusOnChange_dormant _ b hpa]
  exact reported_slot s b c (.inl rfl)

/-! ## The rules through every step -/

/-- The rules that follow from the state which the end of a command finds. -/
structure Followed (s : State) : Prop where
  urgency : UrgencyRule s
  flag : FlagRule s
  calm : CalmRule s
  silence : SilenceRule s

theorem settle_followed {c : Image} {s : State} (hc : s.cl.image = some c) (b : State) : Followed (settle c b s) :=
  ⟨settle_urgencyRule hc b, settle_flagRule hc b, settle_calmRule hc b, settle_silenceRule hc b⟩

/-- In DOWN nothing runs for the rules to follow. -/
theorem followed_of_stopped {s : State} (h : s.running = none) : Followed s := by
  refine ⟨?_, ?_, ?_, ?_⟩ <;> intro c hc <;> rw [h] at hc <;> cases hc

/-- From s to t a step keeps the rules, and leaves STATUS written where a value that it carries has changed. -/
structure Follows (s t : State) : Prop where
  urgency : UrgencyRule s → UrgencyRule t
  flag : FlagRule s → FlagRule t
  calm : CalmRule s → CalmRule t
  silence : SilenceRule s → SilenceRule t
  status : t.mu.membership = .linked → t.ac.activity ≠ .dormant → s.statusValues ≠ t.statusValues →
    (t.slot .status).state.newest = some (.status t.statusValues)

theorem Follows.of_followed {s t : State} (h : Followed t)
    (hs : t.mu.membership = .linked → t.ac.activity ≠ .dormant → s.statusValues ≠ t.statusValues →
      (t.slot .status).state.newest = some (.status t.statusValues)) : Follows s t :=
  ⟨fun _ => h.urgency, fun _ => h.flag, fun _ => h.calm, fun _ => h.silence, hs⟩

/-- The rules do not see the inputs, the configuration under the same image, the ages and the step window's mark. -/
theorem Follows.of_same {s t : State} (hrun : ∀ c, t.running = some c → s.running = some c) (hmu : t.mu = s.mu)
    (hts : t.ts = s.ts) (hsc : t.sc = s.sc) (hrs : t.rs = s.rs) (hac : t.ac = s.ac)
    (hr : t.srm.readiness = s.srm.readiness) (hcalm : t.srm.calm = s.srm.calm)
    (hg : ∀ c, t.heededGrade c = s.heededGrade c) : Follows s t := by
  have he : ∀ n, t.entry n = s.entry n := entry_of_roster (congrArg MuState.roster hmu)
  have hnow : t.tankNow = s.tankNow := by unfold State.tankNow; rw [hts]
  have hv : t.statusValues = s.statusValues := by unfold State.statusValues; rw [hts, hr, hrs]
  refine ⟨fun h c hc => ?_, fun h c hc => ?_, fun h c hc => ?_, fun h c hc => ?_, fun _ _ hne => absurd hv.symm hne⟩
  · rw [hac, hnow, hts, hsc, hr]; exact h c (hrun c hc)
  · rw [hts, hrs]; exact h c (hrun c hc)
  · rw [hr, hcalm, hg]; exact h c (hrun c hc)
  · simp only [hmu, he]; exact h c (hrun c hc)

theorem Ran.follows {s t : State} (h : Ran s t) : Follows s t := by
  cases h with
  | inputs l r p n f hl =>
    refine .of_same (fun c hc => ?_) rfl rfl rfl rfl rfl rfl rfl fun _ => rfl
    have hi : l.image = some c := running_image hc
    have hd := running_not_down hc
    rcases hl with hl | hl
    · exact running_iff.mpr ⟨hd, hl.symm.trans hi⟩
    · rw [hl] at hi; cases hi
  | reset _ hmu =>
    have hdown : t.mu.membership = .down := by rw [hmu]; rfl
    exact .of_followed (followed_of_stopped (running_of_down hdown)) fun hl => by rw [hdown] at hl; cases hl
  | loaded c hl =>
    refine .of_followed (settle_followed rfl s) fun hm => ?_
    rw [settle_membership] at hm
    cases hm
  | settled c b u hc hb hu =>
    refine .of_followed (settle_followed (by rw [hu.cl]; exact running_image hc) b) fun hm ha hne => ?_
    rw [← hb] at hne
    exact settle_status_newest c b u (by simpa using hm) (by simpa using ha) hne

theorem zoneGrade_ageAlerts (s : State) (z : Nat) : s.ageAlerts.zoneGrade z = s.zoneGrade z := by
  unfold State.zoneGrade State.ageAlerts
  rw [mapRu_ru]
  cases s.ru.alerts with
  | none => rfl
  | some l =>
    simp only [Option.map_some, List.getD_eq_getElem?_getD, List.getElem?_map]
    cases l[z - 1]? <;> rfl

theorem elapse_follows (s : State) : Follows s s.elapse := by
  unfold State.elapse
  split
  · refine .of_same (fun _ hc => hc) rfl rfl rfl rfl rfl rfl rfl fun c => ?_
    show (s.ageAlerts).heededGrade c = _
    unfold State.heededGrade
    simp only [zoneGrade_ageAlerts]
    rfl
  · exact .of_same (fun _ hc => hc) rfl rfl rfl rfl rfl rfl rfl fun _ => rfl

/-- Settles O5: the end of every command brings the rules about, and STATUS with the values that have changed. -/
theorem followingRulesKept : Obligations.FollowingRulesKept := by
  refine ⟨fun s t h => ?_, fun c before s ha => settleBlocks_status_dormant c before s ha⟩
  have hf : Follows s t := by
    rcases step_ran h with rfl | ⟨x, hx, p, rfl⟩
    · exact elapse_follows s
    · have hx := hx.follows
      exact ⟨hx.urgency, hx.flag, hx.calm, hx.silence, hx.status⟩
  refine ⟨hf.urgency, hf.flag, hf.calm, hf.silence, fun hl ha hne => hf.status hl ha fun hv => ?_⟩
  simp only [State.statusValues, StatusValues.mk.injEq] at hv
  obtain ⟨h1, h2, h3, h4, h5⟩ := hv
  rcases hne with hne | hne | hne | hne | hne
  · exact hne h1.symm
  · exact hne h2.symm
  · exact hne h3.symm
  · exact hne h4.symm
  · exact hne h5.symm

end Sys2Proof.Machine

namespace Sys2Proof.Machine
open Sys2Proof

/-! ## The offer (R177, R178) -/

/-- The slots that Table 2-2 permits in a membership state. -/
theorem membershipPermits_iff (m : Membership) (id : SlotId) : membershipPermits m id = true ↔
    (match m with
      | .linked => True
      | .joining => slotClass id = 4 ∨ slotClass id = 7 ∨ id = .join
      | .listening => slotClass id = 4 ∨ slotClass id = 7 ∨ id = .join
      | .loading => slotClass id = 4 ∨ slotClass id = 7
      | .isolated => slotClass id = 4 ∨ slotClass id = 7
      | _ => False) := by
  cases m <;> simp [membershipPermits, or_assoc]

/-- Table 8-3, at a LINKED station. -/
theorem activityPermits_iff (m : Membership) (a : Activity) (id : SlotId) :
    (!decide (m = .linked) || activityPermits a id) = true ↔
      (m = .linked → a = .dormant → 4 ≤ slotClass id) ∧
        (m = .linked → a = .waking → id ≠ .dormant ∧ (4 ≤ slotClass id ∨ id = .table)) := by
  by_cases hm : m = .linked
  · cases a <;> simp [hm, activityPermits, and_comm]
  · simp [hm]

theorem isLockHeld_iff (id : SlotId) : isLockHeld id = true ↔ (1 ≤ slotClass id ∧ slotClass id ≤ 3) ∨ id = .join := by
  simp [isLockHeld]

theorem bestSlot_eq_none_iff (s : State) : s.bestSlot = none ↔ ∀ id, s.eligible id = false := by
  refine ⟨fun h => bestSlot_none h, fun h => ?_⟩
  have hnil : allSlots.filter s.eligible = [] := List.filter_eq_nil_iff.mpr fun id _ => by simp [h id]
  unfold State.bestSlot
  rw [hnil]
  rfl

/-- The best slot is eligible, of lowest key, and of lowest slot number among equals. -/
theorem bestSlot_spec {s : State} {id : SlotId} (h : s.bestSlot = some id) : s.eligible id = true ∧
    ∀ j, s.eligible j = true → s.slotKey id ≤ s.slotKey j ∧
      (s.slotKey j = s.slotKey id → allSlots.idxOf id ≤ allSlots.idxOf j) := by
  obtain ⟨hmem, hbest⟩ := best_spec' s.slotKey _ id h
  have hid := (List.mem_filter.mp hmem).2
  refine ⟨hid, fun j hj => ?_⟩
  obtain ⟨hkey, hidx⟩ := hbest j (List.mem_filter.mpr ⟨mem_allSlots j, hj⟩)
  exact ⟨hkey, fun he => idx_filter s.eligible allSlots id j hid hj (mem_allSlots j) (hidx he)⟩

theorem eligible_pending {s : State} {id : SlotId} (h : s.eligible id = true) :
    ∃ content, (s.slot id).state = .pending content := by
  have hp : s.slotPending id = true := by
    unfold State.eligible at h
    simp only [Bool.and_eq_true] at h
    exact h.1.1.1.1.1.1
  unfold State.slotPending SlotState.isPending at hp
  split at hp
  · next content hc => exact ⟨content, hc⟩
  · cases hp

theorem startFlight_idle {s : State} {c : Image} {id : SlotId} {content : Content}
    (h : (s.slot id).state = .pending content) : (s.startFlight c id).lc.idle = false := by
  unfold State.startFlight; rw [h]; rfl

/-- Where nothing was on the line, the offered slot is in flight. -/
theorem startFlight_flight {s : State} {c : Image} {id : SlotId} {content : Content}
    (h : (s.slot id).state = .pending content) (hf : s.flight = none) : (s.startFlight c id).flight = some id := by
  have hslot := fun j => startFlight_slot s c id j content h
  have hin : ∀ j, (s.startFlight c id).slotInFlight j = true ↔ j = id := by
    intro j
    unfold State.slotInFlight
    rw [hslot]
    by_cases hj : j = id
    · simp [hj, SlotState.isInFlight]
    · rw [if_neg hj]
      simp only [hj, iff_false]
      simpa [State.slotInFlight] using flight_none_iff.mp hf j
  cases hfl : (s.startFlight c id).flight with
  | none => exact absurd ((hin id).mpr rfl) (by simp [flight_none_iff.mp hfl id])
  | some j => rw [(hin j).mp (flight_some hfl)]

/-- A draw of a free value is not seen in the content that is sent. -/
theorem drawFree_startFlight_slot (s : State) (c : Image) {id : SlotId} {content : Content}
    (h : (s.slot id).state = .pending content) (j : SlotId) :
    (s.drawFree.startFlight c id).slot j = (s.startFlight c id).slot j := by
  have hoff : s.drawFree.offeredContent c content = s.offeredContent c content := by cases content <;> rfl
  rw [startFlight_slot s c id j content h, startFlight_slot s.drawFree c id j content h, hoff]
  rfl

/-- Settles O24: the fold of the offer finds the slot of lowest key, and its flight starts. -/
theorem offerTakesTheLowestKey : Obligations.OfferTakesTheLowestKey := by
  refine fun s c => ⟨fun id => ?_, bestSlot_eq_none_iff s, fun h fresh => ?_, fun id hm hb => ?_⟩
  · unfold State.eligible
    simp only [Bool.and_eq_true, membershipPermits_iff, activityPermits_iff]
    have hlock : (!isLockHeld id || s.mu.lock.isNone) = true ↔
        ((1 ≤ slotClass id ∧ slotClass id ≤ 3) ∨ id = .join → s.mu.lock = none) := by
      rw [← isLockHeld_iff]; cases isLockHeld id <;> simp
    have hjoin : (!decide (id = .join) || s.mu.burstHold.isNone) = true ↔ (id = .join → s.mu.burstHold = none) := by
      by_cases h : id = .join <;> simp [h]
    have hclaim : (!decide (id = .claim) || s.lc.spacing.isNone) = true ↔ (id = .claim → s.lc.spacing = none) := by
      by_cases h : id = .claim <;> simp [h]
    rw [hlock, hjoin, hclaim, Option.isNone_iff_eq_none]
    tauto
  · rcases h with h | h
    · unfold State.offer; simp [h]
    · exact offer_none c fresh h
  · obtain ⟨hid, hbest⟩ := bestSlot_spec hb
    obtain ⟨content, hp⟩ := eligible_pending hid
    have hfresh := offer_fresh (c := c) hm hb
    have hslot := fun j => startFlight_slot s c id j content hp
    have hflight : s.flight = none := by
      simp only [State.mayOffer, Bool.and_eq_true, Option.isNone_iff_eq_none] at hm
      exact hm.1.2
    have hlater : s.offer c false = s.offerIfStillIdle c id := by unfold State.offer; simp [hm, hb]
    rw [hfresh]
    refine ⟨hid, hbest, ?_, startFlight_idle hp, startFlight_flight hp hflight, startFlight_newsSince s c id content hp,
      fun j hj => by rw [hslot, if_neg hj], fun segment joiner old ht => ?_, fun content' hc hne => ?_⟩
    · rw [hlater]
      unfold State.offerIfStillIdle
      split
      · exact ⟨startFlight_idle (s := s.drawFree) hp, .inr (drawFree_startFlight_slot s c hp)⟩
      · exact ⟨rfl, .inl fun j => rfl⟩
    · rw [hslot, if_pos rfl]
      obtain rfl : content = .table segment joiner old := by simpa [hp] using ht
      rfl
    · rw [hslot, if_pos rfl]
      obtain rfl : content = content' := by simpa [hp] using hc
      cases content with
      | table segment joiner old => exact absurd rfl (hne segment joiner old)
      | _ => rfl

end Sys2Proof.Machine

namespace Sys2Proof.Machine
open Sys2Proof

/-! ## Reset and the good load -/

theorem flightCancelled_blank {s : State} {id : SlotId} (h : s.slot id = Slot.blank) : s.flightCancelled id = false := by
  unfold State.flightCancelled; rw [h]; rfl

section
/-! At reset no station runs, nothing is held, logged or waited for. -/

theorem reset_running : State.reset.running = none := rfl

theorem reset_slot (id : SlotId) : State.reset.slot id = Slot.blank := slot_blank id

theorem reset_valveRule : ValveRule State.reset := ⟨fun _ => rfl, fun _ h => nomatch h⟩

theorem reset_rainRule : RainRule State.reset := ⟨Nat.zero_le _, fun _ => ⟨rfl, rfl, rfl⟩, fun _ h => nomatch h⟩

theorem reset_logRule : LogRule State.reset := ⟨Nat.zero_le _, fun _ _ h => nomatch h⟩

theorem reset_loadRule : LoadRule State.reset :=
  ⟨⟨fun h => (nomatch h), fun h => nomatch h⟩, fun h => (nomatch h), fun h => absurd rfl h⟩

theorem reset_countRule : CountRule State.reset := ⟨rfl, rfl, fun h => nomatch h⟩

theorem reset_shapeRule : ShapeRule State.reset :=
  ⟨fun _ h => (nomatch h), fun l h => by rw [← Option.some.inj h]; rfl⟩

theorem reset_waitingRule : WaitingRule State.reset := fun _ h => nomatch h

theorem reset_holdRule : HoldRule State.reset := ⟨List.nodup_nil, fun _ h => (nomatch h), fun _ => Nat.zero_le _⟩

theorem reset_serviceRule : ServiceRule State.reset := ⟨fun _ => rfl, fun h => absurd rfl h⟩

theorem reset_delayRule : DelayRule State.reset := fun _ h => nomatch h

theorem reset_noticeRule : NoticeRule State.reset := fun id _ => flightCancelled_blank (reset_slot id)

theorem reset_rosterRule : RosterRule State.reset := rosterRule_of_down rfl rfl

theorem reset_restRule : RestRule State.reset := fun h => absurd rfl h

theorem reset_downRule : DownRule State.reset := fun _ => ⟨rfl, rfl, rfl, rfl⟩

end

/-- Settles O3: in DOWN nothing runs, and every rule about what runs holds. -/
theorem resetState : Obligations.ResetState := by
  obtain ⟨hu, hf, hc, hs⟩ := followed_of_stopped reset_running
  refine ⟨rfl, rfl, rfl, rfl, rfl, rfl, rfl, rfl, rfl, rfl, rfl, rfl, rfl, rfl, rfl, rfl, rfl, rfl, rfl, rfl, rfl, rfl, rfl,
    rfl, rfl, rfl, rfl, rfl, rfl, rfl, rfl, rfl, rfl, reset_slot, rfl, rfl, rfl, rfl, reset_valveRule, hu, hf, hc, hs,
    reset_rainRule, Nat.zero_le _, reset_logRule, reset_loadRule, reset_countRule, reset_shapeRule, reset_waitingRule,
    reset_holdRule, reset_serviceRule, reset_delayRule, reset_noticeRule, reset_rosterRule, reset_restRule, reset_downRule⟩

/-- A good load is LISTENING with its timers, the tide of the input and the first sample request (R192). -/
theorem goodLoad_eq (s : State) (c : Image) : ∃ l, s.goodLoad c = { s with
    cl := { s.cl with load := .good, image := some c, retry := none }
    lc := { s.lc with slots := l }
    mu := { s.mu with
      membership := .listening, joinRecord := [], populated := false, newlyPopulated := false, nextSegment := 0
      burstHold := none, listen := some (2000 * c.presence)
      restartHold := if s.cl.afterPulse then some (1000 * c.travel) else s.mu.restartHold }
    ts := { s.ts with
      tide := s.tidePin, tideStable := none, sampleTimer := some (1000 * c.sampleInterval)
      window := some (500 * c.sampleInterval) } } := by
  have hl : 2 * secondsMs c.presence = 2000 * c.presence := by unfold secondsMs; omega
  refine ⟨s.lc.slots.set (s.slot .join).cancel .join, ?_⟩
  rw [← hl]
  rfl

/-- Settles O13: the end of the command leaves what the good load begins. -/
theorem goodLoadStartsWork : Obligations.GoodLoadStartsWork := by
  intro s read l c ha hg hj
  obtain ⟨slots, hgood⟩ := goodLoad_eq s c
  refine ⟨settle c s (s.goodLoad c), ?_, ?_⟩
  · show Host.Outcome.next (if s.attempting then s.readAttempt read else s) = _
    rw [if_pos ha]
    unfold State.readAttempt
    rw [hg]
    dsimp only
    rw [hj]
  · rw [hgood]
    refine ⟨by simp, by simp, by simp, by simp, fun hp => by simp [hp], fun hp => by simp [hp], by simp, by simp, by simp, by simp,
      by simp, by simp, fun hw => ?_, ?_, ?_, ?_, ?_, by simp⟩
    · rw [settle_latched]
      have : decide (c.watermark ≤ s.rs.log.length) = true := decide_eq_true hw
      exact Bool.or_eq_true_iff.mpr (.inr this)
    · rw [settle_weather]; rfl
    · rw [settle_spills]; rfl
    · rw [settle_tables]; rfl
    · rw [settle_line]; rfl

end Sys2Proof.Machine

namespace Sys2Proof.Machine
open Sys2Proof

/-! ## A line fault in ISOLATED (R182) -/

/-- The image of a station in ISOLATED whose slots the refutation of O26 fills. -/
def faultImage : Image :=
  { station := 9, zone := 3, heeded := [], bitRate := .kbit20, pool := 8, maxHold := 4, tankEmpty := 300, drawdown := 900
    claimLevel := 1800, tankFull := 3800, capture := 1500, hysteresis := 200, crest := 2000, sampleInterval := 5
    dormantSample := 60, onsetCount := 2, settleCount := 2, mergeWindow := 10, pulseDepth := 2, d5Watch := 20, d5Warn := 50
    d5Severe := 100, d15Watch := 40, d15Warn := 100, d15Severe := 200, alertRefresh := 60, alertLifetime := 180
    stepWindow := 10, calmTime := 60, presence := 2, absence := 10, silence := 6, stranding := 30, travel := 20, park := 120
    dormancyDelay := 30, dormantPresence := 60, wakeRecovery := 10, logMode := .keep, watermark := 24, noticeTarget := 52
    noticeMask := 0 }

/-- An ISOLATED station at its eighth abort, whose NOTICE-START slot bears sets of stations: one in flight, and another
waiting as its next content. No owner writes such contents there, but a `State` may hold them, and they merge. -/
def setsInNoticeSlot : State :=
  ({ State.reset with
      supplyGood := true
      cl := { load := .good, image := some faultImage, attempts := 0, retry := none, afterPulse := false }
      lc := { LcState.reset with following := true, tally := 7 }
      mu := { MuState.reset with membership := .isolated } }).setSlot .noticeStart
    { state := .inFlight (.absent [1]) (some (.absent [2])) false, backoff := none, busy := 0 }

theorem setsInNoticeSlot_hears : Hears setsInNoticeSlot faultImage := ⟨rfl, rfl⟩

theorem setsInNoticeSlot_waits : setsInNoticeSlot.pendingNotice .noticeStart = some (.absent [2]) := rfl

theorem setsInNoticeSlot_uncancelled : ∀ id ∈ noticeSlots, setsInNoticeSlot.flightCancelled id = false := by decide

/-- The frame breaks off: the sets merge in the slot before the notices are written again. -/
theorem setsInNoticeSlot_aborted :
    (setsInNoticeSlot.lineBusy.abortOwn faultImage).lc.idle = false ∧
      ((setsInNoticeSlot.lineBusy.abortOwn faultImage).slot .noticeStart).state = .pending (.absent [1, 2]) := by decide +kernel

/-- Refutes O26: R176 joins a failed content with its next one, so where the NOTICE-START slot bears sets of stations, the
content written again after the fault is their union, not the content that was pending. -/
theorem not_eighthAbortIsALineFault : ¬ Obligations.EighthAbortIsALineFault := by
  intro h
  let found : SenderFindings := { stopped := true, frame := (bodyFrame ⟨0, 0, []⟩ 0 0).received }
  obtain ⟨t, ht, -, -, hisolated, -⟩ := h setsInNoticeSlot faultImage found .frameBreakOff (by simp) setsInNoticeSlot_hears
    (by decide) rfl (by decide) setsInNoticeSlot_uncancelled
  obtain ⟨-, -, hnotices, -⟩ := hisolated rfl
  have hwant : (t.slot .noticeStart).state = .pending (.absent [2]) := by
    rw [hnotices .noticeStart (by simp), setsInNoticeSlot_waits]
  have hrun : exec .frameBreakOff setsInNoticeSlot =
      .next (settle faultImage setsInNoticeSlot (setsInNoticeSlot.lineBusy.abortOwn faultImage)) := by
    show Host.Outcome.next (State.onRunning _ _ _) = _
    rw [onRunning_some setsInNoticeSlot_hears.1, if_pos setsInNoticeSlot_hears.2, if_pos (by decide)]
  obtain ⟨hidle, hslot⟩ := setsInNoticeSlot_aborted
  obtain rfl := Host.Outcome.next.inj (hrun.symm.trans ht)
  rw [settle_slot _ _ _ _ hidle (by decide), hslot] at hwant
  cases hwant

end Sys2Proof.Machine

namespace Sys2Proof.Machine
open Sys2Proof

/-! ## The TABLE slot after a frame (R46, R49) -/

/-- The TABLE slot is the first of all, so a TABLE in flight is the flight. -/
theorem flight_table {s : State} (h : s.slotInFlight .table = true) : s.flight = some .table := by
  unfold State.flight allSlots
  rw [List.find?_cons_of_pos h]

theorem accepted_not_inFlight (x : Slot) : x.accepted.state.isInFlight = false := by
  cases h : x.state with
  | inFlight content next k => cases next <;> simp only [Slot.accepted, h] <;> rfl
  | _ => simp only [Slot.accepted, h]; rfl

theorem failed_not_inFlight (x : Slot) : x.failed.state.isInFlight = false := by
  cases h : x.state with
  | inFlight content next k => cases next <;> cases k <;> simp only [Slot.failed, h] <;> rfl
  | _ => simp only [Slot.failed, h]; rfl

theorem endField_slot (s : State) (m : Marks) (id : SlotId) : (s.endField m).slot id = s.slot id := rfl

theorem endField_flight (s : State) (m : Marks) : (s.endField m).flight = s.flight := flight_mapLc s _ fun _ => rfl

/-- The end of a frame ends the flight, whosever the frame was. -/
theorem concluded_flight {s : State} {c : Image} {f : Frame} {id : SlotId} (h : s.flight = some id) :
    ((s.concluded c f).slot id).state.isInFlight = false := by
  unfold State.concluded
  dsimp only
  split
  · next ho =>
    have ha : (s.arrival c f).slot = some id := by
      unfold State.arrival at ho ⊢
      split at ho
      · cases ho
      · split at ho
        · next hk => rw [if_pos hk]; exact h
        · cases ho
    unfold State.bookkeep
    rw [ha]
    show ((State.setSlot _ _ _).slot id).state.isInFlight = false
    rw [setSlot_slot_same]
    exact accepted_not_inFlight _
  · rw [slot_failFlight _ id ((endField_flight s _).trans h)]
    exact failed_not_inFlight _

/-- After a frame no TABLE is in flight. -/
theorem concluded_table_not_inFlight (s : State) (c : Image) (f : Frame) :
    (s.concluded c f).slotInFlight .table = false := by
  cases h : s.slotInFlight .table with
  | true => exact concluded_flight (flight_table h)
  | false => unfold State.slotInFlight; rw [concluded_slot_other c f h]; exact h

theorem heardFrame_table_not_inFlight (s : State) (c : Image) (f : Frame) :
    (s.heardFrame c f).slotInFlight .table = false := by
  unfold State.slotInFlight
  rw [heardFrame_slot_other s c f (by decide)]
  exact concluded_table_not_inFlight s c f

/-- A cancelled slot with nothing in flight is EMPTY. -/
theorem cancelSlot_empty {s : State} {id : SlotId} (h : s.slotInFlight id = false) : (s.cancelSlot id).slotEmpty id = true := by
  unfold State.slotEmpty
  unfold State.slotInFlight at h
  rw [cancelSlot_slot_same]
  cases hx : (s.slot id).state with
  | inFlight => rw [hx] at h; cases h
  | _ => simp only [Slot.cancel, hx]; rfl

/-! ## TABLE at a station that is not its addressee, and at a LINKED one (R41, R46, R47) -/

section
variable (s : State) (c : Image) (f : Frame)

@[simp] theorem heardFrame_burstHold : (s.heardFrame c f).mu.burstHold = s.mu.burstHold :=
  heardFrame_eq s c f (fun x => x.mu.burstHold) fun _ _ _ _ _ _ _ _ => rfl

/-- A burst that a station hears starts the burst hold, and its final segment ends it (R41). -/
theorem hearBurst_burstHold {s : State} {c : Image} {segment : Nat} {f : Frame} (ha : f.addressee ≠ c.station)
    (ht : isTank f.addressee = true) :
    (tableLength c.pool segment ≤ f.payload.length →
      (s.hearBurst c segment f).mu.burstHold = if segment = 3 then none else some 2000) ∧
    (f.payload.length < tableLength c.pool segment → (s.hearBurst c segment f).mu.burstHold = s.mu.burstHold) := by
  have h0 : f.addressee ≠ 0 := by
    have := (isTank_iff.mp ht).1
    omega
  unfold State.hearBurst Frame.atLeast
  refine ⟨fun hlen => ?_, fun hlen => ?_⟩
  · rw [if_neg (by simp [ha, hlen])]
    by_cases h3 : segment = 3
    · simp [h3, h0]
    · simp [h3, ht, lockMs]
  · rw [if_pos (by simp [hlen])]

end

section
variable {x : State} {c : Image} {l : Lock}

theorem finalSegment_membership : (x.finalSegment c l).mu.membership = x.mu.membership := by
  unfold State.finalSegment; dsimp only; split <;> rfl

theorem finalSegment_lock : (x.finalSegment c l).mu.lock = none := by
  unfold State.finalSegment; dsimp only; split <;> rfl

theorem finalSegment_table (hx : x.slotInFlight .table = false) (hr : l.responder = c.station) :
    (x.finalSegment c l).slotEmpty .table = true := by
  unfold State.finalSegment
  rw [if_pos hr]
  exact cancelSlot_empty hx

/-- The joiner's entry after the final segment (R47, R54). -/
theorem finalSegment_entry {r : List RosterEntry} (hr : x.mu.roster = some r) (h1 : 1 ≤ l.joiner) (h2 : l.joiner ≤ r.length) :
    (x.finalSegment c l).entry l.joiner =
      RosterEntry.linkedNow (if l.joiner = c.station then none else lastHeardLimit c false) := by
  have he := entry_mapEntry_same (s := x.mapMu fun m => { m with lock := none }) hr h1 h2 fun _ =>
    RosterEntry.linkedNow (if l.joiner = c.station then none else lastHeardLimit c false)
  unfold State.finalSegment
  dsimp only
  split <;> exact he

end

/-- A TABLE at a LINKED station leaves the tables and the membership. -/
theorem burstAtLinked_keeps (x : State) (c : Image) (a : Arrival) (segment : Nat) (f : Frame) :
    (x.burstAtLinked c a segment f).tables = x.tables ∧
      (x.burstAtLinked c a segment f).mu.membership = x.mu.membership := by
  unfold State.burstAtLinked State.nextBurst
  (repeat' split) <;> first | exact ⟨rfl, rfl⟩ | exact ⟨finalSegment_tables .., finalSegment_membership⟩

/-- A segment to the lock's joiner. -/
theorem burstAtLinked_joiner {x : State} {l : Lock} {f : Frame} (hl : x.mu.lock = some l) (ha : f.addressee = l.joiner)
    (c : Image) (a : Arrival) (segment : Nat) : x.burstAtLinked c a segment f =
      if segment = 3 then x.finalSegment c l else x.nextBurst c a segment l := by
  unfold State.burstAtLinked
  rw [hl]
  dsimp only
  rw [if_neg (not_not.mpr ha)]

/-- The lock ends with the final segment to its joiner alone. -/
theorem burstAtLinked_lock {x : State} {c : Image} {a : Arrival} {segment : Nat} {f : Frame}
    (h : segment ≠ 3 ∨ ∀ l, x.mu.lock = some l → f.addressee ≠ l.joiner) :
    (x.burstAtLinked c a segment f).mu.lock = x.mu.lock := by
  unfold State.burstAtLinked State.nextBurst
  split
  · rfl
  · next l hl =>
    split
    · rfl
    · next ha =>
      rw [if_neg fun h3 => ?_]
      · split <;> rfl
      · rcases h with h | h
        · exact h h3
        · exact ha (h l hl)

/-- Settles O31: the burst as its hearers, its responder and its end have it. -/
theorem tableElsewhere : Obligations.TableElsewhere := by
  intro s c segment b h h0 h63
  let f := bodyFrame b 0 segment.toNat
  let a := s.arrival c f
  let x := s.heardFrame c f
  let v := x.takeTable c a segment.toNat f
  have hx : x.tables = s.tables := heardFrame_tables s c f
  have hseg : segment.toNat = 3 ↔ segment = 3 := by
    rw [show (3 : BitVec 2) = BitVec.ofNat 2 3 from rfl]; bv_omega
  refine ⟨v.followUp c a f (s.concluded c f), execTable_eq h h0 h63, fun hl => ?_, fun hm ha ht => ?_⟩
  · have hxl : x.mu.membership = .linked := (heardFrame_membership s c f).trans hl
    have hv : v = x.burstAtLinked c a segment.toNat f := by
      show x.takeTable c a segment.toNat f = _
      unfold State.takeTable
      rw [hxl]
    obtain ⟨hvt, hvm⟩ := burstAtLinked_keeps x c a segment.toNat f
    rw [← hv] at hvt hvm
    have hvl : v.mu.membership = .linked := hvm.trans hxl
    obtain ⟨hroster, hlock⟩ := followUp_roster c a f (s.concluded c f) hvl (.inr rfl)
    have hslot : ∀ {id : SlotId}, id ≠ .yield → id ≠ .release →
        (v.followUp c a f (s.concluded c f)).slot id = v.slot id := fun h1 h2 =>
      followUp_slot c a f _ hvl h1 h2 (.inr rfl)
    refine ⟨(followUp_tables c a f _ hvl).trans (hvt.trans hx), followUp_membership c a f _ hvl, fun l hlk h3 haddr => ?_,
      fun hne => ?_, fun l old hlk h3 haddr hr hown hold => ?_⟩
    · have hfin : v = x.finalSegment c l := by
        rw [hv, burstAtLinked_joiner ((heardFrame_lock s c f).trans hlk) haddr, if_pos (hseg.mpr h3)]
      refine ⟨hlock.trans (by rw [hfin]; exact finalSegment_lock), fun hr => ?_, fun r hro h1 h2 => ?_⟩
      · unfold State.slotEmpty
        rw [hslot (by decide) (by decide), hfin]
        exact finalSegment_table (heardFrame_table_not_inFlight s c f) hr
      · obtain ⟨r', hr', hlen⟩ := heardFrame_roster_some c f hro
        have he : (v.followUp c a f (s.concluded c f)).entry l.joiner =
            RosterEntry.linkedNow (if l.joiner = c.station then none else lastHeardLimit c false) := by
          rw [entry_of_roster hroster, hfin]
          exact finalSegment_entry hr' h1 (by omega)
        unfold State.entryState State.rosterUrgency
        rw [he]
        refine ⟨rfl, rfl, rfl, ?_⟩
        show (if l.joiner = c.station then none else lastHeardLimit c false) = _
        rfl
    · rw [hlock, hv, burstAtLinked_lock, heardFrame_lock]
      rcases hne with hne | hne
      · exact .inl fun he => hne (hseg.mp he)
      · exact .inr fun l hlk => hne l ((heardFrame_lock s c f).symm.trans hlk)
    · have hblank : x.slot .table = Slot.blank := by
        show (s.heardFrame c f).slot .table = _
        rw [heardFrame_slot_other s c f (by decide), concluded_slot_own hown]
        simp only [Slot.accepted, hold]
      have hburst : v = x.nextBurst c a segment.toNat l := by
        rw [hv, burstAtLinked_joiner ((heardFrame_lock s c f).trans hlk) haddr, if_neg fun he => h3 (hseg.mp he)]
      have hao : a.own = true := by
        show (s.arrival c f).own = true
        rw [arrival_own hown]
      refine ⟨fun hp => ?_, fun hp => ?_⟩
      · rw [hslot (by decide) (by decide), hburst]
        unfold State.nextBurst
        rw [if_pos ⟨hao, hr, hp⟩, writeSlot_slot_same, hblank]
        rfl
      · unfold State.slotEmpty
        rw [hslot (by decide) (by decide), hburst]
        unfold State.nextBurst
        rw [if_neg (by simp [hp]), hblank]
        rfl
  · have hxm : x.mu.membership = s.mu.membership := heardFrame_membership s c f
    have hv : v = x.hearBurst c segment.toNat f := by
      show x.takeTable c a segment.toNat f = _
      unfold State.takeTable
      rw [hxm]
      rcases hm with hm | hm
      · rw [hm]
      · rw [hm]
        exact if_neg fun hh => ha hh.1
    have hvm : v.member = x.member := by rw [hv]; simp
    have hvl : v.mu.membership ≠ .linked := by
      rw [membership_of_member hvm, hxm]
      rcases hm with hm | hm <;> simp [hm]
    have hu : v.followUp c a f (s.concluded c f) = v := followUp_unlinked c a f _ hvl rfl
    obtain ⟨hlong, hshort⟩ := hearBurst_burstHold (s := x) (c := c) (segment := segment.toNat) (f := f) ha ht
    rw [hu]
    refine ⟨fun hlen => ?_, fun hlen => ?_, ?_, ?_⟩
    · rw [hv, hlong hlen]
      simp only [hseg]
    · rw [hv, hshort hlen]
      exact heardFrame_burstHold s c f
    · rw [hv, hearBurst_tables, hx]
    · rw [membership_of_member hvm, hxm]

end Sys2Proof.Machine

namespace Sys2Proof.Machine
open Sys2Proof

/-! ## Commands without effect: in DOWN, before the line is followed, without an own frame, and at a stopped timer -/

/-- Every command that does not act in DOWN is guarded by a running image. -/
theorem exec_of_down {i : Instr} {s : State} (hd : s.mu.membership = .down) (hi : actsInDown i = false) :
    exec i s = .next s := by
  have hs := running_of_down hd
  have stays : ∀ guard body, Host.Outcome.next (s.onRunning guard body) = (.next s : Result) := fun guard body => by
    rw [onRunning_none hs guard body]
  cases i with
  | powerOn | supplyBelowThreshold | resetLinePulse | resetLineRelease | configReadAttempt | configRetryWaitExpiry
  | stationSecondsTick | tideInputChange => cases hi
  | lineIdle =>
    show execLineIdle s = _
    unfold execLineIdle
    rw [hs]
  | sensorReply reply =>
    show execSensorReply reply s = _
    unfold execSensorReply
    split
    · rfl
    · exact stays _ _
  | _ => exact stays _ _

/-- A guard that fails keeps the command from acting. -/
theorem onRunning_of_not {s : State} {guard : Image → Bool} (hg : ∀ c, guard c = false) (body : Image → State) :
    s.onRunning guard body = s := by
  unfold State.onRunning
  split
  · rfl
  · rw [if_neg (by rw [hg]; decide)]

theorem next_onRunning_of_not {s : State} {guard : Image → Bool} (hg : ∀ c, guard c = false) (body : Image → State) :
    (.next (s.onRunning guard body) : Result) = .next s := by
  rw [onRunning_of_not hg]

/-- A guarded command whose guard holds. -/
theorem onRunning_of {s : State} {c : Image} (hc : s.running = some c) {guard : Image → Bool} (hg : guard c = true)
    (body : Image → State) : (.next (s.onRunning guard body) : Result) = .next (settle c s (body c)) := by
  rw [onRunning_some hc, if_pos hg]

/-- Every frame command is guarded by the line being followed (R169). -/
theorem exec_of_not_following {i : Instr} {s : State} (hf : s.lc.following = false) (hi : isFrameCommand i = true) :
    exec i s = .next s := by
  have stays := fun body => next_onRunning_of_not (s := s) (guard := fun _ => s.lc.following) (fun _ => hf) body
  cases i with
  | frameBreakOff | frameAbortedOrBusy | table | absent | reclaim | curtail | yield | release | withdraw | claim | alert
  | join | status | dormant | query | recack | period | clear | restart | record | norec | counts | conditions | notice
  | unlistedSubKindFrame => exact stays _
  | _ => cases hi

/-- The outcomes of an own frame are guarded by one being on the line. -/
theorem exec_of_not_sending {s : State} {found : SenderFindings} {i : Instr}
    (hi : i ∈ [Instr.lostArbitration, .ownFrameAborted found, .ownFrameBusy]) (hf : s.flight = none)
    (ho : s.lc.orphan = none) : exec i s = .next s := by
  have hs : s.sending = false := by
    unfold State.sending
    rw [hf, ho]
    rfl
  have stays := fun body => next_onRunning_of_not (s := s) (guard := fun _ => s.sending) (fun _ => hs) body
  simp only [List.mem_cons, List.not_mem_nil, or_false] at hi
  obtain rfl | rfl | rfl := hi <;> exact stays _

/-- Settles O60: every command concerned is a guarded one, and its guard fails. -/
theorem stoppedTimersAndDown : Obligations.StoppedTimersAndDown := by
  unfold Obligations.StoppedTimersAndDown
  refine ⟨fun i s => exec_of_down, fun i s => exec_of_not_following, fun s found i => exec_of_not_sending, fun s => ?_⟩
  have stopped := fun guard hg body => next_onRunning_of_not (s := s) (guard := fun _ => guard) (fun _ => hg) body
  refine ⟨fun h => stopped _ ?_ _, fun h => stopped _ ?_ _, fun h => stopped _ ?_ _, fun h => stopped _ ?_ _,
    fun h => stopped _ ?_ _, fun h => stopped _ ?_ _, fun n h => stopped _ ?_ _, fun n h => stopped _ ?_ _,
    fun h => stopped _ ?_ _, fun h => stopped _ ?_ _, fun h => stopped _ ?_ _, fun h => stopped _ ?_ _,
    fun z h => stopped _ ?_ _, fun h => stopped _ ?_ _, fun h => stopped _ ?_ _, fun h => stopped _ ?_ _,
    fun h => stopped _ ?_ _, fun h => stopped _ ?_ _, fun h => stopped _ ?_ _, fun h => stopped _ ?_ _,
    fun h => stopped _ ?_ _, fun h => stopped _ ?_ _, fun id h => stopped _ ?_ _⟩ <;>
  simp [State.timesAbsence, State.timesStranding, State.timesStep, h]

end Sys2Proof.Machine

namespace Sys2Proof.Machine
open Sys2Proof

/-! ## Emptied slots (R185), as entry to FALLBACK and a RESTART leave them -/

section
variable (s : State) (c : Image)

theorem emptySlots_idle (ids : List SlotId) : (s.emptySlots c ids).lc.idle = s.lc.idle := by
  unfold State.emptySlots
  induction ids generalizing s with
  | nil => rfl
  | cons id ids ih => exact ih (s.emptySlot c id)

/-- An EMPTY slot stays EMPTY, and those of the list become so. -/
theorem emptySlots_slot {ids : List SlotId} {id : SlotId} (h : id ∈ ids ∨ s.slot id = Slot.blank) :
    (s.emptySlots c ids).slot id = Slot.blank := by
  unfold State.emptySlots
  induction ids generalizing s with
  | nil => exact h.resolve_left (List.not_mem_nil)
  | cons i ids ih =>
    refine ih (s.emptySlot c i) ?_
    by_cases hi : i = id
    · exact .inr (hi ▸ setSlot_slot_same ..)
    · refine h.imp (fun hm => (List.mem_cons.mp hm).resolve_left (Ne.symm hi)) fun hb => ?_
      exact (setSlot_slot_other _ _ hi).trans hb

theorem emptyAll_slot (id : SlotId) : (s.emptyAll c).slot id = Slot.blank := by
  unfold State.emptyAll
  rw [slot_mapLc _ (fun l => { l with tally := 0 }) fun _ => rfl]
  exact emptySlots_slot s c (.inl (mem_allSlots id))

theorem emptyAll_idle : (s.emptyAll c).lc.idle = s.lc.idle := by
  unfold State.emptyAll
  rw [mapLc_lc]
  exact emptySlots_idle s c _

theorem emptyAll_tally : (s.emptyAll c).lc.tally = 0 := rfl

/-- The line controller after some of its slots have been rewritten: the rest of it is as in state e. -/
structure Rewrites (slots : List SlotId) (e : State) (l : LcState) : Prop where
  idle : l.idle = e.lc.idle
  tally : l.tally = e.lc.tally
  spacing : l.spacing = e.lc.spacing
  slot : ∀ id, id ∉ slots → l.slots.get id = e.slot id

theorem rewriteNotices_rewrites (old : State) :
    ∃ l, s.rewriteNotices old = { s with lc := l } ∧ Rewrites noticeSlots s l := by
  unfold State.rewriteNotices
  generalize noticeSlots = ids
  induction ids generalizing s with
  | nil => exact ⟨s.lc, rfl, rfl, rfl, rfl, fun _ _ => rfl⟩
  | cons i ids ih =>
    rw [List.foldl_cons]
    split
    · obtain ⟨l, h, h1, h2, h3, hs⟩ := ih s
      exact ⟨l, h, h1, h2, h3, fun id hid => hs id fun hm => hid (List.mem_cons_of_mem _ hm)⟩
    · next content _ =>
      obtain ⟨l, h, h1, h2, h3, hs⟩ := ih (s.writeSlot i content)
      refine ⟨l, h, h1, h2, h3, fun id hid => ?_⟩
      rw [List.mem_cons, not_or] at hid
      exact (hs id hid.2).trans (writeSlot_slot_other _ (Ne.symm hid.1) _)

/-- Writing the grade and the notices again changes their slots alone (R94, R159). -/
theorem rewriteAlert_rewriteNotices (old : State) :
    ∃ l, (s.rewriteAlert c).rewriteNotices old = { s with lc := l } ∧ Rewrites (.alert :: noticeSlots) s l := by
  unfold State.rewriteAlert
  split
  · obtain ⟨l, h, h1, h2, h3, hs⟩ := rewriteNotices_rewrites (s.writeAlert c) old
    refine ⟨l, h, h1, h2, h3, fun id hid => ?_⟩
    rw [List.mem_cons, not_or] at hid
    exact (hs id hid.2).trans (writeSlot_slot_other _ (Ne.symm hid.1) _)
  · obtain ⟨l, h, h1, h2, h3, hs⟩ := rewriteNotices_rewrites s old
    exact ⟨l, h, h1, h2, h3, fun id hid => hs id fun hm => hid (List.mem_cons_of_mem _ hm)⟩

theorem latch_idle (f : Flag) : (s.latch c f).lc.idle = s.lc.idle := by
  unfold State.latch
  dsimp only
  (repeat' split) <;> rfl

/-- Entry to FALLBACK empties every slot but those of the alert and the notices, zeroes the tally, voids the alert table
and leaves the line as it is (R59, R185). -/
theorem enterFallback_line :
    (∀ id, id ≠ .alert → id ∉ noticeSlots → (s.enterFallback c).slot id = Slot.blank) ∧
      (s.enterFallback c).lc.idle = s.lc.idle ∧ (s.enterFallback c).lc.tally = 0 ∧
      (s.enterFallback c).ru.alerts = none := by
  unfold State.enterFallback
  dsimp only
  have hw : (s.latch c .lineLost).leaveTables.lc.idle = s.lc.idle := latch_idle s c .lineLost
  generalize s.latch c .lineLost = w at hw ⊢
  generalize w.leaveTables = x at hw ⊢
  have hslot := emptyAll_slot x c
  have hidle := (emptyAll_idle x c).trans hw
  have htally := emptyAll_tally x c
  generalize x.emptyAll c = y at hslot hidle htally ⊢
  obtain ⟨l, h, h1, h2, -, hs⟩ := rewriteAlert_rewriteNotices ((y.emptyQueue.voidAlerts.setMembership .fallback).mapMu fun m =>
    { m with quiet := some (secondsMs c.travel) }) c w
  rw [h]
  refine ⟨fun id ha hn => (hs id ?_).trans (hslot id), h1.trans hidle, h2.trans htally, rfl⟩
  rw [List.mem_cons, not_or]
  exact ⟨ha, hn⟩

end

/-! ## Allocation frames spoil (R49) -/

/-- From x to u an owner has left the station's membership, its lock, its count of failures and its TABLE slot. -/
structure HoldsOn (x u : State) : Prop where
  membership : u.mu.membership = x.mu.membership
  lock : u.mu.lock = x.mu.lock
  failures : u.mu.failures = x.mu.failures
  table : u.slot .table = x.slot .table
  idle : u.lc.idle = x.lc.idle

namespace HoldsOn
variable {x y u : State} {c : Image}

theorem refl (x : State) : HoldsOn x x := ⟨rfl, rfl, rfl, rfl, rfl⟩

theorem trans (h : HoldsOn x y) (k : HoldsOn y u) : HoldsOn x u :=
  ⟨k.membership.trans h.membership, k.lock.trans h.lock, k.failures.trans h.failures, k.table.trans h.table,
    k.idle.trans h.idle⟩

theorem of_member (hm : u.member = x.member) (ht : u.slot .table = x.slot .table) (hi : u.lc.idle = x.lc.idle) : HoldsOn x u :=
  ⟨membership_of_member hm, lock_of_member hm, congrArg (fun v => v.2.2.2.1) hm, ht, hi⟩

theorem of_lc (hm : u.member = x.member) (hl : u.lc = x.lc) : HoldsOn x u :=
  of_member hm (slot_of_lc hl _) (by rw [hl])

theorem pruneSlot (h : HoldsOn x u) {id : SlotId} (hid : id ≠ .table) (l : List Nat) : HoldsOn x (u.pruneSlot id l) :=
  h.trans (of_member (by simp) (pruneSlot_slot_other _ hid l) rfl)

theorem returnWhere (p : Nat → Share → Bool) : HoldsOn x (x.returnWhere p) := of_lc (by simp) (returnWhere_lc ..)

theorem settleOutgoing (a : Arrival) (set : List Nat) : HoldsOn x (x.settleOutgoing a set) :=
  of_lc (by simp) (settleOutgoing_lc ..)

theorem dropClaim (n : Nat) : HoldsOn x (x.dropClaim n) := of_lc (by simp) rfl

theorem takeClaim (n urgency field : Nat) : HoldsOn x (x.takeClaim n urgency field) := by
  have hmu := takeClaim_mu x n urgency field
  have hlc := takeClaim_lc x n urgency field
  exact ⟨by rw [hmu]; rfl, by rw [hmu]; rfl, by rw [hmu]; rfl, slot_of_lc hlc _, by rw [hlc]⟩

theorem lateWithdraw (a : Arrival) : HoldsOn x (x.lateWithdraw c a) :=
  of_member (by simp) (lateWithdraw_slot _ _ _ (by decide)) (lateWithdraw_idle ..)

theorem takeCurtailFrame (q : Nat) : HoldsOn x (x.takeCurtailFrame c q) := by
  have ht : (x.takeCurtail c q).lc = x.lc := by
    unfold State.takeCurtail
    dsimp only
    (repeat' split) <;> rfl
  have hr : ∀ y : State, HoldsOn y (y.curtailRelease c q) := by
    intro y
    unfold State.curtailRelease
    split
    · exact refl y
    · exact of_member (by simp) (writeSlot_slot_other _ (by decide) _) rfl
  unfold State.takeCurtailFrame
  split
  · exact (of_lc (by simp) ht).trans (hr _)
  · exact refl x

theorem takeReclaim (named : List Nat) : HoldsOn x (x.takeReclaim named) := by
  let l := named.filter fun n => decide (x.entryState n = .absent)
  obtain ⟨r, hr⟩ := clearAll_eq (x.reclaimShares l) l
  have hclear : HoldsOn (x.reclaimShares l) ((x.reclaimShares l).clearAll l) := by
    rw [hr]
    exact ⟨rfl, rfl, rfl, rfl, rfl⟩
  exact ((returnWhere _).trans hclear).pruneSlot (by decide) named

theorem takeAbsent {named : List Nat} (hn : c.station ∉ named) : HoldsOn x (x.takeAbsent c named) := by
  obtain ⟨r, sh, cl, hd⟩ := declareAll_eq x c (named.filter x.isLinked)
  have hdeclare : HoldsOn x (x.declareAll c (named.filter x.isLinked)) := by
    rw [hd]
    exact ⟨rfl, rfl, rfl, rfl, rfl⟩
  rw [takeAbsent_of_not_named hn]
  exact hdeclare.pruneSlot (by decide) named

end HoldsOn

/-- What an allocation frame does to a lock and to a join (R49). -/
def Spoils (s : State) (c : Image) (t : State) : Prop :=
  (∀ l, s.mu.membership = .linked → s.mu.lock = some l → t.mu.lock = none ∧
    (l.joiner ≠ c.station → t.entryState l.joiner = .none) ∧
    (l.responder = c.station → t.slotEmpty .table = true)) ∧
  (s.mu.membership = .joining ∨ s.mu.membership = .loading →
    t.mu.membership = .listening ∧ t.mu.roster = none ∧ t.sa.shares = none ∧ t.sa.claims = [] ∧
    t.mu.failures = s.mu.failures ∧ t.mu.joinRecord = [] ∧ t.mu.populated = false ∧
    t.mu.newlyPopulated = false ∧ t.mu.listen = some (2000 * c.presence))

/-- The end of a lock, as it stands after it (R48, R49). -/
theorem endLock_ends {u : State} {c : Image} {l : Lock} (hl : u.mu.lock = some l) :
    (u.endLock c).mu.lock = none ∧ (l.joiner ≠ c.station → (u.endLock c).entryState l.joiner = .none) ∧
      (l.responder = c.station → (u.endLock c).slot .table = (u.slot .table).cancel) := by
  unfold State.endLock
  rw [hl]
  dsimp only
  refine ⟨?_, fun hj => ?_, fun hr => ?_⟩
  · (repeat' split) <;> rfl
  · rw [if_neg hj]
    have he := entry_clearEntry (u.mapMu fun m => { m with lock := none }) l.joiner l.joiner
    rw [if_pos rfl] at he
    split <;> exact congrArg RosterEntry.state he
  · rw [if_pos hr]
    split <;> exact cancelSlot_slot_same ..

@[simp] theorem heardFrame_failures (s : State) (c : Image) (f : Frame) :
    (s.heardFrame c f).mu.failures = s.mu.failures :=
  heardFrame_eq s c f (fun x => x.mu.failures) fun _ _ _ _ _ _ _ _ => rfl

section
variable {s : State} {c : Image} {f : Frame} {u : State} (b : State)

/-- A station that falls back has no lock, no roster and no TABLE (R59). -/
theorem spoils_of_enterFallback {y : State} (hl : s.mu.membership = .linked) (hi : y.lc.idle = false) :
    Spoils s c (settle c b (y.enterFallback c)) := by
  obtain ⟨hslot, hidle, -⟩ := enterFallback_line y c
  obtain ⟨hm, hoff, -⟩ := settle_enterFallback y b c
  obtain ⟨-, -, -, -, -, -, hr, hk, -⟩ := hoff
  refine ⟨fun l _ _ => ⟨hk, fun _ => ?_, fun _ => ?_⟩, fun hj => ?_⟩
  · unfold State.entryState State.entry
    rw [hr]
    rfl
  · unfold State.slotEmpty
    rw [settle_slot c _ _ _ (hidle.trans hi) (by decide), hslot _ (by decide) (by decide)]
    rfl
  · rcases hj with hj | hj <;> rw [hl] at hj <;> cases hj

/-- In JOINING and LOADING an allocation frame's last effect is the spoiled join (R49). -/
theorem followUp_of_joining (ha : f.isAllocation = true) (hj : u.mu.membership = .joining ∨ u.mu.membership = .loading)
    (a : Arrival) (e : State) : u.followUp c a f e = u.spoilJoin c := by
  have hul : u.mu.membership ≠ .linked := by rcases hj with hj | hj <;> rw [hj] <;> decide
  have hv : u.ownerDone c a f = u.spoilJoin c := by
    unfold State.ownerDone State.spoil
    rw [restartPresence_of_unlinked c a hul, if_pos ha]
    rcases hj with hj | hj <;> rw [hj]
  unfold State.followUp
  rw [hv]
  exact if_neg (by rw [spoilJoin_membership]; decide)

/-- What an allocation frame does whose owner leaves lock and join to it. -/
theorem spoils_of_holdsOn (ha : f.isAllocation = true) (h : HoldsOn (s.heardFrame c f) u) (a : Arrival) (e : State) :
    Spoils s c (settle c b (u.followUp c a f e)) := by
  have hum : u.mu.membership = s.mu.membership := h.membership.trans (heardFrame_membership s c f)
  refine ⟨fun l hl hk => ?_, fun hj => ?_⟩
  · have hul : u.mu.membership = .linked := hum.trans hl
    have hv : u.ownerDone c a f = (u.restartPresence c a).endLock c := by rw [ownerDone_linked hul, if_pos ha]
    obtain ⟨h1, h2, h3⟩ := endLock_ends (u := u.restartPresence c a) (c := c) (l := l)
      (by rw [restartPresence_lock, h.lock, heardFrame_lock, hk])
    have hmem : (settle c b (u.followUp c a f e)).member = ((u.restartPresence c a).endLock c).member := by
      rw [settle_member, ← hv]
      exact afterFrame_member ..
    refine ⟨(lock_of_member hmem).trans h1, fun hj => ?_, fun hr => ?_⟩
    · exact (congrArg RosterEntry.state (entry_of_roster (roster_of_member hmem) _)).trans (h2 hj)
    · have hidle : (u.followUp c a f e).lc.idle = false := by
        rw [followUp_idle c a f e hul, h.idle]
        exact heardFrame_idle s c f
      have hslot : (settle c b (u.followUp c a f e)).slot .table = (u.slot .table).cancel := by
        rw [settle_slot c _ _ _ hidle (by decide)]
        unfold State.followUp
        rw [afterFrame_slot _ _ _ (by decide) (by decide), hv, h3 hr]
        exact congrArg Slot.cancel (slot_of_lc (restartPresence_lc u c a) _)
      unfold State.slotEmpty
      rw [hslot, h.table, ← cancelSlot_slot_same]
      exact cancelSlot_empty (heardFrame_table_not_inFlight s c f)
  · rw [followUp_of_joining ha (by rwa [hum]) a e]
    refine ⟨?_, ?_, ?_, ?_, ?_, ?_, ?_, ?_, ?_⟩ <;> simp only [settle_membership, settle_roster, settle_shares, settle_claims,
      settle_failures, settle_joinRecord, settle_populated, settle_newlyPopulated, settle_listen]
    case refine_5 => exact h.failures.trans (heardFrame_failures s c f)
    case refine_9 => exact congrArg some (by unfold secondsMs; omega)
    all_goals rfl

/-- An accepted allocation frame spoils, if its owner leaves lock and join to it, or takes a LINKED station to FALLBACK. -/
theorem receive_spoils (h : Hears s c) (hf : f.fromStation = true) (ha : f.isAllocation = true)
    {o : Image → Arrival → State → State}
    (ho : ∀ a, HoldsOn (s.heardFrame c f) (o c a (s.heardFrame c f)) ∨ s.mu.membership = .linked ∧
      ∃ y : State, y.lc.idle = false ∧ o c a (s.heardFrame c f) = y.enterFallback c) :
    Spoils s c (receive f o s) := by
  rw [receive_hears h hf]
  rcases ho (s.arrival c f) with hh | ⟨hl, y, hi, hy⟩
  · exact spoils_of_holdsOn s ha hh _ _
  · obtain ⟨l, r, he⟩ := enterFallback_eq y c
    rw [hy, followUp_off _ _ _ _ (.inr (.inl (by rw [he])))]
    exact spoils_of_enterFallback s hl hi

end

/-- The owner of an ABSENT: it falls back if it is named, and otherwise leaves lock and join. -/
theorem takeAbsent_spoils (x : State) (c : Image) (named : List Nat) (hi : x.lc.idle = false) :
    HoldsOn x (x.takeAbsent c named) ∨ ∃ y : State, y.lc.idle = false ∧ x.takeAbsent c named = y.enterFallback c := by
  by_cases hn : c.station ∈ named
  · refine .inr ⟨(x.declareAll c (named.filter x.isLinked)).pruneSlot .absent named, ?_, ?_⟩
    · obtain ⟨r, sh, cl, hd⟩ := declareAll_eq x c (named.filter x.isLinked)
      rw [pruneSlot_idle, hd]
      exact hi
    · exact if_pos (by simpa using hn)
  · exact .inl (.takeAbsent hn)

/-- An owner that takes its frame under a condition leaves what the taking leaves. -/
theorem HoldsOn.ite {x u : State} {p : Prop} [Decidable p] (h : HoldsOn x u) : HoldsOn x (if p then u else x) := by
  split
  · exact h
  · exact refl x

/-- Settles O39: an owner's effect leaves the lock and the join, but for an ABSENT that names a LINKED station, which then
falls back; what follows the owner spoils them. -/
theorem allocationFramesSpoil : Obligations.AllocationFramesSpoil := by
  intro s c k b i hi h h0 h63
  have hf : ∀ cls sub, (bodyFrame b cls sub).fromStation = true := fun _ _ => fromStation_of_ne h0 h63
  simp only [allocationCommands, List.mem_cons, List.not_mem_nil, or_false] at hi
  rcases hi with rfl | rfl | rfl | rfl | rfl | rfl | rfl | rfl | rfl <;>
    refine ⟨_, rfl, receive_spoils h (hf _ _) rfl fun a => ?_⟩
  case _ =>
    split
    · next ht =>
      have hl : s.mu.membership = .linked := by
        rw [Bool.and_eq_true, heardFrame_takesFrom] at ht
        simpa [State.takesFrom] using (Bool.and_eq_true_iff.mp ht.2).1
      exact (takeAbsent_spoils _ c _ (heardFrame_idle s c _)).imp_right fun hy => ⟨hl, hy⟩
    · exact .inl (.refl _)
  case _ => exact .inl (HoldsOn.takeReclaim _).ite
  case _ => exact .inl (HoldsOn.takeCurtailFrame _).ite
  case _ => exact .inl ((HoldsOn.settleOutgoing a _).trans (HoldsOn.returnWhere _).ite).ite
  case _ => exact .inl ((HoldsOn.settleOutgoing a _).trans (HoldsOn.returnWhere _).ite).ite
  case _ => exact .inl (HoldsOn.dropClaim _).ite
  case _ => exact .inl ((HoldsOn.takeClaim _ _ _).ite.trans (.lateWithdraw a))
  case _ => exact .inl (.refl _)
  case _ => exact .inl (.refl _)

end Sys2Proof.Machine

namespace Sys2Proof.Machine
open Sys2Proof

/-! ## RESTART (R61) -/

theorem emptyAll_eq (s : State) (c : Image) :
    ∃ l, s.emptyAll c = { s with lc := l } ∧ l.tally = 0 ∧ l.spacing = s.lc.spacing := by
  have hline := emptySlots_line s c allSlots
  obtain ⟨l, h⟩ := emptySlots_eq s c allSlots
  unfold State.emptyAll
  rw [h] at hline ⊢
  exact ⟨_, rfl, rfl, congrArg (fun v => v.2.1) hline⟩

/-- Beside leaving the tables, a taken RESTART changes slots, the alert table, the queue, the membership and its timers
(R61). -/
theorem takeRestart_eq (s : State) (c : Image) : ∃ l, s.takeRestart c =
    { s.leaveTables with
      lc := l, ru := { s.leaveTables.ru with alerts := none }
      rs := { s.leaveTables.rs with queue := [], serving := false }
      mu := { s.leaveTables.mu with
        membership := .listening, failures := 0, quiet := none, joinRecord := [], populated := false, newlyPopulated := false
        nextSegment := 0, burstHold := none, listen := some (2000 * c.presence)
        restartHold := some (secondsMs c.travel) } } ∧
      l.tally = 0 ∧ l.spacing = none := by
  unfold State.takeRestart
  dsimp only
  have hsp : s.leaveTables.lc.spacing = none := rfl
  have hms : 2 * secondsMs c.presence = 2000 * c.presence := by unfold secondsMs; omega
  rw [← hms]
  generalize s.leaveTables = x at hsp ⊢
  obtain ⟨l, h, htally, hspacing⟩ := emptyAll_eq x c
  rw [h]
  obtain ⟨l', h', hw⟩ := rewriteAlert_rewriteNotices ((({ x with lc := l }.emptyQueue.voidAlerts).mapMu fun m =>
    { m with failures := 0, quiet := none }).enterListening c true) c s
  rw [h']
  exact ⟨l', rfl, hw.tally.trans htally, hw.spacing.trans (hspacing.trans hsp)⟩

theorem heardFrame_ru (s : State) (c : Image) (f : Frame) : (s.heardFrame c f).ru = s.ru :=
  heardFrame_eq s c f State.ru fun _ _ _ _ _ _ _ _ => rfl

/-- From state s to u a RESTART has been taken (R61). -/
structure Restarted (c : Image) (s u : State) : Prop where
  left : LeftTables u
  membership : u.mu.membership = .listening
  failures : u.mu.failures = 0
  record : u.mu.joinRecord = []
  populated : u.mu.populated = false
  restartHold : u.mu.restartHold = some (1000 * c.travel)
  listen : u.mu.listen = some (2000 * c.presence)
  stopped : u.mu.quiet = none ∧ u.mu.presence = none ∧ u.mu.joinWait = none ∧ u.mu.load = none
  line : u.lc.tally = 0 ∧ u.lc.spacing = none
  alerts : u.ru = { s.ru with alerts := none }
  queue : u.rs = { s.rs with queue := [], serving := false }
  readiness : u.srm.readiness = s.srm.readiness
  sensors : ∀ f, u.standing c f = s.standing c f

theorem takeRestart_restarted (s : State) (c : Image) : Restarted c s (s.takeRestart c) := by
  have hleft := leaveTables_leftTables s
  have hrs := leaveTables_rs s
  have hst : ∀ f, s.leaveTables.standing c f = s.standing c f := standing_congr c rfl rfl rfl (by rw [hrs])
  obtain ⟨l, h, htally, hspacing⟩ := takeRestart_eq s c
  rw [h]
  exact {
    left := hleft, membership := rfl, failures := rfl, record := rfl, populated := rfl, restartHold := rfl
    listen := rfl, stopped := ⟨rfl, rfl, rfl, rfl⟩, line := ⟨htally, hspacing⟩, alerts := rfl
    queue := by rw [hrs], readiness := rfl, sensors := hst }

theorem Restarted.of_heardFrame {c : Image} {s u : State} {f : Frame} (h : Restarted c (s.heardFrame c f) u) :
    Restarted c s u :=
  { h with
    alerts := h.alerts.trans (by rw [heardFrame_ru])
    queue := h.queue.trans (by rw [heardFrame_rs])
    readiness := h.readiness.trans (by rw [heardFrame_srm])
    sensors := fun g => (h.sensors g).trans (standing_congr c (by rw [heardFrame_ts]) (by rw [heardFrame_ts])
      (by rw [heardFrame_ts]) (by rw [heardFrame_rs]) g) }

section
variable (u : State) (c : Image) (a : Arrival) (f : Frame) (b : State)

@[simp] theorem followUp_spills : (u.followUp c a f b).spills = u.spills := by unfold State.followUp; simp
@[simp] theorem followUp_tank : (u.followUp c a f b).tank = u.tank := by unfold State.followUp; simp
@[simp] theorem followUp_weather : (u.followUp c a f b).weather = u.weather := by unfold State.followUp; simp
@[simp] theorem followUp_chip : (u.followUp c a f b).chip = u.chip := by unfold State.followUp; simp

end

section
variable {u : State} (c : Image) (a : Arrival) {f : Frame} (b : State) (hf : f.isAllocation = false)
include hf

/-- What follows the owner of a frame that is no allocation frame leaves the membership and the tables. -/
theorem followUp_keeps : (u.followUp c a f b).member = u.member ∧ (u.followUp c a f b).tables = u.tables := by
  have h : u.ownerDone c a f = u.restartPresence c a := by
    unfold State.ownerDone
    rw [hf]
    rfl
  obtain ⟨p, hp⟩ := restartPresence_eq u c a
  unfold State.followUp
  rw [afterFrame_member, afterFrame_tables, h, hp]
  exact ⟨rfl, rfl⟩

end

/-- What a RESTART that is taken shows at the command's end (R61). -/
theorem Restarted.settle {c : Image} {s u : State} (h : Restarted c s u) (b : State) :
    let t := settle c b u
    t.mu.membership = .listening ∧ OffTheTables t ∧ t.mu.failures = 0 ∧ t.rs.queue = [] ∧
      t.ru.alerts = none ∧ t.mu.restartHold = some (1000 * c.travel) ∧
      t.mu.listen = some (2000 * c.presence) ∧ t.mu.joinRecord = [] ∧ t.mu.populated = false ∧
      t.mu.quiet = none ∧ t.mu.presence = none ∧ t.mu.joinWait = none ∧ t.mu.load = none ∧
      t.lc.tally = 0 ∧ t.lc.spacing = none ∧ t.ru.localGrade = s.ru.localGrade ∧
      t.srm.readiness = s.srm.readiness ∧
      ∀ f, inSet t.rs.latched f = (inSet s.rs.latched f || s.standing c f) := by
  obtain ⟨hquiet, hpresence, hwait, hload⟩ := h.stopped
  obtain ⟨htally, hspacing⟩ := h.line
  have hoff := h.left.settle (by rw [h.membership]; decide) c b
  have hqueue := settle_queue_nil c b u (by rw [h.queue]) (by rw [h.queue])
  have hlatched : ∀ f, inSet (Machine.settle c b u).rs.latched f = (inSet s.rs.latched f || s.standing c f) := fun f => by
    rw [settle_latched, h.sensors, h.queue]
  simp only [settle_membership, settle_failures, settle_ru, settle_restartHold, settle_listen, settle_joinRecord,
    settle_populated, settle_quiet, settle_presence, settle_joinWait, settle_load, settle_tally, settle_spacing,
    settle_readiness, h.membership, h.failures, h.alerts, h.restartHold, h.listen, h.record, h.populated, hquiet, hpresence,
    hwait, hload, htally, hspacing, h.readiness, hqueue, true_and]
  exact ⟨hoff, hlatched⟩

/-- A sender that is a tank station, or another addressee: not a listener's frame to this station. -/
theorem not_fromListenerTo {b : FrameBody} {cls sub n : Nat} (h : isTank b.sender.toNat = true ∨ b.addressee.toNat ≠ n) :
    (bodyFrame b cls sub).fromListenerTo n = false := by
  unfold Frame.fromListenerTo bodyFrame
  rcases h with h | h
  · have ht := isTank_iff.mp h
    have hl : isListener b.sender.toNat = false := by
      unfold isListener
      exact decide_eq_false (by omega)
    rw [hl]
    rfl
  · simp [h]

theorem fromListenerTo_of {b : FrameBody} {cls sub n : Nat} (hl : isListener b.sender.toNat = true) (ha : b.addressee.toNat = n) :
    (bodyFrame b cls sub).fromListenerTo n = true := by
  unfold Frame.fromListenerTo bodyFrame
  rw [hl]
  exact decide_eq_true ha

/-- Settles O56: a RESTART for this station leaves the tables and listens, and what it leaves of the state stands; after any
other nothing follows of the membership. -/
theorem restartFrame : Obligations.RestartFrame := by
  intro s c b h h0 h63
  let f := bodyFrame b 6 4
  let x := s.heardFrame c f
  let u := if f.fromListenerTo c.station then x.takeRestart c else x
  let t := settle c s (u.followUp c (s.arrival c f) f (s.concluded c f))
  have hexec : exec (.restart b) s = .next t := congrArg Host.Outcome.next (receive_hears h (fromStation_of_ne h0 h63) _)
  have hu : u.spills = s.spills ∧ u.tank = s.tank := by
    unfold u
    split <;> simp [x]
  have hspills : t.spills = s.spills := ((settle_spills ..).trans (followUp_spills ..)).trans hu.1
  have htank : t.tank = s.tank := ((settle_tank ..).trans (followUp_tank ..)).trans hu.2
  refine ⟨t, hexec, hspills, htank, fun hl ha => ?_, fun hno => ?_⟩
  · have hu : u = x.takeRestart c := if_pos (fromListenerTo_of hl ha)
    obtain ⟨l, he, -⟩ := takeRestart_eq x c
    have ht : t = settle c s (x.takeRestart c) := by
      show settle c s (u.followUp c (s.arrival c f) f (s.concluded c f)) = _
      rw [hu, followUp_off _ _ _ _ (.inl (by rw [he]))]
    rw [ht]
    exact (takeRestart_restarted x c).of_heardFrame.settle s
  · have hu : u = x := if_neg (by rw [not_fromListenerTo hno]; decide)
    obtain ⟨hm, htab⟩ := followUp_keeps (u := x) c (s.arrival c f) (s.concluded c f) (f := f) rfl
    have hmem : t.member = x.member := by
      show (settle c s (u.followUp c (s.arrival c f) f (s.concluded c f))).member = _
      rw [settle_member, hu, hm]
    refine ⟨?_, ?_, ?_⟩
    · exact (membership_of_member hmem).trans (heardFrame_membership s c f)
    · exact (congrArg (fun v => v.2.2.2.1) hmem).trans (heardFrame_failures s c f)
    · show (settle c s (u.followUp c (s.arrival c f) f (s.concluded c f))).tables = _
      rw [settle_tables, hu, htab]
      exact heardFrame_tables s c f

end Sys2Proof.Machine

namespace Sys2Proof.Machine
open Sys2Proof

/-! ## The slots after the offer -/

/-- The offer leaves a slot or, where a content waits in it, takes it into flight. -/
theorem offer_slot_cases (s : State) (c : Image) (fresh : Bool) (id : SlotId) :
    (s.offer c fresh).slot id = s.slot id ∨
      s.slotPending id = true ∧ ((s.offer c fresh).slot id).state.isEmpty = false := by
  have hstart : ∀ best, s.eligible best = true → (s.startFlight c best).slot id = s.slot id ∨
      s.slotPending id = true ∧ ((s.startFlight c best).slot id).state.isEmpty = false := by
    intro best hbest
    obtain ⟨content, hp⟩ := eligible_pending hbest
    rw [startFlight_slot s c best id content hp]
    split
    · next he =>
      subst he
      refine .inr ⟨?_, rfl⟩
      unfold State.slotPending
      rw [hp]
      rfl
    · exact .inl rfl
  unfold State.offer
  split
  · split
    · exact .inl rfl
    · next best hb =>
      have hbest := (bestSlot_spec hb).1
      obtain ⟨content, hp⟩ := eligible_pending hbest
      split
      · exact hstart best hbest
      · unfold State.offerIfStillIdle
        split
        · rw [drawFree_startFlight_slot s c hp]
          exact hstart best hbest
        · exact .inl rfl
  · exact .inl rfl

theorem offer_slotEmpty (s : State) (c : Image) (fresh : Bool) (id : SlotId) :
    (s.offer c fresh).slotEmpty id = s.slotEmpty id := by
  unfold State.slotEmpty
  rcases offer_slot_cases s c fresh id with h | ⟨hp, h⟩
  · rw [h]
  · rw [h]
    unfold State.slotPending at hp
    cases hs : (s.slot id).state with
    | empty => rw [hs] at hp; cases hp
    | _ => rfl

/-- A slot without a waiting content that no block writes at the end of a command stands. -/
theorem settle_slot_of_not_pending (c : Image) (b : State) {s : State} {id : SlotId} (hid : id ∉ settleSlots)
    (h : s.slotPending id = false) : (settle c b s).slot id = s.slot id := by
  have hb : (settleBlocks c b s).slot id = s.slot id := settleBlocks_slot c id b s hid
  unfold settle
  rcases offer_slot_cases (settleBlocks c b s) c (!b.lc.idle) id with ho | ⟨hp, -⟩
  · exact ho.trans hb
  · unfold State.slotPending at h hp
    rw [hb, h] at hp
    cases hp

theorem cancel_not_pending (x : Slot) : x.cancel.state.isPending = false := by
  unfold Slot.cancel
  cases hx : x.state with
  | empty => simp only [hx]; rfl
  | _ => rfl

/-! ## LOCK_TIMER (R48) -/

/-- A lock that has timed out ends as a spoiled one does. -/
theorem lockTimer_ends {s : State} {c : Image} {l : Lock} (hl : s.mu.lock = some l) :
    let t := settle c s (s.endLock c)
    t.mu.lock = none ∧ (l.joiner ≠ c.station → t.entryState l.joiner = .none) ∧
      (l.responder = c.station → SlotCancelled (s.slot .table) (t.slot .table)) ∧
      (∀ n, n ≠ l.joiner ∨ n = c.station → t.entry n = s.entry n) ∧ t.tables = s.tables ∧
      t.mu.membership = s.mu.membership := by
  obtain ⟨hlock, hjoiner, htable⟩ := endLock_ends (c := c) hl
  have hentry := fun n => entry_of_roster (settle_roster (c := c) (b := s) (s := s.endLock c)) n
  refine ⟨(settle_lock ..).trans hlock, fun hj => ?_, fun hr => ?_, fun n hn => ?_, ?_, ?_⟩
  · exact (congrArg RosterEntry.state (hentry _)).trans (hjoiner hj)
  · have hnp : (s.endLock c).slotPending .table = false := by
      unfold State.slotPending
      rw [htable hr]
      exact cancel_not_pending _
    rw [settle_slot_of_not_pending c s (by decide) hnp, htable hr]
    exact slotCancelled_cancel _
  · refine (hentry n).trans (endLock_entry s c (hn.imp_left fun hn l' hl' => ?_))
    rw [hl] at hl'
    cases hl'
    exact hn
  · rw [settle_tables, endLock_tables]
  · rw [settle_membership, endLock_membership]

/-! ## LAST_HEARD and STRANDING_TIMER (R54, R56) -/

/-- From x to y station n has joined the set that a slot holds (R175, R176). -/
def JoinsSet (content : List Nat → Content) (n : Nat) (x y : Slot) : Prop :=
  (x.state.isEmpty = true → y.state = .pending (content [n])) ∧
  (∀ f k, x.state = .inFlight f none k → y.state = .inFlight f (some (content [n])) k) ∧
  ∀ set, x.state = .pending (content set) → n ≤ 48 →
    ∃ set', y.state = .pending (content set') ∧ ∀ m, m ≤ 48 → (m ∈ set' ↔ m ∈ set ∨ m = n)

theorem write_joinsSet {content : List Nat → Content}
    (hm : ∀ a b, mergeContent (content a) (content b) = content (unionBelow 49 a b)) (n : Nat) (x : Slot) :
    JoinsSet content n x (x.write (content [n])) := by
  refine ⟨fun h => write_of_empty h _, fun f k h => by simp [Slot.write, h], fun set h _ => ⟨unionBelow 49 set [n], ?_, ?_⟩⟩
  · simp [Slot.write, h, hm]
  · intro m hm
    rw [mem_unionBelow, List.mem_singleton]
    exact and_iff_right (by omega)

/-- The entry of station n changes and a content is written: what an expiry of one of its timers does. -/
theorem mapEntry_writeSlot {s : State} {n : Nat} (h : s.entryState n ≠ .none) (f : RosterEntry → RosterEntry) (id : SlotId)
    (content : Content) :
    let u := (s.mapEntry n f).writeSlot id content
    u.entry n = f (s.entry n) ∧ (∀ m, m ≠ n → u.entry m = s.entry m) ∧ u.tables = s.tables ∧
      u.slot id = (s.slot id).write content :=
  ⟨entry_mapEntry_of_state h f, fun _ hm => entry_mapEntry_other s f hm, rfl, writeSlot_slot_same ..⟩

/-- Settles O58: an expiry in the state its timer runs in does its one thing, and the command's end adds nothing to it. -/
theorem membershipTimers : Obligations.MembershipTimers := by
  intro s c hc
  refine ⟨fun l hl => ?_, fun n hm hn ht => ?_, fun n hm hn ht => ?_, fun hm ht => ?_, fun hm ht => ?_, fun hm ht => ?_⟩
  · refine ⟨_, onRunning_of hc ?_ _, lockTimer_ends hl⟩
    rw [hl]
    rfl
  · refine ⟨_, onRunning_of hc ?_ _, ?_⟩
    · simp [State.timesAbsence, hm, hn, ht]
    have hstate : s.entryState n = .linked := isLinked_iff.mp hn
    obtain ⟨he, hother, htables, hslot⟩ := mapEntry_writeSlot (s := s) (n := n) (by rw [hstate]; decide)
      (fun e => { e with lastHeard := none }) .absent (.absent [n])
    have hj := write_joinsSet (content := .absent) (fun _ _ => rfl) n (s.slot .absent)
    rw [← hslot] at hj
    refine ⟨by rw [he], ?_, hother, htables, hj⟩
    unfold State.entryState
    rw [he]
    exact hstate
  · refine ⟨_, onRunning_of hc ?_ _, ?_⟩
    · simp [State.timesStranding, hm, hn, ht]
    obtain ⟨he, hother, htables, hslot⟩ := mapEntry_writeSlot (s := s) (n := n) (by rw [hn]; decide)
      (fun e => { e with stranding := none }) .reclaim (.reclaim [n])
    have hj := write_joinsSet (content := .reclaim) (fun _ _ => rfl) n (s.slot .reclaim)
    rw [← hslot] at hj
    refine ⟨by rw [he], ?_, hother, htables, hj⟩
    unfold State.entryState
    rw [he]
    exact hn
  · refine ⟨_, onRunning_of hc ?_ _, ?_⟩
    · simp [hm, ht]
    obtain ⟨h1, h2, h3, h4, h5⟩ := settle_enterFallback s s c
    obtain ⟨-, -, htally, halerts⟩ := enterFallback_line s c
    refine ⟨h1, h2, h3, h4, ?_, h5, (settle_tally ..).trans htally, ?_, ?_⟩
    · rw [settle_ru, halerts]
    · rw [settle_spills, enterFallback_spills]
    · rw [settle_tank, enterFallback_tank]
  · refine ⟨_, onRunning_of hc ?_ _, ?_⟩
    · simp [hm, ht]
    have hms : 2 * secondsMs c.presence = 2000 * c.presence := by unfold secondsMs; omega
    simp only [settle_membership, settle_quiet, settle_listen, settle_joinRecord, settle_populated, settle_failures, settle_tables,
      enterListening_tables, ← hms]
    exact ⟨rfl, rfl, rfl, rfl, rfl, rfl, rfl⟩
  · refine ⟨_, onRunning_of hc ?_ _, ?_, fun he => ?_, ?_, rfl⟩
    · simp [hm, ht]
    · exact (congrArg SlotState.isEmpty (congrArg Slot.state (writeSlot_slot_same ..))).trans (write_not_empty _ _)
    · exact (congrArg Slot.state (writeSlot_slot_same ..)).trans (write_of_empty he _)
    · rfl

end Sys2Proof.Machine

namespace Sys2Proof.Machine
open Sys2Proof

/-! ## JOIN and STATUS at the end of a command (R39, R53) -/

/-- A listening station whose listening is over and that nothing holds has a JOIN in its slot at a command's end (R39). -/
theorem settle_join_due (c : Image) (b : State) {s : State} (hm : s.mu.membership = .listening) (hl : s.mu.listen = none)
    (hr : s.mu.restartHold = none) (hb : s.mu.burstHold = none) : (settle c b s).slotEmpty .join = false := by
  let y := ((((((s.recomputeUrgency c).drainStep b c).setValve c).latchStanding c).controlCalm c).watchSilence c)
  have hy : y.frozen = s.frozen := by
    unfold y
    simp only [watchSilence_frozen, controlCalm_frozen, latchStanding_frozen, setValve_frozen, drainStep_frozen,
      recomputeUrgency_frozen]
  have hj : (y.writeJoinIfDue c).slotEmpty .join = false := by
    unfold State.writeJoinIfDue
    split
    · unfold State.slotEmpty
      rw [writeSlot_slot_same]
      exact write_not_empty _ _
    · next hno =>
      rw [← Bool.not_eq_true]
      exact fun he => hno ⟨(eq_of_frozen (·.mu.membership) (fun _ => rfl) hy).trans hm,
        (eq_of_frozen (·.mu.listen) (fun _ => rfl) hy).trans hl, (eq_of_frozen (·.mu.restartHold) (fun _ => rfl) hy).trans hr,
        (eq_of_frozen (·.mu.burstHold) (fun _ => rfl) hy).trans hb, he⟩
  have hw : (settleBlocks c b s).slotEmpty .join = false := by
    unfold State.slotEmpty
    rw [settleBlocks_eq, watchDormancy_slot c _ _ (by decide), statusOnChange_slot _ _ _ (by decide)]
    exact (congrArg (·.state.isEmpty) (runService_slot c _ _ (by decide))).trans hj
  unfold settle
  rw [offer_slotEmpty]
  exact hw

/-- Where the STATUS slot bears the values before the command, it bears those after it, written again if they changed. -/
theorem settle_status_carries (c : Image) (b : State) {s : State} (hl : s.mu.membership = .linked)
    (ha : s.ac.activity ≠ .dormant) (hs : (s.slot .status).state.newest = some (.status b.statusValues)) :
    ((settle c b s).slot .status).state.newest = some (.status (settle c b s).statusValues) := by
  by_cases hb : b.statusValues = (settle c b s).statusValues
  · have hv : (settle c b s).statusValues = (s.reported b c).statusValues := by
      unfold settle
      rw [offer_statusValues, settleBlocks_eq, watchDormancy_statusValues, statusOnChange_statusValues]
    have hsame : (s.reported b c).statusOnChange b = s.reported b c := if_neg (not_not.mpr (hb.trans hv))
    rw [← hb]
    refine offer_newest _ c _ ?_
    rw [settleBlocks_eq, watchDormancy_slot c .status _ (by decide), hsame, reported_slot s b c (.inl rfl)]
    exact hs
  · exact settle_status_newest c b s hl ha hb

/-! ## A failed join, a re-queue and a founding (R42, R43, R52) -/

theorem latch_mu (s : State) (c : Image) (f : Flag) : (s.latch c f).mu = s.mu := by
  unfold State.latch
  dsimp only
  (repeat' split) <;> rfl

/-- A failed join counts, latches its flag, discards what was loaded, and isolates at the second in a row (R52). -/
theorem failJoin_fails (s : State) (c : Image) :
    let u := s.failJoin c
    inSet u.rs.latched .joinFailed = true ∧ u.mu.failures = s.mu.failures + 1 ∧ u.sa.shares = none ∧ u.mu.roster = none ∧
      u.mu.membership = (if s.mu.failures + 1 = 2 then .isolated else .listening) ∧
      (s.mu.joinWait = none → u.mu.joinWait = none) := by
  let y := (s.latch c .joinFailed).discardLoad.mapMu fun m => { m with failures := m.failures + 1 }
  have hl : inSet y.rs.latched .joinFailed = true := by
    show inSet (s.latch c .joinFailed).rs.latched .joinFailed = true
    simp [latch_latched]
  have hmu : y.mu = { s.mu with roster := none, failures := s.mu.failures + 1 } := by
    rw [← latch_mu s c .joinFailed]
    rfl
  have hsh : y.sa.shares = none := rfl
  have hy : s.failJoin c = if y.mu.failures = 2 then y.enterIsolated c else y.enterListening c false := rfl
  have hf : y.mu.failures = s.mu.failures + 1 := by rw [hmu]
  clear_value y
  rw [hf] at hy
  intro u
  by_cases h2 : s.mu.failures + 1 = 2
  · obtain ⟨l, r, m, h⟩ := enterIsolated_eq y c
    have hu : u = y.enterIsolated c := hy.trans (if_pos h2)
    have hrs : u.rs = y.rs := by rw [hu]; exact enterIsolated_rs y c
    rw [if_pos h2, hrs, hu, h]
    exact ⟨hl, hf, rfl, rfl, rfl, fun _ => rfl⟩
  · have hu : u = y.enterListening c false := hy.trans (if_neg h2)
    rw [if_neg h2, hu]
    exact ⟨hl, hf, hsh, congrArg MuState.roster hmu, rfl, (congrArg MuState.joinWait hmu).trans⟩

/-- The founder's roster: its own entry is LINKED and untimed, and every other is NONE (R36). -/
theorem founder_entry {s : State} {k : Nat} (h : s.mu.roster = some (founderRoster k)) (h1 : 1 ≤ k) (h48 : k ≤ 48) (n : Nat) :
    s.entry n = if n = k then RosterEntry.linkedNow none else .blank := by
  unfold State.entry
  rw [h]
  by_cases h0 : n = 0
  · subst h0
    rw [if_neg (by omega)]
    rfl
  · simp only [h0, if_false, founderRoster, List.getD_eq_getElem?_getD, getElem?_updateAt]
    by_cases hn : n = k
    · subst hn
      have hlt : n - 1 < stationCount := Nat.lt_of_lt_of_le (by omega) h48
      simp [hlt]
    · rw [if_neg hn, if_neg (by omega), List.getElem?_replicate]
      split <;> rfl

/-- What a founding makes of the tables, the membership and the roster (R36, R43). -/
theorem found_founds (s : State) (c : Image) :
    let u := s.found c
    u.mu.membership = .linked ∧ u.sa.shares = some (List.replicate c.pool .free) ∧ u.sa.curtail = some c.pool ∧
      u.sa.claims = [] ∧ u.mu.failures = 0 ∧ u.mu.load = none ∧ u.mu.joinWait = none ∧
      u.mu.presence = some (1000 * c.presence) ∧ u.mu.roster = some (founderRoster c.station) ∧
      (u.slot .status).state.newest = some (.status s.statusValues) ∧ u.slotEmpty .status = false :=
  ⟨rfl, rfl, rfl, rfl, rfl, rfl, rfl, rfl, rfl, writeStatus_newest _,
    (congrArg (·.state.isEmpty) (writeSlot_slot_same ..)).trans (write_not_empty _ _)⟩

/-- What a re-queue makes of the JOIN slot and of the marks (R42). -/
theorem requeueJoin_requeues (s : State) (c : Image) :
    let u := s.requeueJoin c
    u.mu.membership = s.mu.membership ∧ u.mu.joinRecord = [] ∧ u.mu.newlyPopulated = false ∧
      u.mu.populated = (s.mu.populated || s.mu.newlyPopulated) ∧ u.slotEmpty .join = false ∧
      u.mu.failures = s.mu.failures ∧ u.mu.joinWait = s.mu.joinWait :=
  ⟨rfl, rfl, rfl, rfl, (congrArg (·.state.isEmpty) (writeSlot_slot_same ..)).trans (write_not_empty _ _), rfl, rfl⟩

section
variable {s : State} {c : Image}

/-! Table 2-3. -/

theorem judgeJoin_of_populated (h : s.mu.populated = true) : s.judgeJoin c = s.failJoin c := if_pos h

theorem judgeJoin_of_heard (hp : s.mu.populated = false)
    (h : s.mu.newlyPopulated = true ∨ s.mu.joinRecord.head? ≠ some c.station) : s.judgeJoin c = s.requeueJoin c := by
  unfold State.judgeJoin
  rw [hp, if_neg (by decide)]
  split
  · rfl
  · next hn => exact if_neg (h.resolve_left hn)

theorem judgeJoin_of_first (hp : s.mu.populated = false) (hn : s.mu.newlyPopulated = false)
    (h : s.mu.joinRecord.head? = some c.station) : s.judgeJoin c = s.found c := by
  unfold State.judgeJoin
  rw [hp, hn, if_neg (by decide), if_neg (by decide), if_pos h]

end

/-- What a founder shows (R36, R43, R53). -/
theorem found_shows {s : State} {c : Image} (b : State) (hb : b.statusValues = s.statusValues) (h1 : 1 ≤ c.station)
    (h48 : c.station ≤ 48) :
    let u := s.found c
    u.mu.membership = .linked ∧ u.sa.shares = some (List.replicate c.pool .free) ∧
      u.sa.curtail = some c.pool ∧ u.sa.claims = [] ∧ u.mu.failures = 0 ∧ u.mu.load = none ∧
      u.mu.presence = some (1000 * c.presence) ∧ u.slotEmpty .status = false ∧
      (s.ac.activity = .active →
        ((settle c b u).slot .status).state.newest = some (.status (settle c b u).statusValues)) ∧
      u.entryState c.station = .linked ∧ u.rosterUrgency c.station = 0 ∧
      ∀ n, n ≠ c.station → u.entryState n = .none := by
  obtain ⟨hm, hsh, hq, hcl, hf, hl, -, hp, hr, hs, he⟩ := found_founds s c
  have hentry := founder_entry hr h1 h48
  refine ⟨hm, hsh, hq, hcl, hf, hl, hp, he, fun ha => ?_, ?_, ?_, fun n hn => ?_⟩
  · refine settle_status_carries c b hm ?_ (by rw [hs, hb])
    show s.ac.activity ≠ .dormant
    rw [ha]
    decide
  · exact (congrArg RosterEntry.state (hentry _)).trans (by rw [if_pos rfl]; rfl)
  · exact (congrArg RosterEntry.urgency (hentry _)).trans (by rw [if_pos rfl]; rfl)
  · exact (congrArg RosterEntry.state (hentry n)).trans (by rw [if_neg hn]; rfl)

/-- The end of the join wait, by Table 2-3: at state x the timer has run out, and b is the state before. -/
theorem joinWait_decides {x : State} {c : Image} (b : State) (hm : x.mu.membership = .joining) (hw : x.mu.joinWait = none)
    (hb : b.statusValues = x.statusValues) :
    let u := x.judgeJoin c
    u.mu.joinWait = none ∧
      (x.mu.populated = true →
        inSet u.rs.latched .joinFailed = true ∧ u.mu.failures = x.mu.failures + 1 ∧ u.sa.shares = none ∧
        u.mu.roster = none ∧
        u.mu.membership = (if x.mu.failures + 1 = 2 then .isolated else .listening)) ∧
      (x.mu.populated = false →
        x.mu.newlyPopulated = true ∨ x.mu.joinRecord.head? ≠ some c.station →
        u.mu.membership = .joining ∧ u.mu.joinRecord = [] ∧ u.mu.newlyPopulated = false ∧
        u.mu.populated = x.mu.newlyPopulated ∧ u.slotEmpty .join = false ∧ u.mu.failures = x.mu.failures) ∧
      (x.mu.populated = false → x.mu.newlyPopulated = false →
        x.mu.joinRecord.head? = some c.station → 1 ≤ c.station → c.station ≤ 48 →
        u.mu.membership = .linked ∧ u.sa.shares = some (List.replicate c.pool .free) ∧
        u.sa.curtail = some c.pool ∧ u.sa.claims = [] ∧ u.mu.failures = 0 ∧ u.mu.load = none ∧
        u.mu.presence = some (1000 * c.presence) ∧ u.slotEmpty .status = false ∧
        (x.ac.activity = .active →
          ((settle c b u).slot .status).state.newest = some (.status (settle c b u).statusValues)) ∧
        u.entryState c.station = .linked ∧ u.rosterUrgency c.station = 0 ∧
        ∀ n, n ≠ c.station → u.entryState n = .none) := by
  intro u
  obtain ⟨f1, f2, f3, f4, f5, f6⟩ := failJoin_fails x c
  obtain ⟨q1, q2, q3, q4, q5, q6, q7⟩ := requeueJoin_requeues x c
  obtain ⟨-, -, -, -, -, -, n1, -⟩ := found_founds x c
  have hu : u = x.judgeJoin c := rfl
  clear_value u
  refine ⟨?_, fun hp => ?_, fun hp hn => ?_, fun hp hn hh h1 h48 => ?_⟩
  · unfold State.judgeJoin at hu
    split at hu
    · rw [hu]; exact f6 hw
    · split at hu
      · rw [hu]; exact q7.trans hw
      · split at hu
        · rw [hu]; exact n1
        · rw [hu]; exact q7.trans hw
  · rw [hu, judgeJoin_of_populated hp]
    exact ⟨f1, f2, f3, f4, f5⟩
  · rw [hu, judgeJoin_of_heard hp hn]
    exact ⟨q1.trans hm, q2, q3, by rw [q4, hp, Bool.false_or], q5, q6⟩
  · rw [hu, judgeJoin_of_first hp hn hh]
    exact found_shows b hb h1 h48

/-- Settles O57: listening and its holds end in a JOIN, and the join wait and the load timer decide as Table 2-3 says. -/
theorem joiningTimers : Obligations.JoiningTimers := by
  intro s c hc
  refine ⟨fun ht => ⟨_, onRunning_of hc ht _, ?_⟩, fun ht => ⟨_, onRunning_of hc ht _, ?_⟩,
    fun ht => ⟨_, onRunning_of hc ht _, ?_⟩, fun ht => ⟨_, onRunning_of hc ht _, ?_⟩, fun ht => ⟨_, onRunning_of hc ht _, ?_⟩⟩
  · exact ⟨settle_listen .., settle_member .., settle_tables .., fun hm hr hb => settle_join_due c s hm rfl hr hb⟩
  · exact ⟨settle_restartHold .., settle_member .., settle_tables .., fun hm hl hb => settle_join_due c s hm hl rfl hb⟩
  · exact ⟨settle_burstHold .., settle_member .., settle_tables .., fun hm hl hr => settle_join_due c s hm hl hr rfl⟩
  · dsimp only
    let x := s.mapMu fun m => { m with joinWait := none }
    show let u := if s.mu.membership = .joining then x.judgeJoin c else x; _
    by_cases hm : s.mu.membership = .joining
    · rw [if_pos hm]
      obtain ⟨hw, hfail, hagain, hfound⟩ := joinWait_decides (x := x) (c := c) s hm rfl rfl
      refine ⟨hw, fun hno => absurd hm hno, fun _ => hfail, fun _ => hagain, fun _ hp hn hh h1 h48 => ?_⟩
      obtain ⟨g1, g2, g3, g4, g5, g6, g7, g8, g9, g10⟩ := hfound hp hn hh h1 h48
      refine ⟨g1, g2, g3, g4, g5, g6, g7, g8, fun hrest => g9 ?_, g10⟩
      by_contra ha
      exact absurd (hm.symm.trans (hrest ha).1) (by decide)
    · rw [if_neg hm]
      exact ⟨rfl, fun _ => ⟨rfl, rfl⟩, fun hj => absurd hj hm, fun hj => absurd hj hm, fun hj => absurd hj hm⟩
  · dsimp only
    refine ⟨fun hm => ?_, fun hm => ?_⟩
    · rw [if_neg hm]
      exact ⟨rfl, rfl, rfl⟩
    · rw [if_pos hm]
      obtain ⟨h1, h2, h3, h4, h5, -⟩ := failJoin_fails (s.mapMu fun m => { m with load := none }) c
      exact ⟨h1, h2, h3, h4, h5⟩

end Sys2Proof.Machine

namespace Sys2Proof.Machine
open Sys2Proof

/-! ## JOIN outside LINKED (R40 to R44) -/

section
variable {s : State} {c : Image} {a : Arrival} {n pool : Nat}

theorem takeJoin_of_clash (ho : a.own = false) (hn : n = c.station) (hm : s.mu.membership.seesClash = true) :
    s.takeJoin c a n pool = s.isolateFor c .duplicate := if_pos ⟨ho, hn, hm⟩

theorem takeJoin_of_own (ho : a.own = true) (hm : s.mu.membership = .listening ∨ s.mu.membership = .joining) :
    s.takeJoin c a n pool = s.enterJoining c := by
  unfold State.takeJoin
  rw [if_neg (by simp [ho])]
  rcases hm with hm | hm <;> rw [hm] <;> exact if_pos ho

theorem takeJoin_of_other (ho : a.own = false) (hn : n ≠ c.station)
    (hm : s.mu.membership = .listening ∨ s.mu.membership = .joining) : s.takeJoin c a n pool = s.hearJoin n := by
  unfold State.takeJoin
  rw [if_neg fun h => hn h.2.1]
  rcases hm with hm | hm <;> rw [hm] <;> exact if_neg (by simp [ho])

theorem takeJoin_of_deaf (hn : n ≠ c.station)
    (hm : s.mu.membership = .loading ∨ s.mu.membership = .fallback ∨ s.mu.membership = .isolated) :
    s.takeJoin c a n pool = s := by
  unfold State.takeJoin
  rw [if_neg fun h => hn h.2.1]
  rcases hm with hm | hm | hm <;> rw [hm]

end

/-- A running station that is not ISOLATED sees a clash (R44). -/
theorem seesClash_of_running {s : State} {c : Image} (hc : s.running = some c) (hi : s.mu.membership ≠ .isolated) :
    s.mu.membership.seesClash = true := by
  have hd := running_not_down hc
  revert hi hd
  cases s.mu.membership <;> simp [Membership.seesClash]

@[simp] theorem heardFrame_joinRecord (s : State) (c : Image) (f : Frame) :
    (s.heardFrame c f).mu.joinRecord = s.mu.joinRecord :=
  heardFrame_eq s c f (fun x => x.mu.joinRecord) fun _ _ _ _ _ _ _ _ => rfl

/-- What a clash makes of the station (R44). -/
theorem settle_isolateFor (s b : State) (c : Image) (g : Flag) :
    let t := settle c b (s.isolateFor c g)
    t.mu.membership = .isolated ∧ OffTheTables t ∧ inSet t.rs.latched g = true ∧ t.spills = s.spills := by
  have hm : (s.isolateFor c g).mu.membership = .isolated := enterIsolated_membership _ c
  have hleft : LeftTables (s.isolateFor c g) := enterIsolated_leftTables _ c
  refine ⟨(settle_membership ..).trans hm, hleft.settle (by rw [hm]; decide) c b, ?_, ?_⟩
  · rw [settle_latched, isolateFor_latched]
    rfl
  · rw [settle_spills, isolateFor_spills]

/-- Settles O48: outside LINKED the owner of a JOIN does what the membership state says, and nothing follows it. -/
theorem joinHeardAndClash : Obligations.JoinHeardAndClash := by
  intro s c b h ht hlen
  let f := bodyFrame b 5 0
  let x := s.heardFrame c f
  let u := x.takeJoin c (s.arrival c f) b.sender.toNat (numAt b.payload 0)
  have howner : (if f.atLeast 1 && isTank f.sender then u else x) = u := if_pos (by rw [atLeast_of hlen]; exact ht)
  have hexec : exec (.join b) s = .next (settle c s (u.followUp c (s.arrival c f) f (s.concluded c f))) :=
    congrArg Host.Outcome.next ((receive_hears h (fromStation_of_tank ht) _).trans
      (congrArg (fun v => settle c s (State.followUp v c (s.arrival c f) f (s.concluded c f))) howner))
  have hxm : x.mu.membership = s.mu.membership := heardFrame_membership s c f
  have hxt : x.tables = s.tables := heardFrame_tables s c f
  have hxr : x.mu.joinRecord = s.mu.joinRecord := heardFrame_joinRecord s c f
  have hfollow : u.mu.membership ≠ .linked → u.followUp c (s.arrival c f) f (s.concluded c f) = u :=
    fun hu => followUp_unlinked c _ f _ hu rfl
  refine ⟨_, hexec, fun hm hown => ?_, fun hm hfor hne => ?_, fun hm hfor heq => ?_, fun hm hne => ?_⟩
  · have hu : u = x.enterJoining c := takeJoin_of_own (by rw [arrival_own hown]) (by rwa [hxm])
    rw [hfollow (by rw [hu]; exact (nofun : Membership.joining ≠ .linked)), hu]
    refine ⟨settle_membership .., settle_joinWait .., settle_load .., (settle_joinRecord ..).trans ?_⟩
    exact congrArg (· ++ [c.station]) hxr
  · have hu : u = x.hearJoin b.sender.toNat := takeJoin_of_other hfor hne (by rwa [hxm])
    have hul : u.mu.membership = s.mu.membership := (congrArg (·.mu.membership) hu).trans hxm
    rw [hfollow (by rw [hul]; rcases hm with hm | hm <;> rw [hm] <;> decide), settle_membership, settle_burstHold, settle_tables,
      settle_joinRecord, hul, hu]
    exact ⟨rfl, rfl, hxt, congrArg (· ++ [b.sender.toNat]) hxr⟩
  · have hu : u = x.isolateFor c .duplicate :=
      takeJoin_of_clash hfor heq (by rw [hxm]; exact seesClash_of_running h.1 hm)
    have hul : u.mu.membership = .isolated := by rw [hu]; exact enterIsolated_membership _ c
    obtain ⟨h1, h2, h3, h4⟩ := settle_isolateFor x s c .duplicate
    rw [hfollow (by rw [hul]; decide), hu]
    exact ⟨h1, h2, h3, h4.trans (heardFrame_spills s c f)⟩
  · have hu : u = x := takeJoin_of_deaf hne (by rwa [hxm])
    have hul : u.mu.membership = s.mu.membership := (congrArg (·.mu.membership) hu).trans hxm
    rw [hfollow (by rw [hul]; rcases hm with hm | hm | hm <;> rw [hm] <;> decide), settle_membership, settle_tables, hul, hu]
    exact ⟨rfl, hxt⟩

end Sys2Proof.Machine

namespace Sys2Proof.Machine
open Sys2Proof

/-! ## CLEAR (R153) -/

/-- Where every flag whose cause stands is latched, nothing latches (R151). -/
theorem latchStanding_of_latched {s : State} {c : Image} (h : ∀ f, s.standing c f = true → inSet s.rs.latched f = true) :
    s.latchStanding c = s := by
  have hf : ∀ f, s.latchIfStanding c f = s := by
    intro f
    unfold State.latchIfStanding State.latch
    split
    · next hs => exact if_pos (h f hs)
    · rfl
  unfold State.latchStanding
  rw [hf, hf, hf]

/-- Where every flag whose cause stands is latched, the end of a command leaves the latched set. -/
theorem settle_latched_of_latched {s : State} {c : Image} (b : State)
    (h : ∀ f, s.standing c f = true → inSet s.rs.latched f = true) : (settle c b s).rs.latched = s.rs.latched := by
  let y := ((s.recomputeUrgency c).drainStep b c).setValve c
  have hrs : y.rs = s.rs := drainStep_rs _ b c
  have hst : ∀ f, y.standing c f = s.standing c f := fun f => standing_of_frozen c (by
    unfold y
    rw [setValve_frozen, drainStep_frozen, recomputeUrgency_frozen]) f
  have hy : y.latchStanding c = y := latchStanding_of_latched fun f hf => by rw [hrs]; exact h f ((hst f).symm.trans hf)
  unfold settle settleBlocks
  simp only [offer_rs, watchDormancy_rs, statusOnChange_rs, State.runService, (serviceMoves_latched _ _ _).1]
  rw [writeJoinIfDue_rs]
  show (State.controlCalm (y.latchStanding c) c).rs.latched = _
  rw [controlCalm_rs, hy, hrs]

section
variable (u : State) (c : Image) (a : Arrival) {f : Frame} (b : State)

/-- What follows the owner of a frame that is no allocation frame leaves the RS's state, the membership and the activity. -/
theorem followUp_ownPart (hf : f.isAllocation = false) :
    ∃ p, OwnPart (u.mapMu fun m => { m with presence := p }) (u.followUp c a f b) := by
  obtain ⟨p, hp⟩ := restartPresence_eq u c a
  have h : u.ownerDone c a f = u.restartPresence c a := by
    unfold State.ownerDone
    rw [hf]
    rfl
  refine ⟨p, ?_⟩
  unfold State.followUp
  rw [h, hp]
  exact afterFrame_ownPart _ b c

theorem followUp_rs (hf : f.isAllocation = false) : (u.followUp c a f b).rs = u.rs := by
  obtain ⟨p, l, o, r, x, v, h⟩ := followUp_ownPart u c a b hf
  rw [h]
  rfl

theorem followUp_ac (hf : f.isAllocation = false) : (u.followUp c a f b).ac = u.ac := by
  obtain ⟨p, l, o, r, x, v, h⟩ := followUp_ownPart u c a b hf
  rw [h]
  rfl

theorem followUp_standing (hf : f.isAllocation = false) (g : Flag) : (u.followUp c a f b).standing c g = u.standing c g := by
  have ht := followUp_tank u c a f b
  exact standing_congr c (congrArg (fun v => v.2.2.2.1) ht) (congrArg (fun v => v.2.2.2.2.2.1) ht)
    (congrArg (fun v => v.2.2.2.2.2.2.2.2.1) ht) (congrArg RsState.log (followUp_rs u c a b hf)) g

end

/-- The values that a taken CLEAR writes into STATUS (R53, R153). -/
theorem takeClear_status {s : State} {c : Image} {mask : FlagSet} (hmask : s.rs.latched &&& mask ≠ 0)
    (hl : s.mu.membership = .linked) (ha : s.ac.activity ≠ .dormant) :
    ((s.takeClear c mask).slot .status).state.newest =
      some (.status { s.statusValues with latched := (s.takeClear c mask).rs.latched }) := by
  let w := (s.clearFlags mask).latchStanding c
  have hw : s.takeClear c mask = w.statusForChange := if_neg hmask
  have hfrozen : w.frozen = (s.clearFlags mask).frozen := latchStanding_frozen ..
  obtain ⟨hmu, hsrm⟩ := latchStanding_sameWatch (s.clearFlags mask) c
  have hts : w.ts = s.ts := (latchStanding_ts_sa (s.clearFlags mask) c).1
  have hsrm : w.srm = s.srm := hsrm
  have hwl : w.mu.membership = .linked := (congrArg MuState.membership hmu).trans hl
  have hwa : w.ac.activity ≠ .dormant := by
    rw [show w.ac.activity = (s.clearFlags mask).ac.activity from eq_of_frozen (·.ac.activity) (fun _ => rfl) hfrozen]
    exact ha
  have hvalues : w.statusValues = { s.statusValues with latched := w.rs.latched } := by
    unfold State.statusValues
    rw [hts, hsrm]
  rw [hw, statusForChange_rs, ← hvalues]
  unfold State.statusForChange
  rw [if_pos ⟨hwl, hwa⟩]
  exact writeStatus_newest w

/-- A heard frame leaves what stands. -/
theorem heardFrame_standing (s : State) (c : Image) (f : Frame) (g : Flag) : (s.heardFrame c f).standing c g = s.standing c g :=
  standing_congr c (by rw [heardFrame_ts]) (by rw [heardFrame_ts]) (by rw [heardFrame_ts]) (by rw [heardFrame_rs]) g

theorem takeClear_standing (s : State) (c : Image) (mask : FlagSet) (g : Flag) :
    (s.takeClear c mask).standing c g = s.standing c g := by
  have htank : (s.takeClear c mask).tank = s.tank := takeClear_tank ..
  have hspills : (s.takeClear c mask).spills = s.spills := takeClear_spills ..
  exact standing_congr c (congrArg (fun v => v.2.2.2.1) htank) (congrArg (fun v => v.2.2.2.2.2.1) htank)
    (congrArg (fun v => v.2.2.2.2.2.2.2.2.1) htank) (congrArg (fun v => v.2.1) hspills) g

theorem takeClear_activity (s : State) (c : Image) (mask : FlagSet) : (s.takeClear c mask).ac.activity = s.ac.activity := by
  have hw : ∀ w : State, w.statusForChange.ac = w.ac := fun w => by
    unfold State.statusForChange
    split <;> rfl
  unfold State.takeClear
  split
  · rfl
  · rw [hw]
    exact eq_of_frozen (·.ac.activity) (fun _ => rfl) (latchStanding_frozen (s.clearFlags mask) c)

/-- What a CLEAR for this station leaves latched, at once and at the command's end (R151, R153). -/
theorem takeClear_inSet (s : State) (c : Image) (mask : FlagSet) (g : Flag) :
    (inSet (s.takeClear c mask).rs.latched g || (s.takeClear c mask).standing c g) =
      ((inSet s.rs.latched g && !inSet mask g) || s.standing c g) := by
  rw [takeClear_standing]
  by_cases hmask : s.rs.latched &&& mask = 0
  · have hbit : (inSet s.rs.latched g && inSet mask g) = false := by
      have h := congrArg (inSet · g) hmask
      simpa [inSet] using h
    rw [takeClear_none c hmask]
    cases hl : inSet s.rs.latched g with
    | false => rfl
    | true =>
      rw [hl, Bool.true_and] at hbit
      rw [hbit]
      rfl
  · rw [takeClear_latched c hmask, Bool.or_assoc, Bool.or_self]

/-- The command's end after a CLEAR for this station bears in STATUS the values of that moment. -/
theorem settle_takeClear_status {s x v : State} {c : Image} {mask : FlagSet} (hs : x.statusValues = s.statusValues)
    (hmask : x.rs.latched &&& mask ≠ 0) (hl : x.mu.membership = .linked) (ha : x.ac.activity ≠ .dormant)
    (hvl : v.mu.membership = .linked) (hva : v.ac.activity = x.ac.activity) (hrs : v.rs = (x.takeClear c mask).rs)
    (hst : ∀ g, v.standing c g = x.standing c g) (hslot : v.slot .status = (x.takeClear c mask).slot .status) :
    ((settle c s v).slot .status).state.newest = some (.status (settle c s v).statusValues) := by
  have hwritten := takeClear_status hmask hl ha (c := c)
  have hlatched : (settle c s v).rs.latched = (x.takeClear c mask).rs.latched := by
    rw [← hrs]
    refine settle_latched_of_latched s fun g hg => ?_
    rw [hrs, takeClear_latched c hmask, ← hst, hg, Bool.or_true]
  have hva' : v.ac.activity ≠ .dormant := by rwa [hva]
  by_cases hb : s.statusValues = (settle c s v).statusValues
  · refine settle_status_carries c s hvl hva' ?_
    have hsame : (settle c s v).rs.latched = s.statusValues.latched := (congrArg StatusValues.latched hb).symm
    rw [hslot, hwritten, hs, ← hlatched, hsame]
  · exact settle_status_newest c s v hvl hva' hb

/-- What a CLEAR does at the command's end (R151, R153). -/
theorem clearFrame {s : State} {c : Image} {b : FrameBody} (h : Hears s c) (h0 : b.sender.toNat ≠ 0)
    (h63 : b.sender.toNat ≠ 63) (hlen : 2 ≤ b.payload.length) :
    ∃ t, exec (.clear b) s = .next t ∧ t.spills = s.spills ∧ t.tank = s.tank ∧ t.tables = s.tables ∧ t.weather = s.weather ∧
      (isListener b.sender.toNat = true → b.addressee.toNat = c.station → ∀ f,
        inSet t.rs.latched f =
          ((inSet s.rs.latched f && !inSet (halfAt b.payload 0) f) || s.standing c f)) ∧
      (isListener b.sender.toNat = true → b.addressee.toNat = c.station →
        s.rs.latched &&& halfAt b.payload 0 ≠ 0 → s.mu.membership = .linked → s.ac.activity ≠ .dormant →
        (t.slot .status).state.newest = some (.status t.statusValues)) ∧
      (isTank b.sender.toNat = true ∨ b.addressee.toNat ≠ c.station → ∀ f,
        inSet t.rs.latched f = (inSet s.rs.latched f || s.standing c f)) := by
  let f := bodyFrame b 6 3
  let x := s.heardFrame c f
  let mask := halfAt b.payload 0
  let u := if f.atLeast 2 && f.fromListenerTo c.station then x.takeClear c mask else x
  let v := u.followUp c (s.arrival c f) f (s.concluded c f)
  have hrs : v.rs = u.rs := followUp_rs u c _ _ rfl
  have hac : v.ac = u.ac := followUp_ac u c _ _ rfl
  have hst : ∀ g, v.standing c g = u.standing c g := followUp_standing u c _ _ rfl
  obtain ⟨hm, htab⟩ := followUp_keeps (u := u) c (s.arrival c f) (s.concluded c f) (f := f) rfl
  have hxs : ∀ g, x.standing c g = s.standing c g := heardFrame_standing s c f
  have hxrs : x.rs = s.rs := heardFrame_rs s c f
  have hexec : exec (.clear b) s = .next (settle c s v) :=
    congrArg Host.Outcome.next (receive_hears h (fromStation_of_ne h0 h63) _)
  have hviews : u.spills = s.spills ∧ u.tank = s.tank ∧ u.tables = s.tables ∧ u.weather = s.weather := by
    unfold u
    split <;> simp [x]
  obtain ⟨hv1, hv2, hv3, hv4⟩ := hviews
  refine ⟨_, hexec, ?_, ?_, ?_, ?_, fun hl ha g => ?_, fun hl ha hmask hlk hact => ?_, fun hno g => ?_⟩
  · rw [settle_spills, followUp_spills, hv1]
  · rw [settle_tank, followUp_tank, hv2]
  · rw [settle_tables, htab, hv3]
  · rw [settle_weather, followUp_weather, hv4]
  · have hu : u = x.takeClear c mask := if_pos (by rw [atLeast_of hlen, fromListenerTo_of hl ha]; rfl)
    rw [settle_latched, hst, hrs, hu, takeClear_inSet, hxs, hxrs]
  · have hu : u = x.takeClear c mask := if_pos (by rw [atLeast_of hlen, fromListenerTo_of hl ha]; rfl)
    have hxl : x.mu.membership = .linked := (heardFrame_membership s c f).trans hlk
    have hum : u.mu.membership = .linked := by
      rw [hu, membership_of_member (takeClear_member ..), hxl]
    have hvalues : x.statusValues = s.statusValues := by
      unfold State.statusValues
      rw [heardFrame_ts, heardFrame_srm, heardFrame_rs]
    refine settle_takeClear_status (mask := mask) hvalues (by rwa [hxrs]) hxl (by rwa [heardFrame_activity])
      ((membership_of_member hm).trans hum) ?_ (by rw [hrs, hu]) ?_ ?_
    · rw [hac, hu, takeClear_activity]
    · exact fun g => by rw [hst, hu, takeClear_standing]
    · rw [followUp_slot c _ f _ hum (by decide) (by decide) (.inl (by decide)), hu]
  · have hu : u = x := if_neg (by rw [not_fromListenerTo hno, Bool.and_false]; decide)
    rw [settle_latched, hst, hrs, hu, hxs, hxrs]

/-! ## NOTICE (R155, R157, R158) -/

theorem concluded_newsSince (s : State) (c : Image) (f : Frame) : (s.concluded c f).lc.newsSince = s.lc.newsSince := by
  have hr : ∀ (x : State) (i : SlotId), (x.reportEmptied i).lc = x.lc := by
    intro x i
    unfold State.reportEmptied
    split <;> rfl
  unfold State.concluded State.bookkeep State.failFlight
  dsimp only
  repeat' split
  case _ => rfl
  case _ => rfl
  case _ => rfl
  case _ => rfl
  case _ => rw [hr]; rfl
  case _ => rfl

/-- The hearing leaves the line controller but for its slots. -/
theorem hear_lc (s : State) (c : Image) (a : Arrival) (f : Frame) :
    (s.hear c a f).lc.newsSince = s.lc.newsSince ∧ (s.hear c a f).lc.tally = s.lc.tally := by
  unfold State.hear State.hearEntry State.hearPopulated State.hearSilence
  dsimp only
  repeat' split
  all_goals exact ⟨rfl, rfl⟩

theorem heardFrame_newsSince (s : State) (c : Image) (f : Frame) : (s.heardFrame c f).lc.newsSince = s.lc.newsSince :=
  (hear_lc ..).1.trans (concluded_newsSince s c f)

section
variable (x : State) (f : Frame)

/-- What an own NOTICE changes is the log's marks and the news (R157, R158). -/
theorem deliverNotice_eq : ∃ l n, x.deliverNotice f = x.mapRs fun r => { r with log := l, news := n } := by
  unfold State.deliverNotice
  repeat' split
  · exact ⟨_, _, rfl⟩
  · exact ⟨x.rs.log, x.rs.news, rfl⟩
  · exact ⟨_, _, rfl⟩
  · exact ⟨x.rs.log, x.rs.news, rfl⟩
  · exact ⟨x.rs.log, x.rs.news, rfl⟩

theorem deliverNotice_start (h : numAt f.payload 0 = 0) : x.deliverNotice f = x := by
  unfold State.deliverNotice
  rw [h]
  rfl

theorem deliverNotice_closed (h : numAt f.payload 0 = 1) (hl : numAt f.payload 1 = 1) (hlen : f.atLeast 22 = true) :
    x.deliverNotice f = x.mapRs fun r => { r with
      log := announce (halfAt f.payload 2) (BitVec.ofNat 32 (65536 * num16At f.payload 4 + num16At f.payload 6)) r.log } := by
  unfold State.deliverNotice
  rw [h]
  exact if_pos (by rw [hlen, hl]; rfl)

theorem deliverNotice_condition (h : numAt f.payload 0 = 2) (hlen : f.atLeast 5 = true) :
    x.deliverNotice f = x.deliverNews (halfAt f.payload 1) := by
  unfold State.deliverNotice
  rw [h]
  exact if_pos hlen

end

/-- Settles O55: a CLEAR is judged against the causes that stand, and an own NOTICE marks what it delivered. -/
theorem clearAndNoticeFrames : Obligations.ClearAndNoticeFrames := by
  intro s c b h h0 h63
  refine ⟨fun hlen => clearFrame h h0 h63 hlen, ?_⟩
  let f := bodyFrame b 7 4
  let x := s.heardFrame c f
  let u := if (s.arrival c f).own then x.deliverNotice f else x
  let v := u.followUp c (s.arrival c f) f (s.concluded c f)
  have hexec : exec (.notice b) s = .next (settle c s v) :=
    congrArg Host.Outcome.next (receive_hears h (fromStation_of_ne h0 h63) _)
  have hrs : v.rs = u.rs := followUp_rs u c _ _ rfl
  obtain ⟨-, htab⟩ := followUp_keeps (u := u) c (s.arrival c f) (s.concluded c f) (f := f) rfl
  have hxrs : x.rs = s.rs := heardFrame_rs s c f
  have hviews : u.sc = x.sc ∧ u.tank = x.tank ∧ u.tables = x.tables ∧ u.weather = x.weather ∧ u.rs.written = x.rs.written := by
    obtain ⟨l, n, hd⟩ := deliverNotice_eq x f
    unfold u
    split
    · rw [hd]; exact ⟨rfl, rfl, rfl, rfl, rfl⟩
    · exact ⟨rfl, rfl, rfl, rfl, rfl⟩
  obtain ⟨hv0, hv1, hv2, hv3, hv4⟩ := hviews
  refine ⟨v, hexec, ?_, ?_, ?_, ?_, ?_, fun hfor => ?_, fun id hown => ?_⟩
  · rw [show v.sc = u.sc from congrArg Prod.fst (followUp_spills u c _ f _), hv0]
    exact congrArg Prod.fst (heardFrame_spills s c f)
  · exact ((followUp_tank ..).trans hv1).trans (heardFrame_tank s c f)
  · exact (htab.trans hv2).trans (heardFrame_tables s c f)
  · exact ((followUp_weather ..).trans hv3).trans (heardFrame_weather s c f)
  · rw [hrs, hv4, hxrs]
  · have hu : u = x := if_neg (by rw [show (s.arrival c f).own = false from hfor]; decide)
    rw [hrs, hu, hxrs]
    exact ⟨rfl, rfl⟩
  · have hu : u = x.deliverNotice f := if_pos (by rw [arrival_own hown])
    rw [hrs, hu]
    refine ⟨fun h0 => ?_, fun h1 hl hlen => ?_, fun h2 hlen => ?_⟩
    · rw [deliverNotice_start x f h0, hxrs]
      exact ⟨rfl, rfl⟩
    · rw [deliverNotice_closed x f h1 hl (atLeast_of hlen), mapRs_rs, hxrs]
      exact ⟨rfl, rfl⟩
    · rw [deliverNotice_condition x f h2 (atLeast_of hlen)]
      refine ⟨show x.rs.log = s.rs.log by rw [hxrs], fun g => ?_⟩
      rw [inSet_deliverNews, heardFrame_newsSince, hxrs]
      rfl

end Sys2Proof.Machine

namespace Sys2Proof.Machine
open Sys2Proof

/-! ## What the hearing does (R37, R40, R54, R58) -/

section
variable {s : State} {c : Image} {f : Frame}

/-- The last-heard timer of a LINKED sender restarts at a LINKED station (R37). -/
theorem heardFrame_lastHeard_sender (hn : s.isLinked f.sender = true) (hd : f.isDormant = false)
    (hl : s.mu.membership = .linked) (hs : f.sender ≠ c.station) :
    ((s.heardFrame c f).entry f.sender).lastHeard = some (1000 * c.absence) := by
  rw [heardFrame_entry, hd, if_neg (by decide)]
  unfold State.hearEntry
  rw [if_pos hn, entry_mapEntry_of_state (by rw [isLinked_iff.mp hn]; decide)]
  exact if_pos ⟨hl, hs⟩

/-- The parts of the MU that the hearing of another's frame sets (R40, R58). -/
theorem hear_mu (s : State) (c : Image) (a : Arrival) (f : Frame) :
    (s.hear c a f).mu.silence = ((s.hearSilence c a).hearPopulated f).mu.silence ∧
      (s.hear c a f).mu.populated = ((s.hearSilence c a).hearPopulated f).mu.populated ∧
      (s.hear c a f).mu.newlyPopulated = ((s.hearSilence c a).hearPopulated f).mu.newlyPopulated := by
  unfold State.hear State.hearEntry
  dsimp only
  repeat' split
  all_goals exact ⟨rfl, rfl, rfl⟩

theorem hearPopulated_silence (s : State) (f : Frame) : (s.hearPopulated f).mu.silence = s.mu.silence := by
  unfold State.hearPopulated
  (repeat' split) <;> rfl

/-- The silence timer, while it runs, restarts at another's frame (R58). -/
theorem heardFrame_silence (ho : (s.arrival c f).own = false) :
    (s.heardFrame c f).mu.silence = s.mu.silence.map fun _ => 1000 * c.silence := by
  rw [← concluded_mu s c f]
  refine (hear_mu ..).1.trans ((hearPopulated_silence ..).trans ?_)
  unfold State.hearSilence
  rw [ho]
  rfl

/-- A tank station's frame of classes 0 to 5 but a JOIN sets the populated marks (R40). -/
theorem heardFrame_populated (ht : isTank f.sender = true) (hc : f.cls ≤ 5) (hj : ¬ (f.cls = 5 ∧ f.sub = 0)) :
    (s.mu.membership = .listening → (s.heardFrame c f).mu.populated = true) ∧
      (s.mu.membership = .joining → (s.heardFrame c f).mu.newlyPopulated = true) := by
  have hm : ((s.concluded c f).hearSilence c (s.arrival c f)).mu.membership = s.mu.membership := by
    rw [← concluded_mu s c f]
    unfold State.hearSilence
    split <;> rfl
  obtain ⟨-, hp, hn⟩ := hear_mu (s.concluded c f) c (s.arrival c f) f
  refine ⟨fun h => hp.trans ?_, fun h => hn.trans ?_⟩ <;> unfold State.hearPopulated <;>
    rw [if_pos ⟨ht, hc, hj⟩, hm, h] <;> rfl

/-- Nothing of this station's own is on the line. -/
theorem arrival_of_none (hf : s.flight = none) (ho : s.lc.orphan = none) : (s.arrival c f).own = false := by
  unfold State.arrival State.ownOnLine
  rw [hf]
  dsimp only
  rw [ho]

/-- After another's frame nothing restarts the presence timer. -/
theorem followUp_mu_of_foreign {u b : State} {a : Arrival} (ho : a.own = false) (hf : f.isAllocation = false) :
    (u.followUp c a f b).mu = u.mu := by
  have hp : u.restartPresence c a = u := if_neg fun h => by rw [ho] at h; cases h.1
  have h : u.ownerDone c a f = u := by
    unfold State.ownerDone
    rw [hp, hf]
    rfl
  obtain ⟨l, o, r, x, v, he⟩ := afterFrame_ownPart u b c
  unfold State.followUp
  rw [h, he]

/-- After a frame that is no allocation frame every slot stands but those of YIELD and RELEASE. -/
theorem followUp_slot_of_other {u b : State} {a : Arrival} (hf : f.isAllocation = false) {id : SlotId} (h1 : id ≠ .yield)
    (h2 : id ≠ .release) : (u.followUp c a f b).slot id = u.slot id := by
  by_cases hl : u.mu.membership = .linked
  · exact followUp_slot c a f b hl h1 h2 (.inr hf)
  · rw [followUp_unlinked c a f b hl hf]

/-- The class of an own frame is its slot's. -/
theorem ownFrom_cls {id : SlotId} (h : OwnFrom s c f id) : f.cls = slotClass id := by
  obtain ⟨hf, ho⟩ := h
  unfold State.ownOnLine at ho
  rw [hf] at ho
  dsimp only at ho
  unfold State.flyingFrame at ho
  split at ho
  · rw [← Option.some.inj ho]; rfl
  · cases ho

theorem concluded_tally_own {id : SlotId} (h : OwnFrom s c f id) : (s.concluded c f).lc.tally = 0 := by
  unfold State.concluded
  rw [arrival_own h]
  rfl

end

/-! ## Frames that are only heard (R174, R199) -/

/-- What a frame does whose owner does nothing: at state u it has been heard, and what follows has followed. -/
structure OnlyHeard (s : State) (c : Image) (n : Nat) (u : State) : Prop where
  linked : s.isLinked n = true → (u.entry n).dormant = false ∧
    (s.mu.membership = .linked → n ≠ c.station → (u.entry n).lastHeard = some (1000 * c.absence))
  others : ∀ m, m ≠ n → u.entry m = s.entry m
  state : u.entryState n = s.entryState n
  urgency : u.rosterUrgency n = s.rosterUrgency n
  timers : s.flight = none → s.lc.orphan = none →
    u.mu.silence = (s.mu.silence.map fun _ => 1000 * c.silence) ∧ u.mu.presence = s.mu.presence
  pruned : isTank n = true → PrunedFrom .absent [n] (s.slot .absent) (u.slot .absent)
  membership : u.mu.membership = s.mu.membership
  lock : u.mu.lock = s.mu.lock
  tables : u.tables = s.tables
  spills : u.spills = s.spills
  tank : u.tank = s.tank
  weather : u.weather = s.weather
  chip : u.chip = s.chip

section
variable {s : State} {c : Image} {f : Frame}

theorem onlyHeard (hf : f.isAllocation = false) (hd : f.isDormant = false) :
    OnlyHeard s c f.sender ((s.heardFrame c f).followUp c (s.arrival c f) f (s.concluded c f)) := by
  obtain ⟨hm, htab⟩ := followUp_keeps (u := s.heardFrame c f) c (s.arrival c f) (s.concluded c f) hf
  have he := fun n => entry_of_roster (roster_of_member hm) n
  exact {
    linked := fun hn => by
      rw [he]
      exact ⟨heardFrame_dormant_sender c hn hd, fun hl hs => heardFrame_lastHeard_sender hn hd hl hs⟩
    others := fun m hne => (he m).trans (heardFrame_entry_other s c f hne)
    state := (congrArg RosterEntry.state (he _)).trans (heardFrame_entryState s c f _)
    urgency := (congrArg RosterEntry.urgency (he _)).trans (heardFrame_rosterUrgency s c f _)
    timers := fun hfl ho => by
      have hown := arrival_of_none (c := c) (f := f) hfl ho
      rw [followUp_mu_of_foreign hown hf]
      exact ⟨heardFrame_silence hown, heardFrame_eq s c f (fun x => x.mu.presence) fun _ _ _ _ _ _ _ _ => rfl⟩
    pruned := fun ht => by
      rw [followUp_slot_of_other hf (by decide) (by decide)]
      exact heardFrame_pruned c ht
    membership := (membership_of_member hm).trans (heardFrame_membership s c f)
    lock := (lock_of_member hm).trans (heardFrame_lock s c f)
    tables := htab.trans (heardFrame_tables s c f)
    spills := (followUp_spills ..).trans (heardFrame_spills s c f)
    tank := (followUp_tank ..).trans (heardFrame_tank s c f)
    weather := (followUp_weather ..).trans (heardFrame_weather s c f)
    chip := (followUp_chip ..).trans (heardFrame_chip s c f) }

/-- An own reply or notice that nothing follows empties its slot and zeroes the tally (R143, R182). -/
theorem ownReply_ends (hc : f.cls = 7) {id : SlotId} (hown : OwnFrom s c f id) {x : Content}
    (hx : (s.slot id).state = .inFlight x none false) :
    let u := (s.heardFrame c f).followUp c (s.arrival c f) f (s.concluded c f)
    u.slot id = Slot.blank ∧ u.lc.tally = 0 := by
  have hcls : slotClass id = 7 := (ownFrom_cls hown).symm.trans hc
  have hne : id ≠ .absent ∧ id ≠ .yield ∧ id ≠ .release := by
    refine ⟨?_, ?_, ?_⟩ <;> rintro rfl <;> cases hcls
  obtain ⟨ha, hy, hr⟩ := hne
  have hf : f.isAllocation = false := by
    unfold Frame.isAllocation
    rw [hc]
    rfl
  refine ⟨?_, ?_⟩
  · rw [followUp_slot_of_other hf hy hr, heardFrame_slot_other s c f ha, concluded_slot_own hown]
    simp only [Slot.accepted, hx]
  · have hline : ((s.heardFrame c f).followUp c (s.arrival c f) f (s.concluded c f)).line = (s.heardFrame c f).line := by
      unfold State.followUp
      rw [afterFrame_line, ownerDone_line]
    exact (congrArg Prod.fst hline).trans ((hear_lc ..).2.trans (concluded_tally_own hown))

end

/-- What tells the frame of a command that is only heard: it is neither an allocation frame nor a DORMANT, and its class and
sub-kind are those of the command. -/
structure HeardAs (i : Instr) (k : BitVec 3) (b : FrameBody) (f : Frame) : Prop where
  sender : f.sender = b.sender.toNat
  allocation : f.isAllocation = false
  dormant : f.isDormant = false
  populated : i ∈ [Instr.unlistedSubKindFrame 0 k b, .unlistedSubKindFrame 4 k b, .unlistedSubKindFrame 5 k b] →
    f.cls ≤ 5 ∧ ¬ (f.cls = 5 ∧ f.sub = 0)
  reply : ∀ j, (i, j) ∈ [(Instr.record b, 0), (.norec b, 1), (.counts b, 2), (.conditions b, 3)] → f = bodyFrame b 7 j

/-- A command of a frame that is only heard runs an owner that does nothing. -/
theorem heardOnly_exec {s : State} {c : Image} {k : BitVec 3} {b : FrameBody} {i : Instr} (hi : i ∈ heardOnlyCommands k b)
    (h : Hears s c) (h0 : b.sender.toNat ≠ 0) (h63 : b.sender.toNat ≠ 63) :
    ∃ f, HeardAs i k b f ∧
      exec i s = .next (settle c s ((s.heardFrame c f).followUp c (s.arrival c f) f (s.concluded c f))) := by
  have hrun : ∀ cls sub (o : Image → Arrival → State → State),
      (∀ a, o c a (s.heardFrame c (bodyFrame b cls sub)) = s.heardFrame c (bodyFrame b cls sub)) →
      (.next (receive (bodyFrame b cls sub) o s) : Result) =
        .next (settle c s ((s.heardFrame c (bodyFrame b cls sub)).followUp c (s.arrival c (bodyFrame b cls sub))
          (bodyFrame b cls sub) (s.concluded c (bodyFrame b cls sub)))) := fun cls sub o ho => by
    rw [receive_hears h (fromStation_of_ne h0 h63), ho]
  have hshort : ∀ cls sub n, b.payload.length < n → (bodyFrame b cls sub).atLeast n = false := fun cls sub n hn =>
    decide_eq_false (Nat.not_le.mpr hn)
  simp only [heardOnlyCommands, List.mem_append, List.mem_cons, List.not_mem_nil, or_false, List.mem_ite_nil_right] at hi
  rcases hi with (((((rfl | rfl | rfl | rfl | rfl | rfl | rfl | rfl) | ⟨hk, rfl⟩) | ⟨hl, rfl | rfl⟩) | ⟨hl, rfl | rfl⟩) | ⟨hl, rfl⟩)
  case _ => exact ⟨_, ⟨rfl, rfl, rfl, by simp, by simp⟩, hrun 7 0 noOwner fun _ => rfl⟩
  case _ => exact ⟨_, ⟨rfl, rfl, rfl, by simp, by simp⟩, hrun 7 1 noOwner fun _ => rfl⟩
  case _ => exact ⟨_, ⟨rfl, rfl, rfl, by simp, by simp⟩, hrun 7 2 noOwner fun _ => rfl⟩
  case _ => exact ⟨_, ⟨rfl, rfl, rfl, by simp, by simp⟩, hrun 7 3 noOwner fun _ => rfl⟩
  case _ => exact ⟨_, ⟨rfl, rfl, rfl, fun _ => by simp [bodyFrame], by simp⟩, hrun 0 k.toNat noOwner fun _ => rfl⟩
  case _ => exact ⟨_, ⟨rfl, rfl, rfl, fun _ => by simp [bodyFrame], by simp⟩, hrun 4 k.toNat noOwner fun _ => rfl⟩
  case _ => exact ⟨_, ⟨rfl, rfl, rfl, by simp, by simp⟩, hrun 6 k.toNat noOwner fun _ => rfl⟩
  case _ => exact ⟨_, ⟨rfl, rfl, rfl, by simp, by simp⟩, hrun 7 k.toNat noOwner fun _ => rfl⟩
  case _ =>
    have hdormant : (bodyFrame b 5 k.toNat).isDormant = false := by
      unfold Frame.isDormant bodyFrame
      simp
      omega
    have hmarks : ¬ ((bodyFrame b 5 k.toNat).cls = 5 ∧ (bodyFrame b 5 k.toNat).sub = 0) := fun hj => by
      have : k.toNat = 0 := hj.2
      omega
    exact ⟨_, ⟨rfl, rfl, hdormant, fun _ => ⟨Nat.le_refl 5, hmarks⟩, by simp⟩, hrun 5 k.toNat noOwner fun _ => rfl⟩
  case _ =>
    exact ⟨_, ⟨rfl, rfl, rfl, by simp, by simp⟩, hrun 4 k.toNat _ fun _ => if_neg (by
      unfold alertActs
      simp [hshort _ _ _ hl])⟩
  case _ => exact ⟨_, ⟨rfl, rfl, rfl, by simp, by simp⟩, hrun 5 0 _ fun _ => if_neg (by simp [hshort _ _ _ hl])⟩
  case _ => exact ⟨_, ⟨rfl, rfl, rfl, by simp, by simp⟩, hrun 6 1 _ fun _ => if_neg (by simp [hshort _ _ _ hl])⟩
  case _ => exact ⟨_, ⟨rfl, rfl, rfl, by simp, by simp⟩, hrun 6 3 _ fun _ => if_neg (by simp [hshort _ _ _ hl])⟩
  case _ => exact ⟨_, ⟨rfl, rfl, rfl, by simp, by simp⟩, hrun 5 1 _ fun _ => if_neg (by rw [hshort _ _ _ hl]; decide)⟩

/-- Settles O46: the owner of such a frame does nothing, so what shows is the hearing and the slot's bookkeeping. -/
theorem framesThatAreOnlyHeard : Obligations.FramesThatAreOnlyHeard := by
  intro s c k b i hi h h0 h63
  obtain ⟨f, hf, hexec⟩ := heardOnly_exec hi h h0 h63
  have ho := onlyHeard (s := s) (c := c) hf.allocation hf.dormant
  rw [hf.sender] at ho
  refine ⟨_, hexec, ho.linked, ho.others, ho.state, ho.urgency, ho.timers, ho.pruned, fun hmem ht => ?_,
    fun j id g hj hown hx => ?_, ho.membership, ho.lock, ho.tables, ho.spills, ho.tank, ho.weather, ho.chip⟩
  · obtain ⟨hc, hsub⟩ := hf.populated hmem
    obtain ⟨hlisten, hjoin⟩ := heardFrame_populated (s := s) (c := c) (by rwa [hf.sender]) hc hsub
    have hm : ∀ m, s.mu.membership = m → m ≠ .linked →
        (s.heardFrame c f).followUp c (s.arrival c f) f (s.concluded c f) = s.heardFrame c f := fun m hm hne =>
      followUp_unlinked c _ f _ (by rw [heardFrame_membership, hm]; exact hne) hf.allocation
    refine ⟨fun hl => ?_, fun hl => ?_⟩
    · rw [hm _ hl (by decide)]; exact hlisten hl
    · rw [hm _ hl (by decide)]; exact hjoin hl
  · have hfj := hf.reply j hj
    rw [← hfj] at hown
    exact ownReply_ends (by rw [hfj]; rfl) hown hx

end Sys2Proof.Machine

namespace Sys2Proof.Machine
open Sys2Proof

/-! ## No owner makes the line idle -/

section
variable (s : State) (c : Image) (a : Arrival)

theorem isolateFor_idle (g : Flag) : (s.isolateFor c g).lc.idle = s.lc.idle := by
  let w := (s.mapTs fun t => { t with valve := 0 }).latch c g
  have hw : w.leaveTables.lc.idle = s.lc.idle := latch_idle (s.mapTs fun t => { t with valve := 0 }) c g
  exact (emptySlots_idle w.leaveTables c isolatedSlots).trans hw

theorem takeTable_idle (segment : Nat) (f : Frame) : (s.takeTable c a segment f).lc.idle = s.lc.idle := by
  have hburst : (s.hearBurst c segment f).lc.idle = s.lc.idle := by
    unfold State.hearBurst
    (repeat' split) <;> rfl
  have hentry : ∀ x : State, (x.hearEntry c f.sender).lc.idle = x.lc.idle := fun x => by
    unfold State.hearEntry
    split <;> rfl
  have hload : (s.loadSegment c segment f.payload).lc.idle = s.lc.idle := by
    unfold State.loadSegment
    split <;> rfl
  unfold State.takeTable State.takeSegment0 State.takeSegment State.burstAtLinked State.finalSegment State.nextBurst
  dsimp only
  repeat' split
  case _ => exact hburst
  case _ => rfl
  case _ => exact hentry _
  case _ => exact isolateFor_idle s c _
  case _ => exact hburst
  case _ => exact hload
  all_goals rfl

theorem wakeTrigger_idle : (s.wakeTrigger c).lc.idle = s.lc.idle := by
  unfold State.wakeTrigger
  (repeat' split) <;> rfl

theorem takeJoin_idle (n pool : Nat) : (s.takeJoin c a n pool).lc.idle = s.lc.idle := by
  have hm : (s.markJoiner c n).lc.idle = s.lc.idle := by
    have hj : (s.joinShares n).lc.idle = s.lc.idle := by rw [joinShares_lc]
    rw [markJoiner_eq]
    exact hj
  have hb : (s.beginLock c n pool).lc.idle = s.lc.idle := by
    unfold State.beginLock State.startBurst
    dsimp only
    split
    · exact (wakeTrigger_idle _ c).trans hm
    · exact hm
  unfold State.takeJoin State.joinAtLinked
  repeat' split
  case _ => exact isolateFor_idle s c _
  case _ => rfl
  case _ => rfl
  case _ => rfl
  case _ => rfl
  case _ => rfl
  case _ => exact hb
  case _ => rfl

theorem takeAlert_idle (origin zone : Nat) (g : Grade) : (s.takeAlert c a origin zone g).lc.idle = s.lc.idle := by
  have hevent : ∀ x : State, (x.alertEvent c).lc.idle = x.lc.idle := fun x => by
    unfold State.alertEvent State.readinessEvent State.stormFlag State.mapRecord
    dsimp only
    repeat' split
    case _ => exact wakeTrigger_idle _ c
    all_goals rfl
  have hheed : ∀ x : State, (x.heedAlert c g).lc.idle = x.lc.idle := fun x => by
    unfold State.heedAlert
    dsimp only
    split
    · rw [wakeTrigger_idle, hevent]
    · exact hevent x
  have hown : (if a.own then s.ownAlert c g else s).lc.idle = s.lc.idle := by split <;> rfl
  unfold State.takeAlert
  dsimp only
  split
  · rw [hheed]; exact hown
  · exact hown

theorem ownDormant_lc_idle : (s.ownDormant c a).lc.idle = s.lc.idle := by
  have hr : (s.restDrain c).lc.idle = s.lc.idle := by
    unfold State.restDrain State.withdrawIfOut State.requestWithdraw
    dsimp only
    (repeat' split) <;> rfl
  unfold State.ownDormant
  dsimp only
  repeat' split
  case _ => exact hr
  case _ => exact hr
  case _ => rfl

end

/-! ## The owners and the ABSENT slot (R54) -/

/-- The owner of a frame of station n does not make the line idle, and at a station that it leaves LINKED it leaves the
ABSENT slot, or prunes n from it once more. -/
def KeepsAbsent (c : Image) (n : Nat) (o : Image → Arrival → State → State) : Prop :=
  ∀ a x, (o c a x).mu.membership = .linked → (o c a x).lc.idle = x.lc.idle ∧
    ((o c a x).slot .absent = x.slot .absent ∨ (o c a x).slot .absent = (x.slot .absent).prune [n])

section
variable (s : State) (c : Image) (a : Arrival)

theorem takeReclaim_slot_absent (named : List Nat) : (s.takeReclaim named).slot .absent = s.slot .absent := by
  have hlc : ∀ l, (s.reclaimShares l).lc = s.lc := fun l => returnWhere_lc s _
  obtain ⟨r, hr⟩ := clearAll_eq (s.reclaimShares (named.filter fun n => decide (s.entryState n = .absent)))
    (named.filter fun n => decide (s.entryState n = .absent))
  show ((State.clearAll _ _).pruneSlot .reclaim named).slot .absent = _
  rw [pruneSlot_slot_other _ (by decide), hr, mapMu_slot, slot_of_lc (hlc _)]

/-- A TABLE that leaves the station LINKED writes no slot but those of TABLE and STATUS. -/
theorem takeTable_slot (segment : Nat) (f : Frame) {id : SlotId} (h1 : id ≠ .table) (h2 : id ≠ .status)
    (hl : (s.takeTable c a segment f).mu.membership = .linked) : (s.takeTable c a segment f).slot id = s.slot id := by
  have hburst : (s.hearBurst c segment f).slot id = s.slot id := by
    unfold State.hearBurst
    (repeat' split) <;> rfl
  have hentry : ∀ x : State, (x.hearEntry c f.sender).slot id = x.slot id := fun x => by
    unfold State.hearEntry
    split <;> rfl
  have hlinked : ∀ x : State, (x.linkLoaded c).slot id = x.slot id := fun x => writeSlot_slot_other _ h2.symm _
  have hload : (s.loadSegment c segment f.payload).slot id = s.slot id := by
    unfold State.loadSegment
    split
    · rfl
    · rfl
    · rw [hlinked]; rfl
    · rfl
  unfold State.takeTable at hl ⊢
  split
  · exact hburst
  · next hm =>
    rw [hm] at hl
    dsimp only at hl
    split
    · next hseg =>
      rw [if_pos hseg] at hl
      unfold State.takeSegment0 at hl ⊢
      split
      · rfl
      · next hfit =>
        rw [if_neg hfit] at hl
        split
        · exact hentry _
        · next hp =>
          rw [if_neg hp, State.isolateFor, enterIsolated_membership] at hl
          cases hl
    · exact hburst
  · split
    · unfold State.takeSegment
      split
      · exact hload
      · rfl
    · rfl
  · unfold State.burstAtLinked
    split
    · rfl
    · split
      · rfl
      · split
        · unfold State.finalSegment
          dsimp only
          split
          · rw [cancelSlot_slot_other _ h1.symm]; rfl
          · rfl
        · unfold State.nextBurst
          split
          · exact writeSlot_slot_other _ h1.symm _
          · rfl
  · rfl

/-- A JOIN that leaves the station LINKED prunes the joiner, if at all. -/
theorem takeJoin_slot_absent (n pool : Nat) (hl : (s.takeJoin c a n pool).mu.membership = .linked) :
    (s.takeJoin c a n pool).slot .absent = s.slot .absent ∨
      (s.takeJoin c a n pool).slot .absent = (s.slot .absent).prune [n] := by
  have hk : (s.markJoiner c n).slot .absent = (s.slot .absent).prune [n] := by
    rw [markJoiner_eq, mapEntry_slot, pruneSlot_slot_other _ (by decide), pruneSlot_slot_same,
      slot_of_lc (joinShares_lc s n)]
  unfold State.takeJoin at hl ⊢
  split
  · next hclash =>
    rw [if_pos hclash, State.isolateFor, enterIsolated_membership] at hl
    cases hl
  · repeat' split
    case _ => exact .inl rfl
    case _ => exact .inl rfl
    case _ => exact .inl rfl
    case _ => exact .inl rfl
    case _ =>
      unfold State.joinAtLinked
      split
      · exact .inl rfl
      · exact .inr ((beginLock_slot s c n pool (by decide) (by decide) (by decide)).trans hk)
    case _ => exact .inl rfl

theorem alertEvent_slot {id : SlotId} (h1 : id ≠ .dormant) (h2 : id ≠ .status) : (s.alertEvent c).slot id = s.slot id := by
  unfold State.alertEvent State.readinessEvent State.stormFlag State.mapRecord
  dsimp only
  repeat' split
  case _ => exact wakeTrigger_slot _ c h1 h2
  all_goals rfl

theorem takeAlert_slot (origin zone : Nat) (g : Grade) {id : SlotId} (h1 : id ≠ .dormant) (h2 : id ≠ .status) :
    (s.takeAlert c a origin zone g).slot id = s.slot id := by
  have hheed : ∀ x : State, (x.heedAlert c g).slot id = x.slot id := fun x => by
    unfold State.heedAlert
    dsimp only
    split
    · rw [wakeTrigger_slot _ c h1 h2, alertEvent_slot x c h1 h2]
    · exact alertEvent_slot x c h1 h2
  have hown : (if a.own then s.ownAlert c g else s).slot id = s.slot id := by split <;> rfl
  unfold State.takeAlert
  dsimp only
  split
  · rw [hheed]; exact hown
  · exact hown

theorem reassert_idle : (s.reassert a).lc.idle = s.lc.idle := by
  unfold State.reassert
  split <;> rfl

theorem settledReturn_idle (set : List Nat) (n : Nat) (p : Nat → Share → Bool) :
    (if (s.settleOutgoing a set).takesFrom n then (s.settleOutgoing a set).returnWhere p
      else s.settleOutgoing a set).lc.idle = s.lc.idle := by
  split
  · rw [returnWhere_lc, settleOutgoing_lc]
  · rw [settleOutgoing_lc]

theorem deliverNotice_idle (f : Frame) : (s.deliverNotice f).lc.idle = s.lc.idle := by
  obtain ⟨l, n, h⟩ := deliverNotice_eq s f
  rw [h]
  rfl

theorem deliverNotice_slot (f : Frame) (id : SlotId) : (s.deliverNotice f).slot id = s.slot id := by
  obtain ⟨l, n, h⟩ := deliverNotice_eq s f
  rw [h]
  rfl

end

/-- Every command of a tank station's frame but ABSENT has an owner that leaves the ABSENT slot so. -/
theorem tankFrame_exec {segment : BitVec 2} {k : BitVec 3} {b : FrameBody} {i : Instr} {f : Frame} (c : Image)
    (hi : (i, f) ∈ tankFrameCommands segment k b) :
    f.sender = b.sender.toNat ∧ ∃ o, (∀ s, exec i s = .next (receive f o s)) ∧
      (i ≠ .absent b → KeepsAbsent c b.sender.toNat o) := by
  simp only [tankFrameCommands, List.mem_cons, List.not_mem_nil, or_false, Prod.mk.injEq] at hi
  rcases hi with ⟨rfl, rfl⟩ | ⟨rfl, rfl⟩ | ⟨rfl, rfl⟩ | ⟨rfl, rfl⟩ | ⟨rfl, rfl⟩ | ⟨rfl, rfl⟩ | ⟨rfl, rfl⟩ | ⟨rfl, rfl⟩ |
      ⟨rfl, rfl⟩ | ⟨rfl, rfl⟩ | ⟨rfl, rfl⟩ | ⟨rfl, rfl⟩ | ⟨rfl, rfl⟩ | ⟨rfl, rfl⟩ | ⟨rfl, rfl⟩ | ⟨rfl, rfl⟩ <;>
    refine ⟨rfl, _, fun _ => rfl, fun hne a x hl => ?_⟩
  case _ => exact ⟨takeTable_idle .., .inl (takeTable_slot x c a _ _ (by decide) (by decide) hl)⟩
  case _ => exact absurd rfl hne
  case _ =>
    split
    · exact ⟨(HoldsOn.takeReclaim _).idle, .inl (takeReclaim_slot_absent x _)⟩
    · exact ⟨rfl, .inl rfl⟩
  case _ =>
    split
    · exact ⟨settledReturn_idle x a .., .inl (settledReturn_slot x a ..)⟩
    · exact ⟨rfl, .inl rfl⟩
  case _ =>
    split
    · exact ⟨settledReturn_idle x a .., .inl (settledReturn_slot x a ..)⟩
    · exact ⟨rfl, .inl rfl⟩
  case _ => split <;> exact ⟨rfl, .inl rfl⟩
  case _ =>
    rw [lateWithdraw_slot _ _ _ (by decide), lateWithdraw_idle]
    split
    · rw [slot_of_lc (takeClaim_lc ..), takeClaim_lc]
      exact ⟨rfl, .inl rfl⟩
    · exact ⟨rfl, .inl rfl⟩
  case _ =>
    split
    · exact ⟨takeAlert_idle .., .inl (takeAlert_slot x c a _ _ _ (by decide) (by decide))⟩
    · exact ⟨rfl, .inl rfl⟩
  case _ =>
    split at hl
    · next ht => rw [if_pos ht]; exact ⟨takeJoin_idle .., takeJoin_slot_absent x c a _ _ hl⟩
    · next ht => rw [if_neg ht]; exact ⟨rfl, .inl rfl⟩
  case _ =>
    split
    · rw [reassert_slot _ _ (by decide), slot_of_lc (takeStatus_lc ..), reassert_idle, takeStatus_lc]
      exact ⟨rfl, .inl rfl⟩
    · exact ⟨rfl, .inl rfl⟩
  case _ =>
    rw [ownDormant_slot _ c a (by decide) (by decide) (by decide) (by decide), slot_of_lc (markDormant_lc ..),
      ownDormant_lc_idle, markDormant_lc]
    exact ⟨rfl, .inl rfl⟩
  case _ => exact ⟨rfl, .inl rfl⟩
  case _ => exact ⟨rfl, .inl rfl⟩
  case _ => exact ⟨rfl, .inl rfl⟩
  case _ => exact ⟨rfl, .inl rfl⟩
  case _ =>
    split
    · exact ⟨deliverNotice_idle x _, .inl (deliverNotice_slot x _ _)⟩
    · exact ⟨rfl, .inl rfl⟩

/-! ## The presence timer and the pruning of the sender (R53, R54) -/

section
variable {s : State} {c : Image} {f : Frame} {o : Image → Arrival → State → State}

/-- Pruning the same stations twice is pruning them once. -/
theorem prunedFrom_prune_prune (x : Slot) (n : Nat) : PrunedFrom .absent [n] x ((x.prune [n]).prune [n]) := by
  intro set hx
  rw [prune_prune_absent x [n] [n] set hx]
  obtain ⟨hall, hsome⟩ := prunedFrom_absent x ([n] ++ [n]) set hx
  simp only [List.cons_append, List.nil_append, List.mem_cons, List.not_mem_nil, or_false, or_self] at hall hsome ⊢
  exact ⟨hall, hsome⟩

/-- What follows an owner ends a lock, but for the presence timer, and leaves the activity. -/
theorem ownerDone_presence {v : State} (hl : v.mu.membership = .linked) {a : Arrival} (ho : a.own = true) :
    (v.ownerDone c a f).mu.presence = some (1000 * if v.ac.activity = .dormant then c.dormantPresence else c.presence) ∧
      (v.ownerDone c a f).ac = v.ac := by
  have hp : v.restartPresence c a = v.mapMu fun m => { m with presence := some (v.presenceLength c) } := if_pos ⟨ho, hl⟩
  have he : ∀ x : State, (x.endLock c).mu.presence = x.mu.presence ∧ (x.endLock c).ac = x.ac := fun x => by
    unfold State.endLock
    dsimp only
    (repeat' split) <;> exact ⟨rfl, rfl⟩
  rw [ownerDone_linked hl, hp]
  split
  · rw [(he _).1, (he _).2]
    exact ⟨rfl, rfl⟩
  · exact ⟨rfl, rfl⟩

/-- After an own frame the presence timer of a LINKED station has its full length (R53). -/
theorem followUp_presence {v b : State} (hl : v.mu.membership = .linked) {a : Arrival} (ho : a.own = true) :
    (v.followUp c a f b).mu.presence = some (1000 * if v.ac.activity = .dormant then c.dormantPresence else c.presence) ∧
      (v.followUp c a f b).ac = v.ac := by
  obtain ⟨hp, hac⟩ := ownerDone_presence (c := c) (f := f) hl ho
  obtain ⟨l, o', r, x, n, he⟩ := afterFrame_ownPart (v.ownerDone c a f) b c
  unfold State.followUp
  rw [he]
  exact ⟨hp, hac⟩

theorem receive_presence (h : Hears s c) (ht : isTank f.sender = true) (hl : (receive f o s).mu.membership = .linked) :
    ((s.arrival c f).own = true → (receive f o s).mu.presence =
      some (1000 * if (receive f o s).ac.activity = .dormant then c.dormantPresence else c.presence)) ∧
    (KeepsAbsent c f.sender o → PrunedFrom .absent [f.sender] (s.slot .absent) ((receive f o s).slot .absent)) := by
  have hf : f.fromStation = true := by
    have := isTank_iff.mp ht
    simp only [Frame.fromStation, Bool.and_eq_true, Bool.not_eq_true', decide_eq_false_iff_not]
    omega
  rw [receive_hears h hf] at hl ⊢
  generalize ha : s.arrival c f = a at hl ⊢
  let v := o c a (s.heardFrame c f)
  have hvl : v.mu.membership = .linked := by
    rw [settle_membership] at hl
    refine linked_of_ownerDone (c := c) (a := a) (f := f) ((membership_of_member ?_).symm.trans hl)
    exact afterFrame_member ..
  refine ⟨fun ho => ?_, fun hk => ?_⟩
  · obtain ⟨hp, hac⟩ := followUp_presence (c := c) (f := f) (b := s.concluded c f) hvl ho
    rw [settle_presence, settle_activity]
    show (v.followUp c a f _).mu.presence = some (1000 * if (v.followUp c a f _).ac.activity = .dormant then _ else _)
    rw [hp, hac]
  · obtain ⟨hi, hs⟩ := hk a (s.heardFrame c f) hvl
    have hidle : (v.followUp c a f (s.concluded c f)).lc.idle = false := by
      rw [followUp_idle c a f _ hvl]
      exact hi.trans (heardFrame_idle s c f)
    rw [settle_slot c _ _ _ hidle (by decide), followUp_slot c a f _ hvl (by decide) (by decide) (.inl (by decide))]
    rcases hs with hs | hs
    · rw [show v.slot .absent = _ from hs]
      exact heardFrame_pruned c ht
    · intro set hset
      rw [show v.slot .absent = _ from hs, heardFrame_slot_absent _ _ _ ht, concluded_slot_of_pending c f hset]
      exact prunedFrom_prune_prune _ _ set hset

end

/-! ## STATUS (R38, R53, R164) -/

/-- What a STATUS makes of its LINKED sender's entry and of the claim list (R38). -/
theorem setUrgency_sets {s : State} {n : Nat} (hn : s.isLinked n = true) (urgency : Nat) :
    (s.setUrgency n urgency).entry n = { s.entry n with urgency := urgency } ∧
      ∀ m, m ≠ n → (s.setUrgency n urgency).entry m = s.entry m :=
  ⟨entry_mapEntry_of_state (s := s) (by rw [isLinked_iff.mp hn]; decide) fun e => { e with urgency := urgency },
    fun _ hm => entry_mapEntry_other s _ hm⟩

theorem keepsRoster_of {s : State} (hm : s.mu.membership = .linked ∨ s.mu.membership = .loading) :
    s.mu.membership.keepsRoster = true := by
  rcases hm with hm | hm <;> rw [hm] <;> rfl

theorem statusFrame {s : State} {c : Image} {b : FrameBody} (h : Hears s c)
    (hm : s.mu.membership = .linked ∨ s.mu.membership = .loading) (ht : isTank b.sender.toNat = true)
    (hn : s.isLinked b.sender.toNat = true) (hlen : 3 ≤ b.payload.length) :
    ∃ u, exec (.status b) s = .next (settle c s u) ∧
      u.rosterUrgency b.sender.toNat = numAt b.payload 0 % 8 ∧ (u.entry b.sender.toNat).dormant = false ∧
      u.entryState b.sender.toNat = .linked ∧
      (s.mu.membership = .linked → b.sender.toNat ≠ c.station →
        (u.entry b.sender.toNat).lastHeard = some (1000 * c.absence)) ∧
      PrunedFrom .absent [b.sender.toNat] (s.slot .absent) (u.slot .absent) ∧
      (∀ n, n ≠ b.sender.toNat → u.entry n = s.entry n) ∧ u.sa.shares = s.sa.shares ∧
      u.sa.claims.Perm s.sa.claims ∧ ClaimsOrdered u.rosterUrgency u.sa.claims ∧
      (OwnFrom s c (bodyFrame b 5 1) .status → s.ac.activity = .dormant → u.slotEmpty .dormant = false) := by
  let f := bodyFrame b 5 1
  let n := b.sender.toNat
  let g := numAt b.payload 0 % 8
  let a := s.arrival c f
  let x := s.heardFrame c f
  let z := x.setUrgency n g
  let y := z.reassert a
  let u := y.followUp c a f (s.concluded c f)
  have hxn : x.isLinked n = true := (heardFrame_isLinked s c f n).trans hn
  have hxm : x.mu.membership.keepsRoster = true := keepsRoster_of (by rw [heardFrame_membership]; exact hm)
  have howner : (if f.atLeast 3 then (x.takeStatus f.sender g).reassert a else x) = y := by
    rw [if_pos (atLeast_of hlen)]
    exact congrArg (fun v => State.reassert v a) (if_pos ⟨hxm, hxn⟩)
  have hexec : exec (.status b) s = .next (settle c s u) :=
    congrArg Host.Outcome.next ((receive_hears h (fromStation_of_tank ht) _).trans
      (congrArg (fun v => settle c s (State.followUp v c a f (s.concluded c f))) howner))
  obtain ⟨hmem, htab⟩ := followUp_keeps (u := y) c a (s.concluded c f) (f := f) rfl
  have hmem : u.member = z.member := hmem.trans (reassert_member ..)
  have htab : u.tables = z.tables := htab.trans (reassert_tables ..)
  have hentry : ∀ m, u.entry m = z.entry m := fun m => entry_of_roster (roster_of_member hmem) m
  obtain ⟨hsender, hothers⟩ := setUrgency_sets hxn g
  have hurgency : u.rosterUrgency = z.rosterUrgency := funext fun m => congrArg RosterEntry.urgency (hentry m)
  have hslot : ∀ id, id ≠ .yield → id ≠ .release → u.slot id = y.slot id := fun id h1 h2 => followUp_slot_of_other rfl h1 h2
  refine ⟨u, hexec, ?_, ?_, ?_, fun hl hs => ?_, ?_, fun m hmn => ?_, ?_, ?_, ?_, fun hown ha => ?_⟩
  · exact congrArg RosterEntry.urgency ((hentry n).trans hsender)
  · rw [hentry, hsender]
    exact heardFrame_dormant_sender c hn rfl
  · exact (congrArg RosterEntry.state ((hentry n).trans hsender)).trans (isLinked_iff.mp hxn)
  · rw [hentry, hsender]
    exact heardFrame_lastHeard_sender hn rfl hl hs
  · rw [hslot _ (by decide) (by decide), reassert_slot _ _ (by decide)]
    exact heardFrame_pruned (f := f) c ht
  · rw [hentry, hothers m hmn]
    exact heardFrame_entry_other s c f hmn
  · exact (shares_of_tables htab).trans (heardFrame_shares s c f)
  · rw [claims_of_tables htab, ← heardFrame_claims s c f]
    exact setUrgency_claims_perm x n g
  · rw [hurgency, claims_of_tables htab]
    exact setUrgency_ordered x n g
  · have hy : y = z.writeSlot .dormant .dormant :=
      if_pos ⟨by rw [show a = _ from arrival_own hown], (heardFrame_activity s c f).trans ha⟩
    unfold State.slotEmpty
    rw [hslot _ (by decide) (by decide), hy, writeSlot_slot_same]
    exact write_not_empty _ _

/-! ## DORMANT (R38, R162, R163, R167) -/

theorem afterFrame_drain_idle {s : State} (h : s.ts.drain = .idle) (b : State) (c : Image) :
    (s.afterFrame b c).ts.drain = .idle := by
  have hr : ∀ x : State, (x.releaseArrivals c).ts = x.ts := fun x => by
    unfold State.releaseArrivals
    (repeat' split) <;> rfl
  have hj : ∀ x : State, (x.rejoinOutgoing c).ts = x.ts := fun x => by rw [rejoinOutgoing_eq]; rfl
  have hy : ∀ x : State, (x.yieldIfNamed c).ts = x.ts := fun x => by
    unfold State.yieldIfNamed
    (repeat' split) <;> rfl
  have hp : ∀ x : State, (x.parkingRelease c).ts.drain = x.ts.drain := fun _ => rfl
  have hyp : ∀ x : State, (x.yieldAndPark b c).ts.drain = x.ts.drain := fun x => by
    unfold State.yieldAndPark
    repeat' split
    · rfl
    · rw [hy]
    · exact hp x
    · rw [hp, hy]; rfl
    · rw [hy, hp]; rfl
  have hc : ∀ x : State, x.ts.drain = .idle → (x.completeRelease c).ts.drain = .idle := fun x hx => by
    unfold State.completeRelease
    split
    · show (if x.ts.drain = .parked then _ else x.ts).drain = .idle
      rw [hx]
      exact hx
    · exact hx
  unfold State.afterFrame
  split
  · exact hc _ (by rw [hyp, hj, hr]; exact h)
  · exact h

theorem followUp_drain_idle {u : State} (h : u.ts.drain = .idle) (c : Image) (a : Arrival) {f : Frame}
    (hf : f.isAllocation = false) (b : State) : (u.followUp c a f b).ts.drain = .idle := by
  obtain ⟨p, hp⟩ := restartPresence_eq u c a
  have ho : u.ownerDone c a f = u.restartPresence c a := by
    unfold State.ownerDone
    rw [hf]
    rfl
  unfold State.followUp
  exact afterFrame_drain_idle (by rw [ho, hp]; exact h) b c

theorem heardFrame_ac_own {s : State} {c : Image} {f : Frame} {id : SlotId} (h : OwnFrom s c f id) :
    (s.heardFrame c f).ac = s.ac := by
  obtain ⟨_, _, _, _, _, hh⟩ := hear_hears (s.concluded c f) c (s.arrival c f) f
  unfold State.heardFrame
  rw [hh]
  unfold State.concluded
  rw [arrival_own h]
  rfl

theorem slotPending_not_inFlight {s : State} {id : SlotId} (h : s.slotPending id = true) : s.slotInFlight id = false := by
  unfold State.slotPending at h
  unfold State.slotInFlight
  cases hs : (s.slot id).state with
  | pending => rfl
  | _ => rw [hs] at h; cases h

theorem slotPending_not_empty {s : State} {id : SlotId} (h : s.slotPending id = true) : s.slotEmpty id = false := by
  unfold State.slotPending at h
  unfold State.slotEmpty
  cases hs : (s.slot id).state with
  | pending => rfl
  | _ => rw [hs] at h; cases h

/-- A withdraw request leaves no PENDING CLAIM (R30). -/
theorem requestWithdraw_claim {s : State} {c : Image} (h : s.slotPending .claim = true) :
    (s.requestWithdraw c).slotEmpty .claim = true := by
  have hf : s.slotInFlight .claim = false := slotPending_not_inFlight h
  have hc : (s.cancelSlot .claim).slotEmpty .claim = true := cancelSlot_empty hf
  unfold State.requestWithdraw
  rw [h, hf]
  dsimp only
  rw [if_pos rfl, if_neg (by decide)]
  split
  · unfold State.slotEmpty at hc ⊢
    rw [writeSlot_slot_other _ (by decide)]
    exact hc
  · exact hc

/-- The drain that rests for dormancy withdraws its claim (R30, R162). -/
theorem restDrain_claim {s : State} {c : Image} (hd : s.ts.drain ≠ .idle) (hp : s.slotPending .claim = true) :
    (s.restDrain c).slotEmpty .claim = true := by
  have hout : s.hasClaimOut c = true := by
    unfold State.hasClaimOut
    rw [slotPending_not_empty hp]
    exact Bool.or_true _
  have hr : s.restDrain c = (s.requestWithdraw c).stopDrain := by
    unfold State.restDrain State.withdrawIfOut
    rw [if_neg hd, if_pos hout]
  rw [hr]
  exact requestWithdraw_claim hp

theorem enterDormant_shows (x : State) (c : Image) :
    (x.enterDormant c).ac.activity = .dormant ∧ (x.enterDormant c).ts.sampleTimer = some (1000 * c.dormantSample) ∧
      (x.enterDormant c).lc = x.lc := ⟨rfl, rfl, rfl⟩

theorem enterWaking_claim (x : State) (c : Image) : (x.enterWaking c).slot .claim = x.slot .claim :=
  (writeSlot_slot_other _ (by decide) _).trans (cancelSlot_slot_other _ (by decide))

theorem enterWaking_shows (x : State) (c : Image) :
    (x.enterWaking c).ac.activity = .waking ∧ (x.enterWaking c).ac.recovery = some (1000 * c.wakeRecovery) ∧
      (x.enterWaking c).ac.wakeMark = false ∧ (x.enterWaking c).ts.sampleTimer = some (1000 * c.sampleInterval) ∧
      (x.enterWaking c).slotEmpty .status = false := by
  refine ⟨rfl, rfl, rfl, rfl, ?_⟩
  unfold State.slotEmpty State.enterWaking State.writeStatus
  dsimp only
  rw [writeSlot_slot_same]
  exact write_not_empty _ _

/-- The station's own DORMANT takes it into dormancy, and where the wake mark stands on into WAKING (R163, R167). -/
theorem ownDormant_eq {s : State} (c : Image) {a : Arrival} (h : s.dormancyTaken a = true) :
    s.ownDormant c a =
      if s.ac.wakeMark then ((s.restDrain c).enterDormant c).enterWaking c else (s.restDrain c).enterDormant c :=
  if_pos h

theorem ownDormant_claim {s : State} {c : Image} {a : Arrival} (h : s.dormancyTaken a = true)
    (hd : s.ts.drain ≠ .idle) (hp : s.slotPending .claim = true) : (s.ownDormant c a).slotEmpty .claim = true := by
  have hr := restDrain_claim (c := c) hd hp
  rw [ownDormant_eq c h]
  generalize s.restDrain c = x at hr ⊢
  have he : ((x.enterDormant c).slot .claim) = x.slot .claim := slot_of_lc (enterDormant_shows x c).2.2 _
  unfold State.slotEmpty at hr ⊢
  split
  · rw [enterWaking_claim, he]
    exact hr
  · rw [he]
    exact hr

/-- What a DORMANT makes of its LINKED sender's entry (R38, R54). -/
theorem markDormant_marks {s : State} {c : Image} {n : Nat} (hm : s.mu.membership.keepsRoster = true)
    (hn : s.isLinked n = true) :
    (s.markDormant c n).entry n = { s.entry n with
      dormant := true
      lastHeard := if s.mu.membership = .linked ∧ n ≠ c.station then lastHeardLimit c true else (s.entry n).lastHeard } ∧
    (∀ m, m ≠ n → (s.markDormant c n).entry m = s.entry m) ∧ (s.markDormant c n).mu.membership = s.mu.membership ∧
      (s.markDormant c n).ac = s.ac ∧ (s.markDormant c n).ts = s.ts := by
  unfold State.markDormant
  rw [if_pos ⟨hm, hn⟩]
  exact ⟨entry_mapEntry_of_state (by rw [isLinked_iff.mp hn]; decide) _, fun m hmn => entry_mapEntry_other s _ hmn, rfl, rfl, rfl⟩

theorem dormantFrame {s : State} {c : Image} {b : FrameBody} (h : Hears s c)
    (hm : s.mu.membership = .linked ∨ s.mu.membership = .loading) (ht : isTank b.sender.toNat = true)
    (hn : s.isLinked b.sender.toNat = true) :
    ∃ u, exec (.dormant b) s = .next (settle c s u) ∧
      u.rosterUrgency b.sender.toNat = s.rosterUrgency b.sender.toNat ∧
      (u.entry b.sender.toNat).dormant = true ∧ u.entryState b.sender.toNat = .linked ∧
      (s.mu.membership = .linked → b.sender.toNat ≠ c.station →
        (u.entry b.sender.toNat).lastHeard = some (1000 * (3 * c.dormantPresence))) ∧
      PrunedFrom .absent [b.sender.toNat] (s.slot .absent) (u.slot .absent) ∧
      (∀ n, n ≠ b.sender.toNat → u.entry n = s.entry n) ∧ u.tables = s.tables ∧
      (OwnFrom s c (bodyFrame b 5 2) .dormant → s.mu.membership = .linked → s.ac.activity = .active →
        (s.ac.wakeMark = true ∨ s.flightCancelled .dormant = false → u.ts.drain = .idle ∧
          (s.ts.drain ≠ .idle → s.slotPending .claim = true → u.slotEmpty .claim = true)) ∧
        (s.ac.wakeMark = false → s.flightCancelled .dormant = false →
          u.ac.activity = .dormant ∧ u.ts.sampleTimer = some (1000 * c.dormantSample) ∧
          u.mu.presence = some (1000 * c.dormantPresence) ∧ (settle c s u).ts.urgency = 0) ∧
        (s.ac.wakeMark = true →
          u.ac.activity = .waking ∧ u.ac.recovery = some (1000 * c.wakeRecovery) ∧ u.ac.wakeMark = false ∧
          u.ts.sampleTimer = some (1000 * c.sampleInterval) ∧ u.slotEmpty .status = false)) := by
  let f := bodyFrame b 5 2
  let n := b.sender.toNat
  let a := s.arrival c f
  let x := s.heardFrame c f
  let z := x.markDormant c n
  let y := z.ownDormant c a
  let u := y.followUp c a f (s.concluded c f)
  have hxm : x.mu.membership = s.mu.membership := heardFrame_membership s c f
  have hxe : ∀ m, x.entry m = s.entry m := fun m => heardFrame_entry s c f m
  have hxn : x.isLinked n = true := (heardFrame_isLinked s c f n).trans hn
  have hexec : exec (.dormant b) s = .next (settle c s u) :=
    congrArg Host.Outcome.next (receive_hears h (fromStation_of_tank ht) _)
  obtain ⟨hmem, htab⟩ := followUp_keeps (u := y) c a (s.concluded c f) (f := f) rfl
  have hmem : u.member = z.member := hmem.trans (ownDormant_member ..)
  have htab : u.tables = s.tables := ((htab.trans (ownDormant_tables ..)).trans (markDormant_tables ..)).trans (heardFrame_tables s c f)
  obtain ⟨hsender, hothers, hzm, hzac, hzts⟩ := markDormant_marks (keepsRoster_of (by rwa [hxm])) hxn (c := c)
  have hentry : ∀ m, u.entry m = z.entry m := fun m => entry_of_roster (roster_of_member hmem) m
  have hslot : ∀ id, id ≠ .yield → id ≠ .release → u.slot id = y.slot id := fun id h1 h2 => followUp_slot_of_other rfl h1 h2
  refine ⟨u, hexec, ?_, ?_, ?_, fun hl hs => ?_, ?_, fun m hmn => ?_, htab, fun hown hl ha => ?_⟩
  · exact (congrArg RosterEntry.urgency ((hentry n).trans hsender)).trans (show (x.entry n).urgency = (s.entry n).urgency by rw [hxe])
  · exact congrArg RosterEntry.dormant ((hentry n).trans hsender)
  · exact (congrArg RosterEntry.state ((hentry n).trans hsender)).trans (isLinked_iff.mp hxn)
  · exact (congrArg RosterEntry.lastHeard ((hentry n).trans hsender)).trans (if_pos ⟨hxm.trans hl, hs⟩)
  · rw [hslot _ (by decide) (by decide), ownDormant_slot _ _ _ (by decide) (by decide) (by decide) (by decide),
      slot_of_lc (markDormant_lc ..)]
    exact heardFrame_pruned (f := f) c ht
  · rw [hentry, hothers m hmn, hxe]
  · have hown' : a = { own := true, slot := some .dormant, cancelled := s.flightCancelled .dormant } := arrival_own hown
    have hac : z.ac = s.ac := hzac.trans (heardFrame_ac_own hown)
    have hts : z.ts = s.ts := hzts.trans (heardFrame_ts s c f)
    have hzl : z.mu.membership = .linked := hzm.trans (hxm.trans hl)
    have hul : y.mu.membership = .linked := (membership_of_member (ownDormant_member ..)).trans hzl
    have htaken : s.ac.wakeMark = true ∨ s.flightCancelled .dormant = false → z.dormancyTaken a = true := fun hw => by
      unfold State.dormancyTaken
      rw [hown', hzl, hac, ha]
      rcases hw with hw | hw <;> simp [hw]
    have huac : u.ac = y.ac := followUp_ac y c a _ rfl
    have husample : u.ts.sampleTimer = y.ts.sampleTimer := congrArg Prod.fst (followUp_tank y c a f (s.concluded c f))
    refine ⟨fun hw => ?_, fun hw hk => ?_, fun hw => ?_⟩
    · refine ⟨followUp_drain_idle (ownDormant_idle z c a (htaken hw)) c a rfl _, fun hd hp => ?_⟩
      have hclaim : z.slot .claim = s.slot .claim := by
        rw [slot_of_lc (markDormant_lc ..), heardFrame_slot_other s c f (by decide),
          concluded_slot_other c f (slotPending_not_inFlight hp)]
      have hempty := ownDormant_claim (c := c) (htaken hw) (by rwa [hts])
        (show z.slotPending .claim = true by unfold State.slotPending; rw [hclaim]; exact hp)
      unfold State.slotEmpty
      rw [hslot _ (by decide) (by decide)]
      exact hempty
    · have hy : y = (z.restDrain c).enterDormant c :=
        (ownDormant_eq c (htaken (.inr hk))).trans (if_neg (by rw [hac, hw]; decide))
      obtain ⟨hact, hsample, -⟩ := enterDormant_shows (z.restDrain c) c
      rw [← hy] at hact hsample
      obtain ⟨hp, -⟩ := followUp_presence (c := c) (f := f) (b := s.concluded c f) hul (a := a) (by rw [hown'])
      refine ⟨by rw [huac]; exact hact, husample.trans hsample, hp.trans (by rw [if_pos hact]), ?_⟩
      rw [settle_urgency]
      exact if_pos (by rw [huac]; exact hact)
    · have hy : y = ((z.restDrain c).enterDormant c).enterWaking c :=
        (ownDormant_eq c (htaken (.inl hw))).trans (if_pos (by rw [hac, hw]))
      obtain ⟨hact, hrec, hmark, hsample, hstatus⟩ := enterWaking_shows ((z.restDrain c).enterDormant c) c
      rw [← hy] at hact hrec hmark hsample hstatus
      refine ⟨by rw [huac]; exact hact, by rw [huac]; exact hrec, by rw [huac]; exact hmark, husample.trans hsample, ?_⟩
      unfold State.slotEmpty
      rw [hslot _ (by decide) (by decide)]
      exact hstatus

/-- Settles O50: the presence timer and the pruning go with every tank station's frame, and the owners of STATUS and DORMANT
do the rest. -/
theorem presenceFrames : Obligations.PresenceFrames := by
  refine ⟨fun s c segment k b i f hi h ht => ?_, fun s c b _ h hm ht _ _ hn =>
    ⟨fun hlen => statusFrame h hm ht hn hlen, dormantFrame h hm ht hn⟩⟩
  obtain ⟨hsender, o, hexec, hk⟩ := tankFrame_exec c hi
  refine ⟨_, hexec s, fun hl => ?_⟩
  obtain ⟨hp, hpruned⟩ := receive_presence h (by rwa [hsender]) hl
  rw [hsender] at hpruned
  exact ⟨hp, fun hne => hpruned (hk hne)⟩

end Sys2Proof.Machine

namespace Sys2Proof.Machine
open Sys2Proof

/-! ## What a sample leaves of the blocks that do not take it -/

/-- From s to t the spill counter and the record service may have changed, with the notice slots, and nothing else. -/
structure Counted (s t : State) : Prop where
  mu : t.mu = s.mu
  sa : t.sa = s.sa
  ts : t.ts = s.ts
  ac : t.ac = s.ac
  slot : ∀ id, id ∉ noticeSlots → t.slot id = s.slot id

namespace Counted

variable {s t : State}

theorem refl (s : State) : Counted s s := ⟨rfl, rfl, rfl, rfl, fun _ _ => rfl⟩

theorem ite {p : Prop} [Decidable p] {u : State} (h : Counted s t) (k : Counted s u) : Counted s (if p then t else u) := by
  split
  · exact h
  · exact k

section
variable (h : Counted s t)
include h

theorem mapSc (f : ScState → ScState) : Counted s (t.mapSc f) := ⟨h.mu, h.sa, h.ts, h.ac, h.slot⟩

theorem mapRs (f : RsState → RsState) : Counted s (t.mapRs f) := ⟨h.mu, h.sa, h.ts, h.ac, h.slot⟩

theorem mapRecord (f : SpillRecord → SpillRecord) : Counted s (t.mapRecord f) := h.mapSc _

theorem writeNotice (c : Image) {id : SlotId} (hid : id ∈ noticeSlots) (x : Content) : Counted s (t.writeNotice c id x) :=
  h.ite ⟨h.mu, h.sa, h.ts, h.ac, fun j hj =>
    (writeSlot_slot_other t (ne_of_mem_of_not_mem hid hj) x).trans (h.slot j hj)⟩

theorem latch (c : Image) (f : Flag) : Counted s (t.latch c f) := by
  have hmu : (t.latch c f).mu = t.mu ∧ (t.latch c f).sa = t.sa ∧ (t.latch c f).ts = t.ts ∧ (t.latch c f).ac = t.ac := by
    unfold State.latch
    dsimp only
    (repeat' split) <;> exact ⟨rfl, rfl, rfl, rfl⟩
  obtain ⟨hmu, hsa, hts, hac⟩ := hmu
  refine ⟨hmu.trans h.mu, hsa.trans h.sa, hts.trans h.ts, hac.trans h.ac, fun id hid => ?_⟩
  rw [latch_slot c id t f (by rintro rfl; exact hid (by decide))]
  exact h.slot id hid

theorem latchStanding (c : Image) : Counted s (t.latchStanding c) := by
  have hl : ∀ {u : State} (f : Flag), Counted s u → Counted s (u.latchIfStanding c f) := fun f hu => ite (hu.latch c f) hu
  exact hl _ (hl _ (hl _ h))

theorem writeRecord (c : Image) (r : SpillRecord) : Counted s (t.writeRecord c r) := (h.mapRs _).writeNotice c (by decide) _

theorem takeRecord (c : Image) (r : SpillRecord) : Counted s (t.takeRecord c r) := by
  refine ite (h.writeRecord c r) ?_
  split
  · exact ((h.latch c _).mapRs _).writeNotice c (by decide) _
  · exact ((h.latch c _).mapRs _).writeRecord c r

theorem closeEpisode (c : Image) : Counted s (t.closeEpisode c) := by
  unfold State.closeEpisode
  dsimp only
  split
  · exact h.mapSc _
  · exact (h.mapSc _).takeRecord c _

theorem onsetSample (c : Image) (level : Nat) (suspect : Bool) : Counted s (t.onsetSample c level suspect) :=
  ite (((h.mapSc _).mapSc _).writeNotice c (by decide) _) (h.mapSc _)

theorem settleSample (c : Image) : Counted s (t.settleSample c) :=
  ite (ite (((h.mapSc _).mapSc _).closeEpisode c) ((h.mapSc _).mapSc _)) (h.mapSc _)

theorem accrueSample (c : Image) (level : Nat) (suspect : Bool) : Counted s (t.accrueSample c level suspect) :=
  (h.mapRecord _).mapSc _

theorem spillingSample (c : Image) (level : Nat) (suspect : Bool) : Counted s (t.spillingSample c level suspect) := by
  unfold State.spillingSample
  split
  · exact (h.mapSc _).onsetSample c _ _
  · exact h.onsetSample c _ _
  · exact h.accrueSample c _ _
  · exact (h.mapSc _).accrueSample c _ _
  · exact ((h.mapRecord _).mapSc _).accrueSample c _ _

theorem nonSpillingSample (c : Image) (level : Nat) (suspect locked : Bool) :
    Counted s (t.nonSpillingSample c level suspect locked) := by
  unfold State.nonSpillingSample
  dsimp only
  split
  · exact h
  · exact h.mapSc _
  · exact ((h.mapRecord _).mapSc _).settleSample c
  · exact (h.mapRecord _).settleSample c
  · exact h.mapRecord _

theorem unknownSample : Counted s t.unknownSample := by
  unfold State.unknownSample
  split
  · exact h
  · exact h.mapSc _
  · exact h.mapRecord _

theorem spillSample (c : Image) (chamber : Channel) : Counted s (t.spillSample c chamber) := by
  unfold State.spillSample
  split
  · exact h.spillingSample c _ _
  · exact h.nonSpillingSample c _ _ _
  · exact h.unknownSample

end

end Counted

end Sys2Proof.Machine

namespace Sys2Proof.Machine
open Sys2Proof

/-! ## A resting station through the operations (R84, R160, R167) -/

namespace RestRule

variable {s t : State}

/-- The rule sees the membership state, the activity and the drain machine. -/
theorem congr (h : RestRule s) (hm : t.mu.membership = s.mu.membership) (ha : t.ac.activity = s.ac.activity)
    (hd : t.ts.drain = s.ts.drain) : RestRule t := by
  unfold RestRule
  rw [hm, ha, hd]
  exact h

theorem of_active (h : s.ac.activity = .active) : RestRule s := fun hn => absurd h hn

/-- A station off the tables is ACTIVE. -/
theorem active (h : RestRule s) (hm : s.mu.membership ≠ .linked) : s.ac.activity = .active := by
  by_contra ha
  exact hm (h ha).1

theorem ite {p : Prop} [Decidable p] (h : p → RestRule s) (k : ¬ p → RestRule t) : RestRule (if p then s else t) := by
  split
  · next hp => exact h hp
  · next hp => exact k hp

theorem enterFallback (s : State) (c : Image) : RestRule (s.enterFallback c) := by
  obtain ⟨l, r, he⟩ := enterFallback_eq s c
  rw [he]
  exact of_active rfl

theorem takeRestart (s : State) (c : Image) : RestRule (s.takeRestart c) := by
  obtain ⟨l, he, -⟩ := takeRestart_eq s c
  rw [he]
  exact of_active rfl

/-! ### Operations that leave membership, activity and drain machine, or have the machine IDLE -/

section
variable (h : RestRule s)
include h

theorem of_counted {t : State} (k : Counted s t) : RestRule t := h.congr (by rw [k.mu]) (by rw [k.ac]) (by rw [k.ts])

theorem latch (c : Image) (f : Flag) : RestRule (s.latch c f) := h.of_counted ((Counted.refl s).latch c f)

theorem latchStanding (c : Image) : RestRule (s.latchStanding c) := h.of_counted ((Counted.refl s).latchStanding c)

theorem closeEpisode (c : Image) : RestRule (s.closeEpisode c) := h.of_counted ((Counted.refl s).closeEpisode c)

theorem spillSample (c : Image) (chamber : Channel) : RestRule (s.spillSample c chamber) :=
  h.of_counted ((Counted.refl s).spillSample c chamber)

theorem requestWithdraw (c : Image) : RestRule (s.requestWithdraw c) := by
  unfold State.requestWithdraw
  dsimp only
  (repeat' split) <;> exact h

theorem returnWhere (p : Nat → Share → Bool) : RestRule (s.returnWhere p) := by
  unfold State.returnWhere
  (repeat' split) <;> exact h

theorem takeClaim (n urgency field : Nat) : RestRule (s.takeClaim n urgency field) := by
  unfold State.takeClaim State.claimShares
  dsimp only
  (repeat' split) <;> exact h

theorem takeCurtailFrame (c : Image) (q : Nat) : RestRule (s.takeCurtailFrame c q) := by
  unfold State.takeCurtailFrame State.curtailRelease State.takeCurtail
  dsimp only
  (repeat' split) <;> exact h

theorem testClaim (c : Image) : RestRule (s.testClaim c) := by
  refine ite (fun hc => of_active ?_) fun _ => h
  have ha : s.ac.activity = .active := by
    have := hc.2
    unfold State.claimCondition at this
    simp only [Bool.and_eq_true, decide_eq_true_eq] at this
    exact this.1.2
  exact ha

/-- Only an ACTIVE station's machine is not IDLE. -/
theorem active_of_drain (hd : s.ts.drain ≠ .idle) : s.ac.activity = .active := by
  by_contra ha
  exact hd (h ha).2

theorem stopDrain : RestRule s.stopDrain := fun hn => ⟨(h hn).1, rfl⟩

theorem withdrawIfOut (c : Image) : RestRule (s.withdrawIfOut c) := ite (fun _ => h.requestWithdraw c) fun _ => h

theorem failedTank (c : Image) : RestRule (s.failedTank c) := by
  have h1 : RestRule (if (s.holdings c.station).isEmpty then s else s.releaseAll c) := ite (fun _ => h) fun _ => h
  exact (h1.withdrawIfOut c).stopDrain

/-- A machine that is not IDLE is an ACTIVE station's, and an IDLE one starts at an ACTIVE station alone (R76). -/
theorem drainSample (c : Image) : RestRule (s.drainSample c) := by
  refine ite (fun _ => h.failedTank c) fun _ => ?_
  split
  · exact h.testClaim c
  · exact ite (fun _ => (h.requestWithdraw c).stopDrain) fun _ => h
  · next hd =>
    have ha := h.active_of_drain (by simp [hd])
    exact ite (fun _ => withdrawIfOut (s := s.mapTs _) (of_active ha) c) fun _ => h
  · next hd =>
    have ha := h.active_of_drain (by simp [hd])
    exact ite (fun _ => of_active ha) fun _ => h

theorem drainReport (c : Image) : RestRule (s.drainReport c) := by
  have hset : s.ts.drain ≠ .idle → ∀ d, RestRule (s.setDrain d) := fun hd _ => of_active (h.active_of_drain hd)
  unfold State.drainReport State.judgeParked
  dsimp only
  split
  · exact ite (fun _ => h) fun _ => h
  · next hd => exact ite (fun _ => hset (by simp [hd]) _) fun _ => ite (fun _ => h) fun _ => h
  · next hd =>
    have hw : RestRule (s.setDrain .wanting) := hset (by simp [hd]) _
    exact ite (fun _ => h) fun _ => ite (fun _ => hw) fun _ => hw
  · exact ite (fun _ => h.stopDrain) fun _ => ite (fun _ => ite (fun _ => h) fun _ => h) fun _ => h

theorem drainStep (c : Image) (b : State) : RestRule (s.drainStep b c) :=
  ite (fun _ => ite (fun _ => (h.drainReport c).testClaim c) fun _ => h.drainReport c) fun _ => h

/-- The end of a command. -/
theorem settle (c : Image) (b : State) : RestRule (settle c b s) := by
  have hd : RestRule ((s.recomputeUrgency c).drainStep b c) := drainStep (s := s.recomputeUrgency c) h c b
  have hf : ((s.recomputeUrgency c).drainStep b c).frozen = s.frozen := drainStep_frozen ..
  refine hd.congr ?_ ?_ (by rw [(settle_ts_sa c b s).1]; rfl)
  · rw [settle_membership, eq_of_frozen (·.mu.membership) (fun _ => rfl) hf]
  · rw [settle_activity, eq_of_frozen (·.ac.activity) (fun _ => rfl) hf]

/-! ### Activity, rain and readiness -/

theorem enterWaking (c : Image) (ha : s.ac.activity ≠ .active) : RestRule (s.enterWaking c) := fun _ => h ha

theorem wakeTrigger (c : Image) : RestRule (s.wakeTrigger c) := by
  unfold State.wakeTrigger
  split
  · next ha => exact h.enterWaking c (by simp [ha])
  · exact ite (fun _ => h) fun _ => h
  · exact h

theorem evaluateLocal (c : Image) : RestRule (s.evaluateLocal c) := ite (fun _ => h) fun _ => h

theorem alertEvent (c : Image) : RestRule (s.alertEvent c) := by
  unfold State.alertEvent State.readinessEvent
  dsimp only
  split
  · exact ite (fun _ => wakeTrigger (s := s.mapSrm _) h c) fun _ => h
  · exact ite (fun _ => h) fun _ => h
  · exact ite (fun _ => h) fun _ => h
  · exact h

theorem localEvent (c : Image) : RestRule (s.localEvent c) := (h.evaluateLocal c).alertEvent c

theorem makeSample (c : Image) (chamber tank : Channel) : RestRule (s.makeSample c chamber tank) := by
  have h0 : RestRule (s.mapTs fun t => { t with window := none }) := h
  have h1 : RestRule ((s.mapTs fun t => { t with window := none }).keepValues c chamber tank) := ite (fun _ => h0) fun _ => h0
  have h2 := h1.spillSample c chamber
  have h3 := ite (p := wakingSample c chamber = true) (fun _ => h2.wakeTrigger c) fun _ => h2
  exact ite (fun _ => h0) fun _ => drainSample (s := (State.recomputeUrgency _ c).inletSample c chamber) h3 c

/-- The station's own DORMANT finds it LINKED, and its machine IDLE (R84). -/
theorem ownDormant (c : Image) (a : Arrival) : RestRule (s.ownDormant c a) := by
  refine ite (fun ht => ?_) fun _ => h
  have hl : s.mu.membership = .linked := by
    unfold State.dormancyTaken at ht
    simp only [Bool.and_eq_true, decide_eq_true_eq] at ht
    exact ht.1.1.2
  have hm : (s.restDrain c).mu.membership = s.mu.membership := membership_of_member (restDrain_member s c)
  have hd : RestRule ((s.restDrain c).enterDormant c) := fun _ => ⟨hm.trans hl, restDrain_idle s c⟩
  exact ite (fun _ => hd.enterWaking c (by simp [(enterDormant_shows _ c).1])) fun _ => hd

/-! ### Membership -/

theorem enterListening (c : Image) (hold : Bool) (hm : s.mu.membership ≠ .linked) : RestRule (s.enterListening c hold) :=
  of_active (h.active hm)

theorem failJoin (c : Image) (hm : s.mu.membership ≠ .linked) : RestRule (s.failJoin c) := by
  have hl : (s.latch c .joinFailed).ac.activity = .active := (h.latch c .joinFailed).active (by rwa [latch_mu])
  unfold State.failJoin
  dsimp only
  split
  · exact of_active (enterIsolated_leftTables _ c).2.2.2.2
  · exact of_active hl

theorem judgeJoin (c : Image) (hm : s.mu.membership ≠ .linked) : RestRule (s.judgeJoin c) :=
  ite (fun _ => h.failJoin c hm) fun _ => ite (fun _ => h) fun _ => ite (fun _ => of_active (h.active hm)) fun _ => h

theorem endLock (c : Image) : RestRule (s.endLock c) := by
  unfold State.endLock
  dsimp only
  (repeat' split) <;> exact h

theorem spoil (c : Image) : RestRule (s.spoil c) := by
  unfold State.spoil
  split
  · exact h.endLock c
  · next hm => exact of_active (h.active (by simp [hm]))
  · next hm => exact of_active (h.active (by simp [hm]))
  · exact h

theorem takeSegment0 (c : Image) (f : Frame) (hm : s.mu.membership ≠ .linked) : RestRule (s.takeSegment0 c f) := by
  refine ite (fun _ => h) fun _ => ite (fun _ => ?_) fun _ => of_active (enterIsolated_leftTables _ c).2.2.2.2
  exact ite (fun _ => of_active (h.active hm)) fun _ => of_active (h.active hm)

theorem takeSegment (c : Image) (segment : Nat) (f : Frame) (hm : s.mu.membership ≠ .linked) :
    RestRule (s.takeSegment c segment f) := by
  refine ite (fun _ => ?_) fun _ => h
  unfold State.loadSegment
  split <;> exact of_active (h.active hm)

theorem hearBurst (c : Image) (segment : Nat) (f : Frame) : RestRule (s.hearBurst c segment f) :=
  ite (fun _ => h) fun _ => ite (fun _ => h) fun _ => ite (fun _ => h) fun _ => h

theorem burstAtLinked (c : Image) (a : Arrival) (segment : Nat) (f : Frame) : RestRule (s.burstAtLinked c a segment f) := by
  unfold State.burstAtLinked State.finalSegment State.nextBurst
  dsimp only
  (repeat' split) <;> exact h

theorem takeTable (c : Image) (a : Arrival) (segment : Nat) (f : Frame) : RestRule (s.takeTable c a segment f) := by
  unfold State.takeTable
  split
  · exact h.hearBurst c segment f
  · next hm => exact ite (fun _ => h.takeSegment0 c f (by simp [hm])) fun _ => h.hearBurst c segment f
  · next hm => exact ite (fun _ => h.takeSegment c segment f (by simp [hm])) fun _ => h
  · exact h.burstAtLinked c a segment f
  · exact h

theorem foldl {op : State → Nat → State} (ho : ∀ {u : State} (n : Nat), RestRule u → RestRule (op u n)) (l : List Nat) :
    RestRule (l.foldl op s) := by
  induction l generalizing s with
  | nil => exact h
  | cons n l ih => exact ih (ho n h)

theorem takeAbsent (c : Image) (named : List Nat) : RestRule (s.takeAbsent c named) := by
  refine ite (fun _ => enterFallback _ c) fun _ => ?_
  exact foldl h (op := fun t n => t.declareAbsent c n) (fun n hu => hu) _

theorem takeReclaim (named : List Nat) : RestRule (s.takeReclaim named) := by
  have hr := h.returnWhere fun _ x => match x with
    | .stranded n => (named.filter fun n => decide (s.entryState n = .absent)).contains n
    | _ => false
  exact foldl hr (op := fun t n => t.clearEntry n) (fun n hu => hu) _

theorem takeJoin (c : Image) (a : Arrival) (n pool : Nat) : RestRule (s.takeJoin c a n pool) := by
  have hj : s.mu.membership ≠ .linked → RestRule (if a.own then s.enterJoining c else s.hearJoin n) := fun hm =>
    ite (fun _ => of_active (h.active hm)) fun _ => h
  have hs : RestRule (s.joinShares n) := ite (fun _ => returnWhere (s := s.dropClaim n) h _) fun _ => h
  have hl : ∀ l, RestRule ((s.markJoiner c n).mapMu fun m => { m with lock := some l }) := fun _ => hs
  refine ite (fun _ => of_active (enterIsolated_leftTables _ c).2.2.2.2) fun _ => ?_
  split
  · next hm => exact hj (by simp [hm])
  · next hm => exact hj (by simp [hm])
  · exact ite (fun _ => h) fun _ => ite (fun _ => (hl _).wakeTrigger c) fun _ => hl _
  · exact h

theorem takeAlert (c : Image) (a : Arrival) (origin zone : Nat) (g : Grade) : RestRule (s.takeAlert c a origin zone g) := by
  have h1 : RestRule (if a.own then s.ownAlert c g else s) := ite (fun _ => h) fun _ => h
  have h2 : RestRule ((if a.own then s.ownAlert c g else s).mapZone zone (applyAlert g origin)) := h1
  exact ite (fun _ => ite (fun _ => (h2.alertEvent c).wakeTrigger c) fun _ => h2.alertEvent c) fun _ => h2

theorem markDormant (c : Image) (n : Nat) : RestRule (s.markDormant c n) := ite (fun _ => h) fun _ => h

theorem takeStatus (n urgency : Nat) : RestRule (s.takeStatus n urgency) := ite (fun _ => h) fun _ => h

theorem reassert (a : Arrival) : RestRule (s.reassert a) := ite (fun _ => h) fun _ => h

theorem takeQuery (c : Image) (f : Frame) : RestRule (s.takeQuery c f) :=
  ite (fun _ => wakeTrigger (s := s.mapRs _) h c) fun _ => h

theorem acknowledge (c : Image) (sequence : Half) : RestRule (s.acknowledge c sequence) := by
  unfold State.acknowledge
  split
  · exact h.latch c _
  · exact h

theorem takeClear (c : Image) (mask : FlagSet) : RestRule (s.takeClear c mask) := by
  have hl := latchStanding (s := s.clearFlags mask) h c
  exact ite (fun _ => h) fun _ => ite (fun _ => hl) fun _ => hl

theorem deliverNotice (f : Frame) : RestRule (s.deliverNotice f) := by
  obtain ⟨l, n, he⟩ := deliverNotice_eq s f
  rw [he]
  exact h

theorem settleOutgoing (a : Arrival) (set : List Nat) : RestRule (s.settleOutgoing a set) := ite (fun _ => h) fun _ => h

theorem lateWithdraw (c : Image) (a : Arrival) : RestRule (s.lateWithdraw c a) :=
  ite (fun _ => ite (fun _ => h) fun _ => h) fun _ => h

/-! ### The line and the accepted frames -/

theorem failFlight : RestRule s.failFlight := by
  obtain ⟨l, w, k, he⟩ := failFlight_ends s
  rw [he]
  exact h

theorem rewriteNotices (old : State) : RestRule (s.rewriteNotices old) := by
  obtain ⟨l, he⟩ := rewriteNotices_eq s old
  rw [he]
  exact h

theorem emptyAll (c : Image) : RestRule (s.emptyAll c) := by
  obtain ⟨l, he⟩ := emptySlots_eq s c allSlots
  unfold State.emptyAll
  rw [he]
  exact h

theorem lineFault (c : Image) : RestRule (s.lineFault c) := by
  have hl := h.latch c .sendFailed
  unfold State.lineFault
  dsimp only
  split
  case h_5 => exact (hl.emptyAll c).rewriteNotices _
  case h_6 => exact hl
  all_goals exact enterFallback _ c

theorem abortOwn (c : Image) : RestRule (s.abortOwn c) := by
  have h1 : RestRule (s.failFlight.mapLc fun l => { l with tally := l.tally + 1 }) := h.failFlight
  exact ite (fun _ => ite (fun _ => h1.lineFault c) fun _ => h1) fun _ => h.failFlight

theorem busyOwn : RestRule s.busyOwn := by
  unfold State.busyOwn
  dsimp only
  split <;> exact h.failFlight

theorem heardFrame (c : Image) (f : Frame) : RestRule (s.heardFrame c f) := h.congr (by simp) (by simp) (by simp)

theorem ownerDone (c : Image) (a : Arrival) (f : Frame) : RestRule (s.ownerDone c a f) := by
  have h1 : RestRule (s.restartPresence c a) := ite (fun _ => h) fun _ => h
  exact ite (fun _ => h1.spoil c) fun _ => h1

/-- What the SA does after a frame leaves an IDLE machine IDLE. -/
theorem afterFrame (b : State) (c : Image) : RestRule (s.afterFrame b c) := by
  intro hn
  have hd := fun hi => afterFrame_drain_idle (s := s) hi b c
  obtain ⟨l, o, r, x, n, he⟩ := afterFrame_ownPart s b c
  rw [he] at hn hd ⊢
  obtain ⟨hl, hi⟩ := h hn
  exact ⟨hl, hd hi⟩

theorem acceptFrame (c : Image) (f : Frame) {o : Arrival → State → State}
    (ho : RestRule (o (s.arrival c f) (s.heardFrame c f))) : RestRule (acceptFrame c f o s) := by
  refine ite (fun _ => (ho.ownerDone c _ f).afterFrame _ c) fun _ => ?_
  obtain ⟨l, w, k, he⟩ := concluded_ends s c f
  rw [he]
  exact h

end

end RestRule

/-! ## How a command ends -/

/-- The owner of an accepted frame leaves the configuration, and keeps the rule of rest. -/
structure RestOwner (x u : State) : Prop where
  chip : u.chip = x.chip
  rest : RestRule x → RestRule u

/-- How a command has ended from s. Only its inputs, the configuration and the mark of the step window's start have changed;
or the station is reset; or a good load has been taken; or a running station's command has ended on a body that keeps the
rule of rest. -/
inductive Ends (s : State) : State → Prop
  | inputs (l : ClState) (resetHeld : Bool) (tidePin : Tide) (seconds : Word) (fresh : Bool)
      (hl : l.image = s.cl.image ∨ l.image = none) :
      Ends s { s with
        cl := l, resetHeld := resetHeld, tidePin := tidePin, seconds := seconds
        srm := { s.srm with stepFresh := fresh } }
  | reset (t : State) (hmu : t.mu = .reset) (hts : t.ts = .reset) (hac : t.ac = .reset) : Ends s t
  | loaded (c : Image) (hl : s.cl.load = .reading) : Ends s (settle c s (s.goodLoad c))
  | settled (c : Image) (b u : State) (hc : s.running = some c) (hcl : u.cl = s.cl) (hr : RestRule s → RestRule u) :
      Ends s (settle c b u)

namespace Ends

variable {s : State}

theorem refl (s : State) : Ends s s := .inputs s.cl s.resetHeld s.tidePin s.seconds s.srm.stepFresh (.inl rfl)

theorem ite {p : Prop} [Decidable p] {t u : State} (h : p → Ends s t) (k : ¬ p → Ends s u) : Ends s (if p then t else u) := by
  split
  · next hp => exact h hp
  · next hp => exact k hp

theorem onRunning {g : Image → Bool} {body : Image → State} (hc : ∀ c, (body c).chip = s.chip)
    (hr : ∀ c, g c = true → RestRule s → RestRule (body c)) : Ends s (s.onRunning g body) := by
  cases hrun : s.running with
  | none => rw [onRunning_none hrun]; exact refl s
  | some c =>
    rw [onRunning_some hrun]
    exact ite (fun hg => .settled c s _ hrun (cl_of_chip (hc c)) (hr c hg)) fun _ => refl s

theorem receive {f : Frame} {o : Image → Arrival → State → State} (ho : ∀ c a x, RestOwner x (o c a x)) :
    Ends s (receive f o s) :=
  onRunning (fun c => acceptFrame_keeps State.chip c f _ s (by simp) (by simp) (by simp) ((ho c _ _).chip.trans (by simp)))
    fun c _ h => h.acceptFrame c f ((ho c _ _).rest (h.heardFrame c f))

end Ends

namespace RestOwner

variable {x u v : State}

theorem refl (x : State) : RestOwner x x := ⟨rfl, id⟩

theorem ite {p : Prop} [Decidable p] (h : RestOwner x u) (k : RestOwner x v) : RestOwner x (if p then u else v) := by
  split
  · exact h
  · exact k

theorem guarded {p : Prop} [Decidable p] (h : RestOwner x u) : RestOwner x (if p then u else x) := h.ite (refl x)

/-- A return of shares by its owner, once they have left the outgoing set. -/
theorem settledReturn (a : Arrival) (set : List Nat) (n : Nat) (p : Nat → Share → Bool) :
    RestOwner x (if (x.settleOutgoing a set).takesFrom n then (x.settleOutgoing a set).returnWhere p
      else x.settleOutgoing a set) :=
  ite ⟨by simp, fun h => (h.settleOutgoing a set).returnWhere p⟩ ⟨by simp, fun h => h.settleOutgoing a set⟩

end RestOwner

/-- Every command of the table ends in one of these ways. -/
theorem exec_ends {i : Instr} {s t : State} (he : exec i s = .next t) : Ends s t := by
  cases i with
  | powerOn => obtain rfl := Host.Outcome.next.inj he; exact .reset _ rfl rfl rfl
  | supplyBelowThreshold => obtain rfl := Host.Outcome.next.inj he; exact .reset _ rfl rfl rfl
  | resetLinePulse =>
    obtain rfl := Host.Outcome.next.inj he
    exact Ends.ite (fun _ => .reset _ rfl rfl rfl) fun _ => .refl s
  | resetLineRelease =>
    obtain rfl := Host.Outcome.next.inj he
    exact Ends.ite (fun _ => .inputs _ _ _ _ _ (.inr rfl)) fun _ => .refl s
  | configReadAttempt read =>
    obtain rfl := Host.Outcome.next.inj he
    refine Ends.ite (fun ha => ?_) fun _ => .refl s
    have hl : s.cl.load = .reading := by
      simp only [State.attempting, Bool.and_eq_true, decide_eq_true_eq] at ha
      exact ha.1
    unfold State.readAttempt
    split
    · exact Ends.ite (fun _ => .inputs _ _ _ _ _ (.inr rfl)) fun _ => .inputs _ _ _ _ _ (.inl rfl)
    · split
      · exact .inputs _ _ _ _ _ (.inr rfl)
      · exact .loaded _ hl
  | configRetryWaitExpiry => obtain rfl := Host.Outcome.next.inj he; exact .inputs _ _ _ _ _ (.inl rfl)
  | stationSecondsTick =>
    obtain rfl := Host.Outcome.next.inj he
    exact Ends.ite (fun _ => .inputs _ _ _ _ _ (.inl rfl)) fun _ => .refl s
  | tideInputChange level =>
    obtain rfl := Host.Outcome.next.inj he
    let s1 : State := { s with tidePin := level }
    show Ends s (s1.onRunning _ _)
    have hin : Ends s s1 := .inputs s.cl s.resetHeld level s.seconds s.srm.stepFresh (.inl rfl)
    cases hc : s.running with
    | none => rw [onRunning_none (s := s1) hc]; exact hin
    | some c =>
      rw [onRunning_some (s := s1) hc]
      exact Ends.ite (fun _ => .settled c s1 _ hc rfl id) fun _ => hin
  | sensorReply reply =>
    unfold Machine.exec execSensorReply at he
    dsimp only at he
    split at he <;> obtain rfl := Host.Outcome.next.inj he
    · exact .refl s
    · exact .onRunning (by simp) fun c _ h => h.makeSample c _ _
  | lineIdle =>
    obtain rfl := Host.Outcome.next.inj he
    split
    · exact .refl s
    · next c hc => exact .settled c s.lineBusy _ hc rfl id
  | minuteBoundary =>
    obtain rfl := Host.Outcome.next.inj he
    exact .onRunning (by simp) fun c _ h => RestRule.localEvent (s := s.completeBucket) h c
  | rainPulse time =>
    obtain rfl := Host.Outcome.next.inj he
    exact .onRunning (by simp) fun c _ h => (RestRule.localEvent (s := s.countPulse c time) h c).wakeTrigger c
  | tideStateChange => obtain rfl := Host.Outcome.next.inj he; exact .onRunning (by simp) fun _ _ h => h
  | sampleTimerExpiry =>
    obtain rfl := Host.Outcome.next.inj he
    exact .onRunning (by simp [apply_ite State.chip]) fun c _ h =>
      RestRule.ite (p := s.ts.window.isSome = true) (fun _ => h.makeSample c .failed .failed) fun _ => h
  | replyWindowClose =>
    obtain rfl := Host.Outcome.next.inj he
    exact .onRunning (by simp) fun c _ h => h.makeSample c _ _
  | mergeTimerExpiry => obtain rfl := Host.Outcome.next.inj he; exact .onRunning (by simp) fun c _ h => h.closeEpisode c
  | lostArbitration =>
    obtain rfl := Host.Outcome.next.inj he
    exact .onRunning (by simp) fun _ _ h => RestRule.failFlight (s := s.lineBusy) h
  | frameBreakOff =>
    obtain rfl := Host.Outcome.next.inj he
    exact .onRunning (by simp [apply_ite State.chip]) fun c _ h =>
      RestRule.ite (fun _ => RestRule.abortOwn (s := s.lineBusy) h c) fun _ => h
  | frameAbortedOrBusy rx =>
    obtain rfl := Host.Outcome.next.inj he
    exact .onRunning (by simp) fun c _ h => RestRule.failFlight (s := s.endField (s.marksFor c rx)) h
  | ownFrameAborted found =>
    obtain rfl := Host.Outcome.next.inj he
    exact .onRunning (by simp) fun c _ h => RestRule.abortOwn (s := s.endField (s.senderMarks c found)) h c
  | ownFrameBusy =>
    obtain rfl := Host.Outcome.next.inj he
    exact .onRunning (by simp) fun _ _ h => RestRule.busyOwn (s := s.endField .clear) h
  | busyBackoffExpiry slot => obtain rfl := Host.Outcome.next.inj he; exact .onRunning (by simp) fun _ _ h => h
  | claimSpacingExpiry => obtain rfl := Host.Outcome.next.inj he; exact .onRunning (by simp) fun _ _ h => h
  | table segment b =>
    obtain rfl := Host.Outcome.next.inj he
    exact .receive fun c a x => ⟨by simp, fun h => h.takeTable c a _ _⟩
  | absent b =>
    obtain rfl := Host.Outcome.next.inj he
    exact .receive fun c a x => .guarded ⟨by simp, fun h => h.takeAbsent c _⟩
  | reclaim b =>
    obtain rfl := Host.Outcome.next.inj he
    exact .receive fun c a x => .guarded ⟨by simp, fun h => h.takeReclaim _⟩
  | curtail b =>
    obtain rfl := Host.Outcome.next.inj he
    exact .receive fun c a x => .guarded ⟨by simp, fun h => h.takeCurtailFrame c _⟩
  | yield b => obtain rfl := Host.Outcome.next.inj he; exact .receive fun c a x => .guarded (.settledReturn a _ _ _)
  | release b => obtain rfl := Host.Outcome.next.inj he; exact .receive fun c a x => .guarded (.settledReturn a _ _ _)
  | withdraw b => obtain rfl := Host.Outcome.next.inj he; exact .receive fun c a x => .guarded ⟨by simp, id⟩
  | claim sub b =>
    obtain rfl := Host.Outcome.next.inj he
    exact .receive fun c a x => ⟨by simp [apply_ite State.chip], fun h =>
      (RestRule.ite (fun _ => h.takeClaim _ _ _) fun _ => h).lateWithdraw c a⟩
  | alert sub b =>
    obtain rfl := Host.Outcome.next.inj he
    exact .receive fun c a x => .guarded ⟨by simp, fun h => h.takeAlert c a _ _ _⟩
  | join b =>
    obtain rfl := Host.Outcome.next.inj he
    exact .receive fun c a x => .guarded ⟨by simp, fun h => h.takeJoin c a _ _⟩
  | status b =>
    obtain rfl := Host.Outcome.next.inj he
    exact .receive fun c a x => .guarded ⟨by simp, fun h => (h.takeStatus _ _).reassert a⟩
  | dormant b =>
    obtain rfl := Host.Outcome.next.inj he
    exact .receive fun c a x => ⟨by simp, fun h => (h.markDormant c _).ownDormant c a⟩
  | query b =>
    obtain rfl := Host.Outcome.next.inj he
    refine .onRunning (fun c => ?_) fun c _ h => RestRule.ite
      (fun _ => RestRule.failFlight (s := s.endField { abort := false, busy := true }) h)
      fun _ => h.acceptFrame c _ ((h.heardFrame c _).takeQuery c _)
    rw [apply_ite State.chip, acceptFrame_keeps State.chip c _ _ s (by simp) (by simp) (by simp) (by simp)]
    simp
  | recack b =>
    obtain rfl := Host.Outcome.next.inj he
    exact .receive fun c a x => .guarded ⟨by simp, fun h => h.acknowledge c _⟩
  | period b => obtain rfl := Host.Outcome.next.inj he; exact .receive fun c a x => .guarded ⟨by simp, id⟩
  | clear b =>
    obtain rfl := Host.Outcome.next.inj he
    exact .receive fun c a x => .guarded ⟨by simp, fun h => h.takeClear c _⟩
  | restart b =>
    obtain rfl := Host.Outcome.next.inj he
    exact .receive fun c a x => .guarded ⟨by simp, fun _ => .takeRestart x c⟩
  | record b => obtain rfl := Host.Outcome.next.inj he; exact .receive fun c a x => .refl x
  | norec b => obtain rfl := Host.Outcome.next.inj he; exact .receive fun c a x => .refl x
  | counts b => obtain rfl := Host.Outcome.next.inj he; exact .receive fun c a x => .refl x
  | conditions b => obtain rfl := Host.Outcome.next.inj he; exact .receive fun c a x => .refl x
  | unlistedSubKindFrame cls sub b => obtain rfl := Host.Outcome.next.inj he; exact .receive fun c a x => .refl x
  | notice b =>
    obtain rfl := Host.Outcome.next.inj he
    exact .receive fun c a x => .guarded ⟨by simp, fun h => h.deliverNotice _⟩
  | listenTimerExpiry => obtain rfl := Host.Outcome.next.inj he; exact .onRunning (by simp) fun _ _ h => h
  | restartHoldExpiry => obtain rfl := Host.Outcome.next.inj he; exact .onRunning (by simp) fun _ _ h => h
  | burstHoldExpiry => obtain rfl := Host.Outcome.next.inj he; exact .onRunning (by simp) fun _ _ h => h
  | joinWaitExpiry =>
    obtain rfl := Host.Outcome.next.inj he
    refine .onRunning (by simp [apply_ite State.chip]) fun c _ h => RestRule.ite (fun hm => ?_) fun _ => h
    exact RestRule.judgeJoin (s := s.mapMu fun m => { m with joinWait := none }) h c (by simp [hm])
  | loadTimerExpiry =>
    obtain rfl := Host.Outcome.next.inj he
    refine .onRunning (by simp [apply_ite State.chip]) fun c _ h => RestRule.ite (fun hm => ?_) fun _ => h
    exact RestRule.failJoin (s := s.mapMu fun m => { m with load := none }) h c (by simp [hm])
  | lockTimerExpiry => obtain rfl := Host.Outcome.next.inj he; exact .onRunning (by simp) fun c _ h => h.endLock c
  | lastHeardExpiry station => obtain rfl := Host.Outcome.next.inj he; exact .onRunning (by simp) fun _ _ h => h
  | strandingTimerExpiry station => obtain rfl := Host.Outcome.next.inj he; exact .onRunning (by simp) fun _ _ h => h
  | silenceTimerExpiry =>
    obtain rfl := Host.Outcome.next.inj he
    exact .onRunning (by simp) fun c _ _ => .enterFallback s c
  | quietTimerExpiry =>
    obtain rfl := Host.Outcome.next.inj he
    refine .onRunning (by simp) fun c hg h => ?_
    simp only [Bool.and_eq_true, decide_eq_true_eq] at hg
    exact RestRule.enterListening (s := s.mapMu fun m => { m with quiet := none }) h c false (by simp [hg.2])
  | presenceTimerExpiry => obtain rfl := Host.Outcome.next.inj he; exact .onRunning (by simp) fun _ _ h => h
  | refreshTimerExpiry => obtain rfl := Host.Outcome.next.inj he; exact .onRunning (by simp) fun _ _ h => h
  | alertAgeExpiry zone =>
    obtain rfl := Host.Outcome.next.inj he
    exact .onRunning (by simp [apply_ite State.chip]) fun c _ h =>
      RestRule.ite (fun _ => RestRule.alertEvent (s := s.mapZone zone _) h c) fun _ => h
  | stepWindowExpiry => obtain rfl := Host.Outcome.next.inj he; exact .onRunning (by simp) fun _ _ h => h
  | calmTimerExpiry => obtain rfl := Host.Outcome.next.inj he; exact .onRunning (by simp) fun _ _ h => h
  | parkTimerExpiry => obtain rfl := Host.Outcome.next.inj he; exact .onRunning (by simp) fun _ _ h => h
  | dormancyDelayExpiry => obtain rfl := Host.Outcome.next.inj he; exact .onRunning (by simp) fun _ _ h => h
  | wakeRecoveryExpiry =>
    obtain rfl := Host.Outcome.next.inj he
    exact .onRunning (by simp) fun _ _ _ => .of_active rfl

/-- A step is the passing of a ms or a command. -/
theorem step_ends {s t : State} (h : step s = .next t) :
    t = s.elapse ∨ ∃ x, Ends x t ∧ ∃ p, x = { s with pending := p } := by
  unfold step at h
  split at h
  · exact .inl (Host.Outcome.next.inj h).symm
  · exact .inr ⟨_, exec_ends h, _, rfl⟩

end Sys2Proof.Machine

namespace Sys2Proof.Machine
open Sys2Proof

/-! ## The valve (R85) -/

namespace ValveRule

/-- The rule sees the membership state, the activity, the drain machine with its valve, and the own holdings. -/
theorem congr {s t : State} (h : ValveRule s) (hr : ∀ c, t.running = some c → s.running = some c) (hm : t.mu = s.mu)
    (ht : t.ts = s.ts) (hs : t.sa = s.sa) (ha : t.ac = s.ac) : ValveRule t := by
  obtain ⟨hshut, hopen⟩ := h
  have hk : ∀ c, t.keptHoldings c = s.keptHoldings c := fun c => by
    unfold State.keptHoldings State.holdings
    rw [hs]
  refine ⟨?_, fun c hc => ?_⟩
  · rw [hm, ht, ha]
    exact hshut
  · rw [hm, ht, ha, hk]
    exact hopen c (hr c hc)

/-- The commanded position is what the rule asks for. -/
theorem of_valveNow {s : State} {c : Image} (hv : s.ts.valve = s.valveNow c) (hc : ∀ c', s.running = some c' → c' = c) :
    ValveRule s := by
  unfold State.valveNow at hv
  refine ⟨fun hn => ?_, fun c' hr hl ha hd => ?_⟩
  · rw [hv, if_neg]
    rintro ⟨hl, ha, hd⟩
    rcases hn with hn | hn | hn <;> contradiction
  · obtain rfl := hc c' hr
    rw [hv, if_pos ⟨hl, ha, hd⟩]

end ValveRule

/-- The end of a command commands the position that its result calls for. -/
theorem settle_valve (c : Image) (b s : State) : (settle c b s).ts.valve = (settle c b s).valveNow c := by
  have hf : ((s.recomputeUrgency c).drainStep b c).frozen = s.frozen := drainStep_frozen ..
  have hm := eq_of_frozen (·.mu.membership) (fun _ => rfl) hf
  have ha := eq_of_frozen (·.ac.activity) (fun _ => rfl) hf
  obtain ⟨hts, hsa⟩ := settle_ts_sa c b s
  unfold State.valveNow State.keptHoldings State.holdings
  rw [hts, hsa, settle_membership, settle_activity, ← hm, ← ha]
  rfl

/-- A station that runs after a change of its inputs ran before it, under the same image. -/
theorem running_of_inputs {s t : State} (hm : t.mu = s.mu) (hl : t.cl.image = s.cl.image ∨ t.cl.image = none) (c : Image)
    (hc : t.running = some c) : s.running = some c := by
  have hi := running_image hc
  rcases hl with hl | hl
  · exact running_iff.mpr ⟨hm ▸ running_not_down hc, hl ▸ hi⟩
  · rw [hl] at hi
    cases hi

/-- The end of a command sets the valve; a reset shuts it; and nothing else that the rule sees changes. -/
theorem Ends.valveRule {s t : State} (h : Ends s t) (hv : ValveRule s) : ValveRule t := by
  cases h with
  | inputs l r pin n f hl => exact hv.congr (running_of_inputs rfl hl) rfl rfl rfl rfl
  | reset _ hmu hts =>
    refine ⟨fun _ => by rw [hts]; rfl, fun c hc => ?_⟩
    exact absurd (by rw [hmu]; rfl) (running_not_down hc)
  | loaded c => exact .of_valveNow (settle_valve c _ _) fun _ => settle_running rfl _
  | settled c b u hc hcl =>
    exact .of_valveNow (settle_valve c b u) fun _ => settle_running (by rw [hcl]; exact running_image hc) b

/-- Settles O4, by the ways in which a step can end. -/
theorem valveRuleKept : Obligations.ValveRuleKept := by
  intro s t hv h
  rcases step_ends h with rfl | ⟨x, hx, p, rfl⟩
  · obtain ⟨a, f, he⟩ := elapse_eq s
    rw [he]
    exact hv.congr (fun _ hc => hc) rfl rfl rfl rfl
  · exact hx.valveRule hv

end Sys2Proof.Machine

namespace Sys2Proof.Machine
open Sys2Proof

/-! ## What the end of a command leaves of the activity (R160, R162) -/

section
variable (s b : State) (c : Image)

theorem drainStep_ac : (s.drainStep b c).ac = s.ac := by
  have hr : (s.drainReport c).ac = s.ac := by
    unfold State.drainReport State.judgeParked
    dsimp only
    (repeat' split) <;> rfl
  have ht : ∀ x : State, (x.testClaim c).ac = x.ac := fun x => by
    unfold State.testClaim
    split <;> rfl
  unfold State.drainStep
  dsimp only
  repeat' split
  · exact (ht _).trans hr
  · exact hr
  · rfl

theorem latchStanding_ac : (s.latchStanding c).ac = s.ac := by
  have hl : ∀ (x : State) (f : Flag), (x.latchIfStanding c f).ac = x.ac := fun x f => by
    unfold State.latchIfStanding State.latch
    dsimp only
    (repeat' split) <;> rfl
  exact (hl _ .logHigh).trans ((hl _ .tideLocked).trans (hl s .sensorFault))

theorem writeReplies_ac (n : Nat) (ids : List SlotId) (rs : List Reply) : (s.writeReplies n ids rs).ac = s.ac := by
  induction ids generalizing s rs with
  | nil => rfl
  | cons id ids ih =>
    cases rs with
    | nil => rfl
    | cons r rs => exact ih (s.writeSlot id _) rs

theorem serviceMove_ac : (s.serviceMove c).ac = s.ac := by
  unfold State.serviceMove
  repeat' split
  · rfl
  · rfl
  · rfl
  · exact writeReplies_ac ..

theorem runService_ac : (s.runService c).ac = s.ac := by
  have hn : ∀ (n : Nat) (x : State), (x.serviceMoves c n).ac = x.ac := by
    intro n
    induction n with
    | zero => exact fun _ => rfl
    | succ n ih => exact fun x => (ih _).trans (serviceMove_ac x c)
  exact hn _ s

theorem controlCalm_ac : (s.controlCalm c).ac = s.ac := by
  unfold State.controlCalm
  (repeat' split) <;> rfl

theorem writeJoinIfDue_ac : (s.writeJoinIfDue c).ac = s.ac := by
  unfold State.writeJoinIfDue
  split <;> rfl

theorem reported_ac : (s.reported b c).ac = s.ac := by
  unfold State.reported
  rw [runService_ac, writeJoinIfDue_ac]
  show (State.controlCalm _ c).ac = _
  rw [controlCalm_ac, latchStanding_ac]
  exact drainStep_ac _ b c

theorem statusOnChange_ac : (s.statusOnChange b).ac = s.ac := by
  unfold State.statusOnChange State.statusForChange
  (repeat' split) <;> rfl

theorem offer_ac (fresh : Bool) : (s.offer c fresh).ac = s.ac := by
  unfold State.offer State.offerIfStillIdle State.startFlight
  (repeat' split) <;> rfl

theorem offer_ts (fresh : Bool) : (s.offer c fresh).ts = s.ts := by
  unfold State.offer State.offerIfStillIdle State.startFlight
  (repeat' split) <;> rfl

theorem watchDormancy_ts : (s.watchDormancy c).ts = s.ts := by
  unfold State.watchDormancy
  dsimp only
  (repeat' split) <;> rfl

end

/-! ## The flight that is to take the station into dormancy (R162, R164) -/

section
variable {s t : State}

theorem enteringInFlight_iff : s.enteringInFlight = true ↔
    s.slotInFlight .dormant = true ∧ (s.flightCancelled .dormant = false ∨ s.ac.wakeMark = true) := by
  unfold State.enteringInFlight
  simp

theorem enteringInFlight_congr (hs : t.slot .dormant = s.slot .dormant) (hw : t.ac.wakeMark = s.ac.wakeMark) :
    t.enteringInFlight = s.enteringInFlight := by
  unfold State.enteringInFlight State.slotInFlight State.flightCancelled
  rw [hs, hw]

theorem slotInFlight_of_cancelled {id : SlotId} (h : s.flightCancelled id = true) : s.slotInFlight id = true := by
  unfold State.flightCancelled at h
  unfold State.slotInFlight
  split at h
  · next hs => rw [hs]; rfl
  · cases h

theorem flightCancelled_cancelSlot {id : SlotId} (h : s.slotInFlight id = true) :
    (s.cancelSlot id).flightCancelled id = true := by
  unfold State.slotInFlight at h
  rw [flightCancelled_eq, cancelSlot_slot_same]
  unfold Slot.cancel
  cases hs : (s.slot id).state with
  | inFlight => rfl
  | _ => rw [hs] at h; cases h

/-- An ACTIVE station's DORMANT is in flight, to take it into dormancy. -/
structure Entering (s : State) : Prop where
  active : s.ac.activity = .active
  flight : s.enteringInFlight = true

/-- An ACTIVE station has marked its DORMANT in flight, and had it cancelled. -/
structure Marked (s : State) : Prop where
  active : s.ac.activity = .active
  mark : s.ac.wakeMark = true
  cancelled : s.flightCancelled .dormant = true

theorem Entering.congr (h : Entering s) (hs : t.slot .dormant = s.slot .dormant) (ha : t.ac = s.ac) : Entering t :=
  ⟨by rw [ha]; exact h.active, (enteringInFlight_congr hs (by rw [ha])).trans h.flight⟩

theorem Marked.congr (h : Marked s) (hs : t.slot .dormant = s.slot .dormant) (ha : t.ac = s.ac) : Marked t := by
  obtain ⟨hac, hm, hc⟩ := h
  refine ⟨ha ▸ hac, ha ▸ hm, ?_⟩
  rw [flightCancelled_eq] at hc ⊢
  rw [hs]
  exact hc

theorem Marked.entering (h : Marked s) : Entering s :=
  ⟨h.active, enteringInFlight_iff.mpr ⟨slotInFlight_of_cancelled h.cancelled, .inr h.mark⟩⟩

theorem Entering.markWake (h : Entering s) : Marked s.markWake :=
  ⟨h.active, rfl, flightCancelled_cancelSlot (enteringInFlight_iff.mp h.flight).1⟩

/-- R166: a wake trigger marks such a flight and cancels it. -/
theorem Entering.wakeTrigger (h : Entering s) (c : Image) : Marked (s.wakeTrigger c) := by
  unfold State.wakeTrigger
  rw [h.active]
  dsimp only
  rw [if_pos h.flight]
  exact h.markWake

theorem Entering.evaluateLocal (h : Entering s) (c : Image) : Entering (s.evaluateLocal c) := by
  unfold State.evaluateLocal
  dsimp only
  split
  · exact h
  · exact h.congr (writeSlot_slot_other _ (by decide) _) rfl

theorem Entering.alertEvent (h : Entering s) (c : Image) : Entering (s.alertEvent c) := by
  unfold State.alertEvent State.readinessEvent
  dsimp only
  split
  · split
    · exact (Entering.wakeTrigger (s := s.mapSrm _) (h.congr rfl rfl) c).entering
    · exact h
  · split
    · exact h.congr rfl rfl
    · exact h
  · split
    · exact h.congr rfl rfl
    · exact h
  · exact h

/-- The watch at the end of a command leaves a marked flight so. -/
theorem Marked.watchDormancy (h : Marked s) (c : Image) : Marked (s.watchDormancy c) := by
  have hd : ∀ d, Marked (s.mapAc fun a => { a with delay := d }) := fun _ => ⟨h.active, h.mark, h.cancelled⟩
  have hnot : ∀ d, (s.mapAc fun a => { a with delay := d }).slotPending .dormant = false := fun d => by
    by_contra hp
    have := slotPending_not_inFlight (Bool.eq_true_of_not_eq_false hp)
    rw [slotInFlight_of_cancelled (hd d).cancelled] at this
    cases this
  unfold State.watchDormancy
  rw [h.active]
  dsimp only
  split
  · split
    · exact hd _
    · exact hd _
  · rw [if_neg (by rw [hnot]; decide), if_pos (hd none).entering.flight]
    exact (hd none).entering.markWake

/-- A flight on the line is the only one: nothing is offered over it. -/
theorem mayOffer_of_inFlight {id : SlotId} (h : s.slotInFlight id = true) : s.mayOffer = false := by
  unfold State.mayOffer
  cases hf : s.flight with
  | none =>
    rw [flight_none_iff.mp hf id] at h
    cases h
  | some _ => simp

theorem Marked.settle (h : Marked s) (c : Image) (b : State) : Marked (settle c b s) := by
  have hr : Marked (s.reported b c) := h.congr (reported_slot s b c (.inr rfl)) (reported_ac s b c)
  have hs : Marked ((s.reported b c).statusOnChange b) :=
    hr.congr (statusOnChange_slot _ _ b (by decide)) (statusOnChange_ac _ b)
  have hw : Marked (settleBlocks c b s) := by
    rw [settleBlocks_eq]
    exact hs.watchDormancy c
  unfold Machine.settle State.offer
  rw [if_neg (by rw [mayOffer_of_inFlight (slotInFlight_of_cancelled hw.cancelled)]; decide)]
  exact hw

/-- R88, R101, R166: a counted pulse at a station whose DORMANT is in flight marks it. -/
theorem rainPulse_marks {c : Image} {time : Nat} (hc : s.running = some c) (h : Entering s)
    (ht : ∀ p, s.ru.chatter = some p → p + 1000 ≤ time) : ∃ t, exec (.rainPulse time) s = .next t ∧ Marked t := by
  have hno : s.isChatter time = false := by
    unfold State.isChatter
    split
    · rfl
    · next p hp => exact decide_eq_false (Nat.not_lt.mpr (ht p hp))
  have hcount : Entering (s.countPulse c time) := h.congr rfl rfl
  refine ⟨_, rfl, ?_⟩
  rw [onRunning_some hc, hno]
  exact (((hcount.evaluateLocal c).alertEvent c).wakeTrigger c).settle c s

end

/-! ## The dormancy delay (R161, R162) -/

section
variable {s t : State} {c : Image}

/-- Table 8-2, row by row. -/
theorem dormancyConditions_iff (s : State) (c : Image) : s.dormancyConditions c = true ↔
    s.mu.membership = .linked ∧ s.ts.drain = .idle ∧ s.holdings c.station = [] ∧ s.hasClaim c.station = false ∧
    s.ts.inlet = .shut ∧ s.srm.readiness = .quiet ∧ s.ru.localGrade = .none ∧ s.sc.episode = .clear ∧
    ∀ id, id ≠ .status → id ≠ .dormant → s.slotEmpty id = true := by
  unfold State.dormancyConditions
  simp [mem_allSlots, and_assoc, or_iff_not_imp_left]

/-- Beside what the end of a command leaves, the conditions see the drain machine and which slots are EMPTY. -/
theorem dormancyConditions_congr (hf : t.frozen = s.frozen) (hd : t.ts.drain = s.ts.drain)
    (he : ∀ id, id ≠ .status → id ≠ .dormant → t.slotEmpty id = s.slotEmpty id) :
    t.dormancyConditions c = s.dormancyConditions c := by
  have hsh := eq_of_frozen (·.sa.shares) (fun _ => rfl) hf
  have hcl := eq_of_frozen (·.sa.claims) (fun _ => rfl) hf
  have hmu := eq_of_frozen (·.mu.membership) (fun _ => rfl) hf
  have hin := eq_of_frozen (·.ts.inlet) (fun _ => rfl) hf
  have hre := eq_of_frozen (·.srm.readiness) (fun _ => rfl) hf
  have hru := eq_of_frozen (·.ru) (fun _ => rfl) hf
  have hsc := eq_of_frozen (·.sc) (fun _ => rfl) hf
  have hall : (∀ id, id ≠ .status → id ≠ .dormant → t.slotEmpty id = true) ↔
      ∀ id, id ≠ .status → id ≠ .dormant → s.slotEmpty id = true :=
    forall_congr' fun id => forall_congr' fun h1 => forall_congr' fun h2 => by rw [he id h1 h2]
  rw [Bool.eq_iff_iff, dormancyConditions_iff, dormancyConditions_iff, hall]
  unfold State.holdings State.hasClaim State.claimOf
  rw [hsh, hcl, hmu, hin, hre, hru, hsc, hd]

/-- What the rule says of a running station under its image. -/
def DelayAt (s : State) (c : Image) : Prop :=
  (s.ac.activity ≠ .active → s.ac.delay = none) ∧
    (s.ac.activity = .active → s.dormancyConditions c = true →
      (s.ac.delay.isSome = true ↔ s.slotEmpty .dormant = true ∧ c.dormancyDelay ≠ 0)) ∧
    (s.ac.activity = .active → s.dormancyConditions c = false → s.ac.delay = none ∧ s.slotPending .dormant = false ∧
      (s.enteringInFlight = true → s.ac.wakeMark = true ∧ s.flightCancelled .dormant = true))

theorem delayRule_iff : DelayRule s ↔ ∀ c, s.running = some c → DelayAt s c := Iff.rfl

theorem delayAt_of_not_active (ha : s.ac.activity ≠ .active) (hd : s.ac.delay = none) : DelayAt s c :=
  ⟨fun _ => hd, fun h => absurd h ha, fun h => absurd h ha⟩

theorem delayAt_of_conditions (h : s.dormancyConditions c = true) (ha : s.ac.activity = .active)
    (hd : s.ac.delay.isSome = true ↔ s.slotEmpty .dormant = true ∧ c.dormancyDelay ≠ 0) : DelayAt s c :=
  ⟨fun hn => absurd ha hn, fun _ _ => hd, fun _ hf => absurd (h.symm.trans hf) (by decide)⟩

theorem delayAt_of_failed (h : s.dormancyConditions c = false) (ha : s.ac.activity = .active) (hd : s.ac.delay = none)
    (hp : s.slotPending .dormant = false)
    (he : s.enteringInFlight = true → s.ac.wakeMark = true ∧ s.flightCancelled .dormant = true) : DelayAt s c :=
  ⟨fun hn => absurd ha hn, fun _ ht => absurd (h.symm.trans ht) (by decide), fun _ _ => ⟨hd, hp, he⟩⟩

theorem slotEmpty_not_inFlight {id : SlotId} (h : s.slotEmpty id = true) : s.slotInFlight id = false := by
  unfold State.slotEmpty at h
  unfold State.slotInFlight
  cases hs : (s.slot id).state with
  | empty => rfl
  | _ => rw [hs] at h; cases h

theorem slotPending_cancelSlot (s : State) (id : SlotId) : (s.cancelSlot id).slotPending id = false := by
  unfold State.slotPending
  rw [cancelSlot_slot_same]
  exact cancel_not_pending _

theorem watchDormancy_of_conditions (ha : s.ac.activity = .active) (hc : s.dormancyConditions c = true) :
    s.watchDormancy c =
      if s.slotEmpty .dormant = true ∧ c.dormancyDelay ≠ 0 then
        s.mapAc fun a => { a with delay := some (a.delay.getD (minutesMs c.dormancyDelay)) }
      else s.mapAc fun a => { a with delay := none } := by
  unfold State.watchDormancy
  rw [ha]
  exact if_pos hc

theorem watchDormancy_of_failed (ha : s.ac.activity = .active) (hc : s.dormancyConditions c = false) :
    s.watchDormancy c =
      if s.slotPending .dormant then (s.mapAc fun a => { a with delay := none }).cancelSlot .dormant
      else if s.enteringInFlight then (s.mapAc fun a => { a with delay := none }).markWake
      else s.mapAc fun a => { a with delay := none } := by
  unfold State.watchDormancy
  rw [ha]
  exact if_neg (by rw [hc]; decide)

theorem watchDormancy_of_not_active (ha : s.ac.activity ≠ .active) :
    s.watchDormancy c = s.mapAc fun a => { a with delay := none } := by
  unfold State.watchDormancy
  split
  · next h => exact absurd h ha
  · rfl

theorem watchDormancy_conditions (s : State) (c : Image) :
    (s.watchDormancy c).dormancyConditions c = s.dormancyConditions c :=
  dormancyConditions_congr (watchDormancy_frozen s c) (by rw [watchDormancy_ts]) fun id _ h => by
    unfold State.slotEmpty
    rw [watchDormancy_slot c id s h]

/-- The watch at the end of a command brings the rule about. -/
theorem watchDormancy_delayAt (s : State) (c : Image) : DelayAt (s.watchDormancy c) c := by
  have hact : (s.watchDormancy c).ac.activity = s.ac.activity :=
    eq_of_frozen (·.ac.activity) (fun _ => rfl) (watchDormancy_frozen s c)
  rcases ne_or_eq s.ac.activity .active with ha | ha
  · exact delayAt_of_not_active (hact ▸ ha) (by rw [watchDormancy_of_not_active ha]; rfl)
  have hcond := watchDormancy_conditions s c
  cases hc : s.dormancyConditions c with
  | true =>
    refine delayAt_of_conditions (hcond.trans hc) (hact.trans ha) ?_
    rw [watchDormancy_of_conditions ha hc]
    split
    · next h => exact iff_of_true rfl h
    · next h => exact iff_of_false (by simp) h
  | false =>
    let x : State := s.mapAc fun a => { a with delay := none }
    have hw := watchDormancy_of_failed ha hc
    by_cases hp : s.slotPending .dormant = true
    · rw [if_pos hp] at hw
      have hno : (x.cancelSlot .dormant).slotInFlight .dormant = false :=
        slotEmpty_not_inFlight (cancelSlot_empty (slotPending_not_inFlight (s := x) hp))
      refine delayAt_of_failed (hcond.trans hc) (hact.trans ha) ?_ ?_ fun he => ?_ <;> rw [hw] at *
      · rfl
      · exact slotPending_cancelSlot x .dormant
      · exact absurd (enteringInFlight_iff.mp he).1 (by rw [hno]; decide)
    rw [if_neg hp] at hw
    by_cases he : s.enteringInFlight = true
    · rw [if_pos he] at hw
      have hm : Marked x.markWake := Entering.markWake ⟨ha, he⟩
      refine delayAt_of_failed (hcond.trans hc) (hact.trans ha) ?_ ?_ fun _ => ?_ <;> rw [hw]
      · rfl
      · exact slotPending_cancelSlot (x.mapAc _) .dormant
      · exact ⟨hm.mark, hm.cancelled⟩
    · rw [if_neg he] at hw
      refine delayAt_of_failed (hcond.trans hc) (hact.trans ha) ?_ ?_ fun h => ?_ <;> rw [hw] at *
      · rfl
      · exact Bool.eq_false_of_not_eq_true hp
      · exact absurd h he

/-- The offer leaves the rule: what it takes into flight was PENDING. -/
theorem DelayAt.offer (h : DelayAt s c) (fresh : Bool) : DelayAt (s.offer c fresh) c := by
  obtain ⟨hrest, hrun, hfail⟩ := h
  have hcond : (s.offer c fresh).dormancyConditions c = s.dormancyConditions c :=
    dormancyConditions_congr (offer_frozen s c fresh) (by rw [offer_ts]) fun id _ _ => offer_slotEmpty s c fresh id
  unfold DelayAt
  rw [offer_ac, hcond, offer_slotEmpty]
  refine ⟨hrest, hrun, fun ha hc => ?_⟩
  obtain ⟨hd, hp, he⟩ := hfail ha hc
  have hslot : (s.offer c fresh).slot .dormant = s.slot .dormant := by
    rcases offer_slot_cases s c fresh .dormant with hs | ⟨hs, -⟩
    · exact hs
    · rw [hp] at hs
      cases hs
  have hac := offer_ac s c fresh
  rw [enteringInFlight_congr hslot (by rw [hac]), flightCancelled_eq, State.slotPending, hslot, ← flightCancelled_eq]
  exact ⟨hd, hp, he⟩

theorem settle_delayRule (hc : s.cl.image = some c) (b : State) : DelayRule (settle c b s) := by
  refine delayRule_iff.mpr fun c' h => ?_
  obtain rfl := settle_running hc b h
  exact (watchDormancy_delayAt ((s.reported b c').statusOnChange b) c').offer _

end

/-! ## Through every step -/

/-- R161, R162: the end of a command brings the rule about; in DOWN it says nothing; and nothing else that it sees
changes. -/
theorem Ends.delayRule {s t : State} (h : Ends s t) (hd : DelayRule s) : DelayRule t := by
  cases h with
  | inputs l r pin n f hl =>
    intro c hc
    have hrun : s.running = some c := running_of_inputs (by rfl) hl c hc
    exact hd c hrun
  | reset _ hmu => exact fun c hc => absurd (by rw [hmu]; rfl) (running_not_down hc)
  | loaded c => exact settle_delayRule rfl s
  | settled c b u hc hcl => exact settle_delayRule (by rw [hcl]; exact running_image hc) b

/-- R84, R160, R167: a station before its good load is in DOWN, so it is ACTIVE. -/
theorem Ends.restRule {s t : State} (h : Ends s t) (hl : LoadRule s) (hr : RestRule s) : RestRule t := by
  cases h with
  | inputs => exact hr
  | reset _ _ _ hac => exact .of_active (by rw [hac]; rfl)
  | loaded c hload =>
    have hdown : s.mu.membership = .down := by
      obtain ⟨-, -, hgood⟩ := hl
      by_contra hm
      rw [hload] at hgood
      exact absurd (hgood hm) (by decide)
    obtain ⟨l, he⟩ := goodLoad_eq s c
    refine RestRule.settle (.of_active ?_) c s
    rw [he]
    exact hr.active (by rw [hdown]; decide)
  | settled c b u _ _ hu => exact (hu hr).settle c b

/-- Settles O44, by the ways in which a step can end. -/
theorem dormancyDelayKept : Obligations.DormancyDelayKept := by
  refine ⟨fun s t hd h => ?_, fun s t hl hr h => ?_, dormancyConditions_iff, fun s => enteringInFlight_iff,
    fun s c time hc ha he ht => ?_⟩
  · rcases step_ends h with rfl | ⟨x, hx, p, rfl⟩
    · obtain ⟨a, f, he⟩ := elapse_eq s
      rw [he]
      exact hd
    · exact hx.delayRule hd
  · rcases step_ends h with rfl | ⟨x, hx, p, rfl⟩
    · obtain ⟨a, f, he⟩ := elapse_eq s
      rw [he]
      exact hr
    · exact hx.restRule hl hr
  · obtain ⟨t, hex, hm⟩ := rainPulse_marks hc ⟨ha, he⟩ ht
    exact ⟨t, hex, hm.active, hm.mark, hm.cancelled⟩

end Sys2Proof.Machine

namespace Sys2Proof.Machine
open Sys2Proof

/-! ## The tide input (R68, R69) -/

/-- R69: the lock, where the level of record is known. -/
theorem lockNow_iff (s : State) (c : Image) :
    s.lockNow c = true ↔ s.ts.tide = .shut ∧ ∃ l, s.ts.chamberLevel = some l ∧ c.crest ≤ l := by
  unfold State.lockNow
  cases s.ts.chamberLevel with
  | none => simp
  | some l => simp

theorem tideInputChange_eq {s : State} {c : Image} {level : Tide} (hc : s.running = some c) (hl : level ≠ s.tidePin) :
    exec (.tideInputChange level) s =
      .next (settle c { s with tidePin := level } (State.timeTide { s with tidePin := level } level)) := by
  refine congrArg Host.Outcome.next ?_
  rw [onRunning_some (s := { s with tidePin := level }) hc, decide_eq_false hl]
  rfl

theorem tideStateChange_eq {s : State} {c : Image} (hc : s.running = some c) (h : s.ts.tideStable.isSome = true) :
    exec .tideStateChange s = .next (settle c s
      ((s.mapTs fun t => { t with tide := s.tidePin, tideStable := none }).evaluateTideLock c)) := by
  refine congrArg Host.Outcome.next ?_
  rw [onRunning_some hc, if_pos h]

/-- Settles O17: each command changes the tank supervisor's tide, and its end leaves that. -/
theorem tideCommands : Obligations.TideCommands := by
  refine fun s c hc => ⟨fun level hl => ⟨_, tideInputChange_eq hc hl, ?_⟩, fun h => ⟨_, tideStateChange_eq hc h, ?_⟩⟩
  · simp only [settle_tidePin, settle_tideStable, settle_tide, settle_tideLock, settle_weather, settle_spills,
      settle_tables, settle_member]
    exact ⟨rfl, rfl, rfl, rfl, rfl, rfl, rfl, rfl⟩
  · simp only [settle_tideStable, settle_tide, settle_tideLock, settle_weather, settle_spills, settle_tables,
      settle_member]
    exact ⟨rfl, rfl, lockNow_iff _ c, rfl, rfl, rfl, rfl⟩

/-! ## Samples (section 3.1) -/

section
variable {s : State} {c : Image}

/-- R63, R64: in WAKING the sample is discarded, and closes its window alone. -/
theorem makeSample_discarded (ch tk : Channel) (ha : s.ac.activity = .waking) :
    s.makeSample c ch tk = s.mapTs fun t => { t with window := none } := if_pos ha

theorem makeSample_kept (ch tk : Channel) (ha : s.ac.activity ≠ .waking) :
    s.makeSample c ch tk = (s.mapTs fun t => { t with window := none }).keepSample c ch tk := if_neg ha

theorem makeSample_window (ch tk : Channel) : (s.makeSample c ch tk).ts.window = none := by
  by_cases ha : s.ac.activity = .waking
  · rw [makeSample_discarded ch tk ha]
    rfl
  · rw [makeSample_kept ch tk ha, (keepSample_tank _ c ch tk).2.2.2.2.2.2]
    rfl

/-- R64, R69, R73: what a kept sample leaves at the tank supervisor. -/
structure Kept (s : State) (c : Image) (ch tk : Channel) (t : State) : Prop where
  chamberQuality : t.ts.chamberQuality = ch.quality
  tankQuality : t.ts.tankQuality = tk.quality
  chamberLevel : t.ts.chamberLevel = if ch.level.isSome then ch.level else s.ts.chamberLevel
  tankLevel : t.ts.tankLevel = if tk.level.isSome then tk.level else s.ts.tankLevel
  inlet : t.ts.inlet = inletNext c ch s.ts.inlet
  tideLock : t.ts.tideLock = match ch.level with
    | none => s.ts.tideLock
    | some l => decide (s.ts.tide = .shut ∧ c.crest ≤ l)

theorem makeSample_keeps (ch tk : Channel) (ha : s.ac.activity ≠ .waking) : Kept s c ch tk (s.makeSample c ch tk) := by
  obtain ⟨hcq, htq, hcl, htl, hlock, hin, -⟩ := keepSample_tank (s.mapTs fun t => { t with window := none }) c ch tk
  rw [keepLevel_eq] at hcl htl
  rw [keepValues_lock] at hlock
  rw [makeSample_kept ch tk ha]
  exact ⟨hcq, htq, hcl, htl, hin, hlock⟩

/-- The end of a command leaves what a sample has left. -/
theorem Kept.settle {ch tk : Channel} {u : State} (h : Kept s c ch tk u) (b : State) :
    Kept s c ch tk (settle c b u) := by
  obtain ⟨hcq, htq, hcl, htl, hin, hlock⟩ := h
  exact ⟨by simpa using hcq, by simpa using htq, by simpa using hcl, by simpa using htl, by simpa using hin,
    by simpa using hlock⟩

/-- R73: where the inlet stands after a sample with a chamber level. -/
theorem inletNext_opened_iff {ch : Channel} {l : Nat} (i : Inlet) (hl : ch.level = some l) :
    inletNext c ch i = .opened ↔ c.capture ≤ l ∨ (i = .opened ∧ c.capture - c.hysteresis ≤ l) := by
  unfold inletNext
  rw [hl]
  cases i with
  | shut => by_cases h : c.capture ≤ l <;> simp [h]
  | opened =>
    by_cases h : l < c.capture - c.hysteresis
    · simp [h]
      omega
    · simp [h]
      omega

/-- With the chamber FAILED the inlet opens (R73). -/
theorem inletNext_failed {ch : Channel} (i : Inlet) (hl : ch.level = none) : inletNext c ch i = .opened := by
  unfold inletNext
  rw [hl]
  cases i <;> rfl

/-- The spill counter takes a kept sample as it takes its chamber channel. -/
theorem makeSample_spills (ch tk : Channel) (ha : s.ac.activity ≠ .waking) :
    (s.makeSample c ch tk).sc = (s.spillSample c ch).sc ∧ (s.makeSample c ch tk).rs.log = (s.spillSample c ch).rs.log := by
  have hk := keepSample_spill (s.mapTs fun t => { t with window := none }) c ch tk
  have hs : State.spillSample (s.mapTs fun t => { t with window := none }) c ch =
      (s.spillSample c ch).mapTs fun t => { t with window := none } := c_spillSample s _ c ch rfl
  rw [hs] at hk
  rw [makeSample_kept ch tk ha]
  exact hk

/-! ### Damaged replies (R197) -/

/-- The check of a reply sums its first six bytes. -/
theorem replySum_eq {l : List Byte} (h : 6 ≤ l.length) :
    (l.take 6).foldl (fun a b => a + b.toNat) 0 =
      numAt l 0 + numAt l 1 + numAt l 2 + numAt l 3 + numAt l 4 + numAt l 5 := by
  match l, h with
  | b0 :: b1 :: b2 :: b3 :: b4 :: b5 :: l, _ => simp [numAt, byteAt]

theorem qualityOf_eq_none_iff {n : Nat} : qualityOf n = none ↔ 2 < n := by
  match n with
  | 0 | 1 | 2 => exact iff_of_false (by simp [qualityOf]) (by omega)
  | n + 3 => exact iff_of_true rfl (by omega)

theorem readReply_eq_none_iff (r : SensorReply) : readReply r = none ↔
    r.byteFault = true ∨ r.bytes.length < 7 ∨
      numAt r.bytes 6 ≠ (numAt r.bytes 0 + numAt r.bytes 1 + numAt r.bytes 2 + numAt r.bytes 3 + numAt r.bytes 4 +
        numAt r.bytes 5) % 256 ∨ 2 < numAt r.bytes 2 ∨ 2 < numAt r.bytes 5 := by
  unfold readReply
  by_cases hf : r.byteFault = true
  · simp [hf]
  by_cases hlen : r.bytes.length < 7
  · simp [hlen]
  rw [replySum_eq (by omega), if_neg (by simp [hf]; omega)]
  split
  · next hs => simp [hs]
  · next hs =>
    simp only [hf, hlen, not_not.mp hs, ← qualityOf_eq_none_iff]
    cases qualityOf (numAt r.bytes 2) <;> cases qualityOf (numAt r.bytes 5) <;> simp

theorem sensorReply_eq {r : SensorReply} {ch tk : Channel} (hc : s.running = some c) (hw : s.ts.window.isSome = true)
    (hr : readReply r = some (ch, tk)) : exec (.sensorReply r) s = .next (settle c s (s.makeSample c ch tk)) := by
  show execSensorReply r s = _
  unfold execSensorReply
  rw [hr]
  dsimp only
  rw [onRunning_some hc, if_pos hw]

/-- A damaged reply, and one that finds no window open, have no effect. -/
theorem sensorReply_ignored {r : SensorReply} (h : readReply r = none ∨ s.ts.window = none) :
    exec (.sensorReply r) s = .next s := by
  show execSensorReply r s = _
  unfold execSensorReply
  cases hr : readReply r with
  | none => rfl
  | some p =>
    have hw : s.ts.window = none := h.resolve_left (by rw [hr]; exact Option.some_ne_none p)
    dsimp only
    unfold State.onRunning
    rw [hw]
    split <;> rfl

end

/-- Settles O19: the sample that a reply makes, and the replies that make none. -/
theorem sensorReplyCommand : Obligations.SensorReplyCommand := by
  refine ⟨fun s r h => sensorReply_ignored h, readReply_eq_none_iff, fun s c r ch tk hc hw hr => ?_⟩
  refine ⟨_, sensorReply_eq hc hw hr, by rw [settle_window, makeSample_window], fun ha => ?_, fun ha => ?_, ?_⟩
  · obtain ⟨hcq, htq, hcl, htl, hin, hlock⟩ := (makeSample_keeps ch tk ha).settle s (c := c)
    obtain ⟨hsc, hlog⟩ := makeSample_spills (c := c) ch tk ha
    refine ⟨hcq, htq, hcl, htl, fun hl => ?_, fun l hl => ?_, by rw [settle_sc, hsc], by rw [settle_log, hlog]⟩
    · rw [hin, hlock, hl]
      exact ⟨inletNext_failed _ hl, rfl⟩
    · rw [hin, hlock, hl]
      exact ⟨inletNext_opened_iff _ hl, rfl⟩
  · rw [makeSample_discarded ch tk ha]
    simp only [settle_chamberQuality, settle_tankQuality, settle_chamberLevel, settle_tankLevel, settle_inlet,
      settle_tideLock, settle_spills]
    exact ⟨rfl, rfl, rfl, rfl, rfl, rfl, rfl⟩
  · simp

end Sys2Proof.Machine

namespace Sys2Proof.Machine
open Sys2Proof

/-! ## What the drain machine makes of a kept sample -/

/-- A kept sample as it comes to the drain machine. -/
def State.sampled (s : State) (c : Image) (ch tk : Channel) : State :=
  let s1 := ((s.mapTs fun t => { t with window := none }).keepValues c ch tk).spillSample c ch
  let s2 := if wakingSample c ch then s1.wakeTrigger c else s1
  (s2.recomputeUrgency c).inletSample c ch

/-- From s to t the drain machine has stayed, and the share agent with its slots. -/
structure DrainKept (s t : State) : Prop where
  drain : t.ts.drain = s.ts.drain
  parkTimer : t.ts.parkTimer = s.ts.parkTimer
  sa : t.sa = s.sa
  slot : ∀ id, id ≠ .dormant → id ≠ .status → id ∉ noticeSlots → t.slot id = s.slot id

namespace DrainKept

variable {s t u : State}

theorem refl (s : State) : DrainKept s s := ⟨rfl, rfl, rfl, fun _ _ _ _ => rfl⟩

theorem trans (h : DrainKept s t) (k : DrainKept t u) : DrainKept s u :=
  ⟨k.drain.trans h.drain, k.parkTimer.trans h.parkTimer, k.sa.trans h.sa,
    fun id h1 h2 h3 => (k.slot id h1 h2 h3).trans (h.slot id h1 h2 h3)⟩

theorem of_counted (h : Counted s t) : DrainKept s t :=
  ⟨by rw [h.ts], by rw [h.ts], h.sa, fun id _ _ h3 => h.slot id h3⟩

theorem judged (s : State) (c : Image) (ch : Channel) : DrainKept s ((s.recomputeUrgency c).inletSample c ch) :=
  ⟨rfl, rfl, rfl, fun _ _ _ _ => rfl⟩

theorem keepValues (s : State) (c : Image) (ch tk : Channel) : DrainKept s (s.keepValues c ch tk) := by
  unfold State.keepValues
  dsimp only
  split
  · exact ⟨rfl, rfl, rfl, fun _ _ _ _ => rfl⟩
  · exact ⟨rfl, rfl, rfl, fun _ _ _ _ => rfl⟩

theorem wakeTrigger (s : State) (c : Image) : DrainKept s (s.wakeTrigger c) := by
  have hslot : ∀ id, id ≠ .dormant → id ≠ .status → id ∉ noticeSlots → (s.wakeTrigger c).slot id = s.slot id :=
    fun id h1 h2 _ => wakeTrigger_slot s c h1 h2
  have hrest : (s.wakeTrigger c).ts.drain = s.ts.drain ∧ (s.wakeTrigger c).ts.parkTimer = s.ts.parkTimer ∧
      (s.wakeTrigger c).sa = s.sa := by
    unfold State.wakeTrigger
    split
    · exact ⟨rfl, rfl, rfl⟩
    · split <;> exact ⟨rfl, rfl, rfl⟩
    · exact ⟨rfl, rfl, rfl⟩
  obtain ⟨hd, hp, hsa⟩ := hrest
  exact ⟨hd, hp, hsa, hslot⟩

end DrainKept

section
variable {s : State} {c : Image} {ch tk : Channel}

theorem makeSample_eq (ha : s.ac.activity ≠ .waking) : s.makeSample c ch tk = (s.sampled c ch tk).drainSample c :=
  if_neg ha

theorem keepValues_ac (s : State) : (s.keepValues c ch tk).ac = s.ac := by
  unfold State.keepValues
  dsimp only
  split <;> rfl

/-- The sample reaches the drain machine as it was. -/
theorem sampled_drainKept : DrainKept s (s.sampled c ch tk) := by
  let x : State := s.mapTs fun t => { t with window := none }
  have hx : DrainKept s x := ⟨rfl, rfl, rfl, fun _ _ _ _ => rfl⟩
  have hs : DrainKept s ((x.keepValues c ch tk).spillSample c ch) :=
    (hx.trans (.keepValues x c ch tk)).trans (.of_counted ((Counted.refl _).spillSample c ch))
  unfold State.sampled
  dsimp only
  split
  · exact (hs.trans (.wakeTrigger _ c)).trans (.judged _ c ch)
  · exact hs.trans (.judged _ c ch)

/-- A withdraw request touches the slots and the withdraw mark (R30). -/
theorem requestWithdraw_eq (s : State) (c : Image) : ∃ l w, s.requestWithdraw c =
    { s with lc := { s.lc with slots := l }, sa := { s.sa with withdrawMark := w } } := by
  unfold State.requestWithdraw
  dsimp only
  (repeat' split) <;> exact ⟨_, _, rfl⟩

theorem withdrawIfOut_eq (s : State) (c : Image) : ∃ l w, s.withdrawIfOut c =
    { s with lc := { s.lc with slots := l }, sa := { s.sa with withdrawMark := w } } := by
  unfold State.withdrawIfOut
  split
  · exact requestWithdraw_eq s c
  · exact ⟨_, _, rfl⟩

theorem requestWithdraw_ac (s : State) : (s.requestWithdraw c).ac = s.ac := by
  obtain ⟨l, w, h⟩ := requestWithdraw_eq s c
  rw [h]

theorem withdrawIfOut_ac (s : State) : (s.withdrawIfOut c).ac = s.ac := by
  obtain ⟨l, w, h⟩ := withdrawIfOut_eq s c
  rw [h]

theorem failedTank_ac (s : State) : (s.failedTank c).ac = s.ac := by
  refine (withdrawIfOut_ac (c := c) _).trans ?_
  split <;> rfl

theorem drainSample_ac (s : State) : (s.drainSample c).ac = s.ac := by
  unfold State.drainSample
  split
  · exact failedTank_ac s
  · split
    · unfold State.testClaim
      split <;> rfl
    · split
      · exact requestWithdraw_ac s
      · rfl
    · split
      · exact withdrawIfOut_ac (c := c) (s.mapTs _)
      · rfl
    · split <;> rfl

theorem spilled_ac (s : State) : (((s.mapTs fun t => { t with window := none }).keepValues c ch tk).spillSample c ch).ac = s.ac :=
  ((Counted.refl _).spillSample c ch).ac.trans (keepValues_ac _)

/-- R166: a sample whose chamber cannot be seen, or stands at the capture level, wakes a DORMANT station. -/
theorem makeSample_wakes (ha : s.ac.activity = .dormant) (hw : wakingSample c ch = true) :
    (s.makeSample c ch tk).ac.activity = .waking := by
  rw [makeSample_eq (by simp [ha]), drainSample_ac]
  unfold State.sampled
  dsimp only
  rw [if_pos hw]
  exact wakeTrigger_wakes _ c (.inl (by rw [spilled_ac]; exact ha))

theorem wakeTrigger_active (ha : s.ac.activity = .active) : (s.wakeTrigger c).ac.activity = .active := by
  unfold State.wakeTrigger
  rw [ha]
  dsimp only
  split <;> exact ha

theorem sampled_active (ha : s.ac.activity = .active) : (s.sampled c ch tk).ac.activity = .active := by
  have hx : (((s.mapTs fun t => { t with window := none }).keepValues c ch tk).spillSample c ch).ac.activity = .active := by
    rw [spilled_ac]
    exact ha
  unfold State.sampled
  dsimp only
  split
  · exact wakeTrigger_active hx
  · exact hx

theorem sampled_kept (ha : s.ac.activity ≠ .waking) : Kept s c ch tk (s.sampled c ch tk) := by
  obtain ⟨hcq, htq, hcl, htl, hin, hlock⟩ := makeSample_keeps (c := c) ch tk ha
  rw [makeSample_eq ha] at hcq htq hcl htl hin hlock
  have ht : ((s.sampled c ch tk).drainSample c).tank = (s.sampled c ch tk).tank := drainSample_tank _ c
  simp only [State.tank, Prod.mk.injEq] at ht
  obtain ⟨-, -, h1, h2, h3, h4, -, -, h5, h6⟩ := ht
  exact ⟨h2 ▸ hcq, h4 ▸ htq, h1 ▸ hcl, h3 ▸ htl, h6 ▸ hin, h5 ▸ hlock⟩

/-! ### A tank that cannot be seen (R83) -/

theorem tankNow_of_failed (h : s.ts.tankQuality = .failed) : s.tankNow = none := by
  unfold State.tankNow
  rw [h]
  rfl

theorem failedTank_idle (s : State) (c : Image) : (s.failedTank c).ts.drain = .idle := rfl

theorem makeSample_idle (ha : s.ac.activity ≠ .waking) (hq : tk.quality = .failed) :
    (s.makeSample c ch tk).ts.drain = .idle := by
  have hk := (sampled_kept (c := c) (ch := ch) (tk := tk) ha).tankQuality
  rw [makeSample_eq ha]
  unfold State.drainSample
  rw [if_pos (hk.trans hq)]
  exact failedTank_idle _ c

/-- R76: it starts no claim. -/
theorem testClaim_of_unseen (h : s.tankNow = none) : s.testClaim c = s := by
  have hc : s.claimCondition c = false := by
    unfold State.claimCondition State.tankAtLeast State.tankAbove
    simp [h]
  exact if_neg (by rw [hc]; simp)

/-- An IDLE machine takes no step on the SA's report (R79). -/
theorem drainReport_ts_of_idle (h : s.ts.drain = .idle) : (s.drainReport c).ts = s.ts := by
  unfold State.drainReport
  dsimp only
  rw [h]
  dsimp only
  split <;> rfl

/-- With the tank FAILED an IDLE machine stays so to the end of a command. -/
theorem settle_idle_of_failed (hd : s.ts.drain = .idle) (hq : s.ts.tankQuality = .failed) (b : State) :
    (settle c b s).ts.drain = .idle := by
  have hts := drainReport_ts_of_idle (s := s.recomputeUrgency c) (c := c) hd
  have hno : ((s.recomputeUrgency c).drainReport c).tankNow = none := tankNow_of_failed (by rw [hts]; exact hq)
  rw [(settle_ts_sa c b s).1]
  show ((s.recomputeUrgency c).drainStep b c).ts.drain = _
  unfold State.drainStep
  dsimp only
  rw [testClaim_of_unseen hno, ite_self]
  split
  · rw [hts]
    exact hd
  · exact hd

/-- A machine that is not DRAINING has its valve shut (R85). -/
theorem settle_valve_shut {b : State} (hd : (settle c b s).ts.drain ≠ .draining) : (settle c b s).ts.valve = 0 := by
  rw [settle_valve]
  exact if_neg fun ⟨_, _, h⟩ => hd h

/-! ### The sample of a window that closes with no reply (R62, R63) -/

theorem emptySample_levels (s : State) (c : Image) : (s.emptySample c).ts.chamberLevel = s.ts.chamberLevel ∧
    (s.emptySample c).ts.tankLevel = s.ts.tankLevel := by
  unfold State.emptySample
  by_cases ha : s.ac.activity = .waking
  · rw [makeSample_discarded _ _ ha]
    exact ⟨rfl, rfl⟩
  · have hk := makeSample_keeps (c := c) Channel.failed Channel.failed ha
    exact ⟨hk.chamberLevel, hk.tankLevel⟩

theorem replyWindowClose_eq (hc : s.running = some c) (hw : s.ts.window.isSome = true) :
    exec .replyWindowClose s = .next (settle c s (s.emptySample c)) := by
  refine congrArg Host.Outcome.next ?_
  rw [onRunning_some hc, if_pos hw]

/-- The state from which a sample request goes out: a window that is still open has closed. -/
def State.windowClosed (s : State) (c : Image) : State := if s.ts.window.isSome then s.emptySample c else s

theorem sampleTimerExpiry_eq (hc : s.running = some c) (ht : s.ts.sampleTimer.isSome = true) :
    exec .sampleTimerExpiry s =
      .next (settle c s ((s.windowClosed c).request ((s.windowClosed c).sampleLength c))) := by
  refine congrArg Host.Outcome.next ?_
  rw [onRunning_some hc, if_pos ht]
  rfl

theorem windowClosed_views (s : State) (c : Image) : (s.windowClosed c).weather = s.weather ∧
    (s.windowClosed c).tables = s.tables ∧ (s.windowClosed c).member = s.member ∧ (s.windowClosed c).chip = s.chip := by
  unfold State.windowClosed State.emptySample
  split
  · exact ⟨makeSample_weather .., makeSample_tables .., makeSample_member .., makeSample_chip ..⟩
  · exact ⟨rfl, rfl, rfl, rfl⟩

theorem windowClosed_levels (s : State) (c : Image) : (s.windowClosed c).ts.chamberLevel = s.ts.chamberLevel ∧
    (s.windowClosed c).ts.tankLevel = s.ts.tankLevel := by
  unfold State.windowClosed
  split
  · exact emptySample_levels s c
  · exact ⟨rfl, rfl⟩

theorem windowClosed_qualities (hw : s.ts.window.isSome = true) (ha : s.ac.activity ≠ .waking) :
    (s.windowClosed c).ts.chamberQuality = .failed ∧ (s.windowClosed c).ts.tankQuality = .failed := by
  have hk := makeSample_keeps (c := c) Channel.failed Channel.failed ha
  unfold State.windowClosed
  rw [if_pos hw]
  exact ⟨hk.chamberQuality, hk.tankQuality⟩

/-- A chamber that has FAILED is a cause of SENSOR_FAULT (R66). -/
theorem sensorCause_of_failed (h : s.ts.chamberQuality = .failed) : s.sensorCause = true := by
  unfold State.sensorCause
  rw [h]
  rfl

theorem windowClosed_of_none (hw : s.ts.window = none) : s.windowClosed c = s := by
  unfold State.windowClosed
  rw [hw]
  rfl

end

/-- Settles O18: both commands, by the sample with which a window closes. -/
theorem sampleWindows : Obligations.SampleWindows := by
  refine ⟨fun s c hc ht => ⟨_, sampleTimerExpiry_eq hc ht, ?_⟩, fun s c hc hw ha => ⟨_, replyWindowClose_eq hc hw, ?_⟩⟩
  · obtain ⟨hweather, htables, hmember, hchip⟩ := windowClosed_views s c
    obtain ⟨hcl, htl⟩ := windowClosed_levels s c
    simp only [settle_sampleTimer, settle_window, settle_activity, settle_spills, settle_chamberQuality,
      settle_tankQuality, settle_chamberLevel, settle_tankLevel, settle_weather, settle_tables, settle_member, settle_chip]
    refine ⟨rfl, rfl, fun hw => ?_, fun hw ha => windowClosed_qualities hw ha, hcl, htl, hweather, htables, hmember, hchip⟩
    rw [windowClosed_of_none hw]
    exact ⟨rfl, rfl, rfl, rfl⟩
  · have hk := (makeSample_keeps (c := c) Channel.failed Channel.failed ha).settle s
    have hidle := settle_idle_of_failed (c := c) (makeSample_idle (ch := .failed) ha rfl)
      (makeSample_keeps (c := c) Channel.failed Channel.failed ha).tankQuality s
    refine ⟨?_, hk.chamberQuality, hk.tankQuality, hk.chamberLevel, hk.tankLevel, hk.inlet.trans (inletNext_failed _ rfl),
      hk.tideLock, hidle, settle_valve_shut fun hd => ?_, fun hd => ?_, ?_, ?_⟩
    · rw [settle_window]
      exact makeSample_window ..
    · exact absurd (hidle.symm.trans hd) (by decide)
    · rw [settle_activity]
      exact makeSample_wakes hd rfl
    · rw [settle_latched, Bool.or_eq_true]
      exact .inr (sensorCause_of_failed (makeSample_keeps (c := c) Channel.failed Channel.failed ha).chamberQuality)
    · simp [State.emptySample]

end Sys2Proof.Machine

namespace Sys2Proof.Machine
open Sys2Proof

/-! ## The requests of the drain machine (R29, R30, R31) -/

section
variable {s t u : State} {c : Image}

theorem releaseAll_releasesAll : ReleasesAll c s (s.releaseAll c) :=
  ⟨rfl, slotEmpty_release_releaseShares _ _, fun _ hj hm => mem_unionBelow.mpr ⟨hj, .inr hm⟩⟩

/-- Both requests see the share agent and their slots alone. -/
theorem ReleasesAll.congr (h : ReleasesAll c t u) {v : State} (hsh : t.sa.shares = s.sa.shares) (hsa : v.sa = u.sa)
    (hr : v.slotEmpty .release = u.slotEmpty .release) : ReleasesAll c s v := by
  obtain ⟨hmark, hslot, hout⟩ := h
  rw [ReleasesAll, hsa, hr, ← holdings_of_shares_eq hsh]
  exact ⟨hmark, hslot, hout⟩

theorem slotPending_congr {id : SlotId} (h : t.slot id = s.slot id) : t.slotPending id = s.slotPending id := by
  unfold State.slotPending
  rw [h]

theorem slotInFlight_congr {id : SlotId} (h : t.slot id = s.slot id) : t.slotInFlight id = s.slotInFlight id := by
  unfold State.slotInFlight
  rw [h]

theorem slotEmpty_congr {id : SlotId} (h : t.slot id = s.slot id) : t.slotEmpty id = s.slotEmpty id := by
  unfold State.slotEmpty
  rw [h]

theorem slotInFlight_not_empty {id : SlotId} (h : s.slotInFlight id = true) : s.slotEmpty id = false := by
  by_contra he
  rw [slotEmpty_not_inFlight (Bool.eq_true_of_not_eq_false he)] at h
  cases h

theorem Withdraws.congr (h : Withdraws c t u) (hcl : t.sa.claims = s.sa.claims) (hs : t.slot .claim = s.slot .claim) :
    Withdraws c s u := by
  obtain ⟨hp, hf, hw⟩ := h
  rw [slotPending_congr hs] at hp
  rw [slotInFlight_congr hs] at hf
  rw [hasClaim_of_claims hcl] at hw
  exact ⟨hp, hf, hw⟩

theorem requestWithdraw_inFlight (h : s.slotInFlight .claim = true) :
    (s.requestWithdraw c).flightCancelled .claim = true ∧ (s.requestWithdraw c).sa.withdrawMark = true := by
  have hp : s.slotPending .claim = false := by
    by_contra hp
    rw [slotPending_not_inFlight (Bool.eq_true_of_not_eq_false hp)] at h
    cases h
  let x : State := if s.hasClaim c.station then s.writeSlot .withdraw .withdraw else s
  have hx : x.slot .claim = s.slot .claim := by
    unfold x
    split
    · exact writeSlot_slot_other _ (by decide) _
    · rfl
  have he : s.requestWithdraw c = (x.cancelSlot .claim).mapSa fun a => { a with withdrawMark := true } := by
    unfold State.requestWithdraw
    rw [hp, h]
    rfl
  rw [he]
  exact ⟨flightCancelled_cancelSlot ((slotInFlight_congr hx).trans h), rfl⟩

theorem requestWithdraw_withdraw (h : s.hasClaim c.station = true) :
    (s.requestWithdraw c).slotEmpty .withdraw = false := by
  let x : State := if s.slotPending .claim then s.cancelSlot .claim else s
  have hx : (x.writeSlot .withdraw .withdraw).slotEmpty .withdraw = false := by
    unfold State.slotEmpty
    rw [writeSlot_slot_same]
    exact write_not_empty _ _
  have he : s.requestWithdraw c =
      if s.slotInFlight .claim then
        ((x.writeSlot .withdraw .withdraw).cancelSlot .claim).mapSa fun a => { a with withdrawMark := true }
      else x.writeSlot .withdraw .withdraw := by
    unfold State.requestWithdraw
    rw [h]
    rfl
  rw [he]
  split
  · refine (slotEmpty_congr ?_).trans hx
    exact cancelSlot_slot_other (x.writeSlot .withdraw .withdraw) (by decide)
  · exact hx

theorem requestWithdraw_withdraws : Withdraws c s (s.requestWithdraw c) :=
  ⟨requestWithdraw_claim, requestWithdraw_inFlight, requestWithdraw_withdraw⟩

/-- A station with no claim out has nothing to withdraw. -/
theorem withdrawIfOut_withdraws : Withdraws c s (s.withdrawIfOut c) := by
  unfold State.withdrawIfOut
  split
  · exact requestWithdraw_withdraws
  · next h =>
    unfold State.hasClaimOut at h
    simp only [Bool.or_eq_true, Bool.not_eq_true', not_or, Bool.not_eq_true, Bool.not_eq_false] at h
    obtain ⟨hcl, he⟩ := h
    refine ⟨fun hp => ?_, fun hf => ?_, fun hc => ?_⟩
    · rw [slotPending_not_empty hp] at he
      cases he
    · rw [slotInFlight_not_empty hf] at he
      cases he
    · rw [hcl] at hc
      cases hc

/-- R29: a want-to-claim request clears the release mark and has its CLAIM written. -/
theorem askClaim_shows (s : State) (c : Image) : (s.askClaim c).sa.releaseMark = false ∧
    (s.askClaim c).slotEmpty .claim = false := by
  refine ⟨rfl, ?_⟩
  unfold State.slotEmpty State.askClaim State.wantToClaim
  rw [writeSlot_slot_same]
  exact write_not_empty _ _

/-- A content that merges with nothing is PENDING where it is written, unless a frame of its slot is in flight. -/
theorem write_pending {x : Slot} {content : Content} (h : x.state.isInFlight = false)
    (hm : ∀ old, mergeContent old content = content) : (x.write content).state = .pending content := by
  unfold Slot.write
  cases hx : x.state with
  | empty => rfl
  | pending old => simp [hm]
  | inFlight => rw [hx] at h; cases h

theorem askClaim_pending (h : s.slotInFlight .claim = false) :
    ((s.askClaim c).slot .claim).state = .pending (.claim (s.computeUrgency c) c.maxHold) := by
  unfold State.askClaim State.wantToClaim
  rw [writeSlot_slot_same]
  exact write_pending h fun old => by cases old <;> rfl

/-! ## The claim condition (R76) -/

theorem claimCondition_iff (s : State) (c : Image) : s.claimCondition c = true ↔
    (∃ l, s.tankNow = some l ∧ (c.claimLevel ≤ l ∨ (s.srm.readiness = .storm ∧ c.drawdown < l))) ∧
      s.mu.membership = .linked ∧ s.ac.activity = .active ∧ s.holdings c.station = [] := by
  unfold State.claimCondition State.tankAtLeast State.tankAbove
  cases s.tankNow with
  | none => simp
  | some l => simp [and_assoc]

theorem testClaim_of_condition (hd : s.ts.drain = .idle) (h : s.claimCondition c = true) :
    s.testClaim c = (s.setDrain .wanting).askClaim c := if_pos ⟨hd, h⟩

theorem testClaim_of_not_idle (hd : s.ts.drain ≠ .idle) : s.testClaim c = s := if_neg fun ⟨h, _⟩ => hd h

theorem testClaim_of_no_condition (h : s.claimCondition c = false) : s.testClaim c = s :=
  if_neg fun ⟨_, hc⟩ => by rw [h] at hc; cases hc

/-! ## The machine on a kept sample (R76, R78, R80, R82, R83) -/

theorem tankAtMost_iff {l : Nat} (ht : s.tankNow = some l) (level : Nat) : s.tankAtMost level = true ↔ l ≤ level := by
  unfold State.tankAtMost
  rw [ht]
  exact decide_eq_true_iff

theorem tankAtLeast_iff {l : Nat} (ht : s.tankNow = some l) (level : Nat) : s.tankAtLeast level = true ↔ level ≤ l := by
  unfold State.tankAtLeast
  rw [ht]
  exact decide_eq_true_iff

theorem tankQuality_of_tankNow {l : Nat} (ht : s.tankNow = some l) : s.ts.tankQuality ≠ .failed := fun hq => by
  rw [tankNow_of_failed hq] at ht
  cases ht

/-- R83. -/
theorem failedTank_shows (s : State) (c : Image) : (s.failedTank c).ts.drain = .idle ∧ (s.failedTank c).ts.valve = 0 ∧
    (s.failedTank c).ts.parkTimer = none := ⟨rfl, rfl, rfl⟩

theorem failedTank_withdraws : Withdraws c s (s.failedTank c) := by
  let x : State := if (s.holdings c.station).isEmpty then s else s.releaseAll c
  have hx : x.sa.claims = s.sa.claims ∧ x.slot .claim = s.slot .claim := by
    unfold x
    split
    · exact ⟨rfl, rfl⟩
    · exact ⟨rfl, releaseAll_slot c _ s (by decide)⟩
  obtain ⟨hcl, hs⟩ := hx
  have hw : Withdraws c x ((x.withdrawIfOut c).stopDrain) := withdrawIfOut_withdraws (s := x)
  exact hw.congr hcl hs

theorem failedTank_releasesAll (h : s.holdings c.station ≠ []) : ReleasesAll c s (s.failedTank c) := by
  have he : s.failedTank c = ((s.releaseAll c).withdrawIfOut c).stopDrain := by
    unfold State.failedTank
    rw [if_neg (by simpa using h)]
  obtain ⟨l, w, hw⟩ := withdrawIfOut_eq (s.releaseAll c) c
  have hslot : ((s.releaseAll c).withdrawIfOut c).slot .release = (s.releaseAll c).slot .release :=
    withdrawIfOut_slot _ c (by decide) (by decide)
  have hsa : (s.failedTank c).sa = { (s.releaseAll c).sa with withdrawMark := w } := by
    rw [he]
    show ((s.releaseAll c).withdrawIfOut c).sa = _
    rw [hw]
  refine releaseAll_releasesAll.trans_grows (.of_sa ?_ ?_) ?_ ?_
  · rw [hsa]
  · rw [hsa]
  · rw [hsa]
  · rw [he]
    exact hslot

theorem drainSample_of_failed (h : s.ts.tankQuality = .failed) : s.drainSample c = s.failedTank c := if_pos h

section
variable {l : Nat} (ht : s.tankNow = some l)
include ht

theorem drainSample_idle (hd : s.ts.drain = .idle) : s.drainSample c = s.testClaim c := by
  unfold State.drainSample
  rw [if_neg (tankQuality_of_tankNow ht), hd]

theorem drainSample_wanting (hd : s.ts.drain = .wanting) :
    s.drainSample c = if l ≤ c.tankEmpty then (s.requestWithdraw c).stopDrain else s := by
  unfold State.drainSample
  rw [if_neg (tankQuality_of_tankNow ht), hd]
  exact if_congr (tankAtMost_iff ht _) rfl rfl

theorem drainSample_draining (hd : s.ts.drain = .draining) :
    s.drainSample c = if l ≤ c.tankEmpty then s.park c else s := by
  unfold State.drainSample
  rw [if_neg (tankQuality_of_tankNow ht), hd]
  exact if_congr (tankAtMost_iff ht _) rfl rfl

theorem drainSample_parked (hd : s.ts.drain = .parked) : s.drainSample c =
    if s.sa.releaseMark = false ∧ c.claimLevel ≤ l then
      s.mapTs fun t => { t with drain := .draining, parkTimer := none, parkJudged := false }
    else s := by
  unfold State.drainSample
  rw [if_neg (tankQuality_of_tankNow ht), hd]
  exact if_congr (and_congr_right' (tankAtLeast_iff ht _)) rfl rfl

end

theorem park_shows (s : State) (c : Image) : (s.park c).ts.drain = .parked ∧ (s.park c).ts.valve = 0 ∧
    (s.park c).ts.parkTimer = none := by
  unfold State.park
  obtain ⟨l, w, h⟩ := withdrawIfOut_eq
    (s.mapTs fun t => { t with drain := .parked, parkTimer := none, parkJudged := false, valve := 0 }) c
  rw [h]
  exact ⟨rfl, rfl, rfl⟩

theorem park_withdraws : Withdraws c s (s.park c) :=
  Withdraws.congr (t := s.mapTs fun t => { t with drain := .parked, parkTimer := none, parkJudged := false, valve := 0 })
    withdrawIfOut_withdraws rfl rfl

/-! ## A sample that a reply makes -/

theorem channelOf_valid {n l : Nat} {q : Quality} (h : (channelOf n q).level = some l) :
    (channelOf n q).quality.isValid = true := by
  unfold channelOf at h ⊢
  split at h
  · cases h
  · next hn =>
    rw [if_neg hn]
    cases q with
    | good | suspect => rfl
    | failed | noSample => cases h

theorem readReply_valid {r : SensorReply} {ch tk : Channel} {l : Nat} (hr : readReply r = some (ch, tk))
    (hl : tk.level = some l) : tk.quality.isValid = true := by
  unfold readReply at hr
  split at hr
  · cases hr
  split at hr
  · cases hr
  split at hr
  · obtain ⟨-, rfl⟩ := Prod.mk.inj (Option.some.inj hr)
    exact channelOf_valid hl
  · cases hr

theorem sampled_tankNow {ch tk : Channel} {l : Nat} (ha : s.ac.activity ≠ .waking) (hq : tk.quality.isValid = true)
    (hl : tk.level = some l) : (s.sampled c ch tk).tankNow = some l := by
  obtain ⟨-, htq, -, htl, -, -⟩ := sampled_kept (c := c) (ch := ch) (tk := tk) ha
  unfold State.tankNow
  rw [htq, htl, hq, hl]
  rfl

theorem sampled_views {ch tk : Channel} (ha : s.ac.activity ≠ .waking) :
    (s.sampled c ch tk).tables = s.tables ∧ (s.sampled c ch tk).member = s.member ∧
      (s.sampled c ch tk).weather = s.weather := by
  have htables := makeSample_tables s c ch tk
  have hmember := makeSample_member s c ch tk
  have hweather := makeSample_weather s c ch tk
  rw [makeSample_eq ha] at htables hmember hweather
  rw [drainSample_tables] at htables
  rw [drainSample_member] at hmember
  rw [drainSample_weather] at hweather
  exact ⟨htables, hmember, hweather⟩

/-! ### The machine on it, from each of its states -/

section
variable {ch tk : Channel} {l : Nat} (ha : s.ac.activity = .active) (hq : tk.quality.isValid = true) (hl : tk.level = some l)
include ha hq hl

theorem makeSample_of_idle (hd : s.ts.drain = .idle) :
    ((c.claimLevel ≤ l ∨ (s.srm.readiness = .storm ∧ c.drawdown < l)) → s.mu.membership = .linked →
      s.holdings c.station = [] →
      (s.makeSample c ch tk).ts.drain = .wanting ∧ (s.makeSample c ch tk).sa.releaseMark = false ∧
        (s.makeSample c ch tk).slotEmpty .claim = false ∧
        (s.slotInFlight .claim = false → ((s.makeSample c ch tk).slot .claim).state =
          .pending (.claim (s.makeSample c ch tk).ts.urgency c.maxHold))) ∧
    (¬ (c.claimLevel ≤ l ∨ (s.srm.readiness = .storm ∧ c.drawdown < l)) ∨ s.mu.membership ≠ .linked ∨
      s.holdings c.station ≠ [] →
      (s.makeSample c ch tk).ts.drain = .idle ∧ (s.makeSample c ch tk).slot .claim = s.slot .claim) := by
  have hnw : s.ac.activity ≠ .waking := by simp [ha]
  have hk : DrainKept s (s.sampled c ch tk) := sampled_drainKept
  have hx := hk.drain.trans hd
  have hclaim : (s.sampled c ch tk).slot .claim = s.slot .claim := hk.slot _ (by decide) (by decide) (by decide)
  have ht := sampled_tankNow (c := c) (ch := ch) hnw hq hl
  obtain ⟨htab, hmem, hwea⟩ := sampled_views (c := c) (ch := ch) (tk := tk) hnw
  have hcond : (s.sampled c ch tk).claimCondition c = true ↔
      (c.claimLevel ≤ l ∨ (s.srm.readiness = .storm ∧ c.drawdown < l)) ∧ s.mu.membership = .linked ∧
        s.holdings c.station = [] := by
    simp only [State.weather, Prod.mk.injEq] at hwea
    obtain ⟨-, hread, -⟩ := hwea
    rw [claimCondition_iff, ht, hread, membership_of_member hmem, holdings_of_tables htab, sampled_active ha]
    simp
  rw [makeSample_eq hnw, drainSample_idle ht hx]
  refine ⟨fun hlev hm hh => ?_, fun hno => ?_⟩
  · rw [testClaim_of_condition hx (hcond.mpr ⟨hlev, hm, hh⟩)]
    obtain ⟨hmark, hslot⟩ := askClaim_shows ((s.sampled c ch tk).setDrain .wanting) c
    refine ⟨rfl, hmark, hslot, fun hf => ?_⟩
    exact askClaim_pending ((slotInFlight_congr (s := s) (t := (s.sampled c ch tk).setDrain .wanting) hclaim).trans hf)
  · rw [testClaim_of_no_condition]
    · exact ⟨hx, hclaim⟩
    · by_contra hc
      obtain ⟨hlev, hm, hh⟩ := hcond.mp (Bool.eq_true_of_not_eq_false hc)
      rcases hno with hno | hno | hno
      · exact hno hlev
      · exact hno hm
      · exact hno hh

theorem makeSample_of_wanting (hd : s.ts.drain = .wanting) :
    (l ≤ c.tankEmpty → (s.makeSample c ch tk).ts.drain = .idle ∧ Withdraws c s (s.makeSample c ch tk)) ∧
    (c.tankEmpty < l →
      (s.makeSample c ch tk).ts.drain = .wanting ∧ (s.makeSample c ch tk).slot .claim = s.slot .claim) := by
  have hnw : s.ac.activity ≠ .waking := by simp [ha]
  have hk : DrainKept s (s.sampled c ch tk) := sampled_drainKept
  have hclaim : (s.sampled c ch tk).slot .claim = s.slot .claim := hk.slot _ (by decide) (by decide) (by decide)
  have hx := hk.drain.trans hd
  rw [makeSample_eq hnw, drainSample_wanting (sampled_tankNow hnw hq hl) hx]
  refine ⟨fun hle => ?_, fun hlt => ?_⟩
  · rw [if_pos hle]
    have hw : Withdraws c (s.sampled c ch tk) ((s.sampled c ch tk).requestWithdraw c).stopDrain :=
      requestWithdraw_withdraws (s := s.sampled c ch tk)
    exact ⟨rfl, hw.congr (by rw [hk.sa]) hclaim⟩
  · rw [if_neg (by omega)]
    exact ⟨hx, hclaim⟩

theorem makeSample_of_draining (hd : s.ts.drain = .draining) :
    (l ≤ c.tankEmpty → (s.makeSample c ch tk).ts.drain = .parked ∧ (s.makeSample c ch tk).ts.valve = 0 ∧
      (s.makeSample c ch tk).ts.parkTimer = none ∧ Withdraws c s (s.makeSample c ch tk)) ∧
    (c.tankEmpty < l →
      (s.makeSample c ch tk).ts.drain = .draining ∧ (s.makeSample c ch tk).slot .claim = s.slot .claim) := by
  have hnw : s.ac.activity ≠ .waking := by simp [ha]
  have hk : DrainKept s (s.sampled c ch tk) := sampled_drainKept
  have hclaim : (s.sampled c ch tk).slot .claim = s.slot .claim := hk.slot _ (by decide) (by decide) (by decide)
  have hx := hk.drain.trans hd
  rw [makeSample_eq hnw, drainSample_draining (sampled_tankNow hnw hq hl) hx]
  refine ⟨fun hle => ?_, fun hlt => ?_⟩
  · rw [if_pos hle]
    obtain ⟨h1, h2, h3⟩ := park_shows (s.sampled c ch tk) c
    exact ⟨h1, h2, h3, park_withdraws.congr (by rw [hk.sa]) hclaim⟩
  · rw [if_neg (by omega)]
    exact ⟨hx, hclaim⟩

theorem makeSample_of_parked (hd : s.ts.drain = .parked) :
    (s.sa.releaseMark = false → c.claimLevel ≤ l → (s.makeSample c ch tk).ts.drain = .draining ∧
      (s.makeSample c ch tk).ts.parkTimer = none ∧ (s.makeSample c ch tk).slot .claim = s.slot .claim) ∧
    (s.sa.releaseMark = true ∨ l < c.claimLevel →
      (s.makeSample c ch tk).ts.drain = .parked ∧ (s.makeSample c ch tk).ts.parkTimer = s.ts.parkTimer) := by
  have hnw : s.ac.activity ≠ .waking := by simp [ha]
  have hk : DrainKept s (s.sampled c ch tk) := sampled_drainKept
  have hclaim : (s.sampled c ch tk).slot .claim = s.slot .claim := hk.slot _ (by decide) (by decide) (by decide)
  have hx := hk.drain.trans hd
  rw [makeSample_eq hnw, drainSample_parked (sampled_tankNow hnw hq hl) hx, hk.sa]
  refine ⟨fun hm hle => ?_, fun hno => ?_⟩
  · rw [if_pos ⟨hm, hle⟩]
    exact ⟨rfl, rfl, hclaim⟩
  · rw [if_neg]
    · exact ⟨hx, hk.parkTimer⟩
    · rintro ⟨hm, hle⟩
      rcases hno with hno | hno
      · rw [hm] at hno
        cases hno
      · omega

end

theorem makeSample_of_failed {ch tk : Channel} (ha : s.ac.activity = .active) (hq : tk.quality = .failed) :
    (s.makeSample c ch tk).ts.drain = .idle ∧ (s.makeSample c ch tk).ts.valve = 0 ∧
      (s.makeSample c ch tk).ts.parkTimer = none ∧
      (s.holdings c.station ≠ [] → ReleasesAll c s (s.makeSample c ch tk)) ∧ Withdraws c s (s.makeSample c ch tk) := by
  have hnw : s.ac.activity ≠ .waking := by simp [ha]
  have hk : DrainKept s (s.sampled c ch tk) := sampled_drainKept
  have hclaim : (s.sampled c ch tk).slot .claim = s.slot .claim := hk.slot _ (by decide) (by decide) (by decide)
  have hfail : (s.sampled c ch tk).ts.tankQuality = .failed := (sampled_kept hnw).tankQuality.trans hq
  rw [makeSample_eq hnw, drainSample_of_failed hfail]
  obtain ⟨h1, h2, h3⟩ := failedTank_shows (s.sampled c ch tk) c
  refine ⟨h1, h2, h3, fun hh => ?_, failedTank_withdraws.congr (by rw [hk.sa]) hclaim⟩
  have hsh : (s.sampled c ch tk).sa.shares = s.sa.shares := by rw [hk.sa]
  exact (failedTank_releasesAll (by rwa [holdings_of_shares_eq hsh])).congr hsh rfl rfl

end

end Sys2Proof.Machine

namespace Sys2Proof.Machine
open Sys2Proof

/-! ## The machine at the end of a command (R76 to R79, R81, R82) -/

section
variable {s : State} {c : Image}

theorem isEmpty_holdings (s : State) (c : Image) :
    (!(s.holdings c.station).isEmpty) = decide (s.holdings c.station ≠ []) := by
  cases s.holdings c.station <;> rfl

/-! ### The report, from each of the machine's states -/

theorem drainReport_idle (hd : s.ts.drain = .idle) : s.drainReport c =
    if s.holdings c.station ≠ [] ∧ s.sa.releaseMark = false then s.releaseAll c else s := by
  unfold State.drainReport
  dsimp only
  rw [hd]
  simp only [isEmpty_holdings, decide_eq_true_eq]

theorem drainReport_wanting (hd : s.ts.drain = .wanting) : s.drainReport c =
    if s.holdings c.station ≠ [] then s.setDrain .draining
    else if s.hasClaim c.station = false ∧ s.slotEmpty .claim = true ∧ s.slotEmpty .withdraw = true then s.askClaim c
    else s := by
  unfold State.drainReport
  dsimp only
  rw [hd]
  simp only [isEmpty_holdings, decide_eq_true_eq]

theorem drainReport_draining (hd : s.ts.drain = .draining) : s.drainReport c =
    if s.holdings c.station ≠ [] then s
    else if s.hasClaim c.station then s.setDrain .wanting else (s.setDrain .wanting).askClaim c := by
  unfold State.drainReport
  dsimp only
  rw [hd]
  simp only [isEmpty_holdings, decide_eq_true_eq]

theorem drainReport_parked (hd : s.ts.drain = .parked) : s.drainReport c =
    if s.holdings c.station = [] ∧ s.sa.releaseMark = false then s.stopDrain else s.judgeParked c := by
  unfold State.drainReport
  dsimp only
  rw [hd]
  simp only [isEmpty_holdings, decide_eq_false_iff_not, not_not]

/-! ### What the rest of the command's end leaves of it -/

/-- The machine at the end of a command, before the valve follows it. -/
def State.drained (s b : State) (c : Image) : State := (s.recomputeUrgency c).drainStep b c

/-- The slots of the drain machine's requests. -/
def drainSlots : List SlotId := [.release, .claim, .withdraw]

theorem reported_drainSlot (b : State) {id : SlotId} (h : id ∈ drainSlots) : (s.reported b c).slot id = (s.drained b c).slot id := by
  have hid : id ≠ .join ∧ id ≠ .noticeCondition ∧ id ∉ replySlots := by
    simp only [drainSlots, List.mem_cons, List.not_mem_nil, or_false] at h
    rcases h with rfl | rfl | rfl <;> decide
  obtain ⟨h1, h2, h3⟩ := hid
  unfold State.reported
  rw [runService_slot c id _ h3, writeJoinIfDue_slot c id _ h1]
  show (State.controlCalm _ c).slot id = _
  rw [controlCalm_slot, latchStanding_slot c id _ h2]
  rfl

theorem settle_drainSlot (b : State) {id : SlotId} (h : id ∈ drainSlots) :
    (settle c b s).slotEmpty id = (s.drained b c).slotEmpty id := by
  have hid : id ≠ .status ∧ id ≠ .dormant := by
    simp only [drainSlots, List.mem_cons, List.not_mem_nil, or_false] at h
    rcases h with rfl | rfl | rfl <;> decide
  unfold settle
  rw [offer_slotEmpty, settleBlocks_eq]
  refine slotEmpty_congr ?_
  rw [watchDormancy_slot c id _ hid.2, statusOnChange_slot id _ b hid.1, reported_drainSlot b h]

theorem settle_drain (b : State) : (settle c b s).ts.drain = (s.drained b c).ts.drain ∧
    (settle c b s).ts.parkTimer = (s.drained b c).ts.parkTimer ∧ (settle c b s).sa = (s.drained b c).sa := by
  obtain ⟨hts, hsa⟩ := settle_ts_sa c b s
  exact ⟨(congrArg TsState.drain hts).trans rfl, (congrArg TsState.parkTimer hts).trans rfl, hsa⟩

theorem settle_releasesAll {b : State} (h : ReleasesAll c s (s.drained b c)) : ReleasesAll c s (settle c b s) :=
  h.congr rfl (settle_drain b).2.2 (settle_drainSlot b (by decide))

/-- In LINKED the machine takes its report, and where an event calls for it the claim condition is tested. -/
theorem drained_linked (b : State) (hm : s.mu.membership = .linked) : s.drained b c =
    if claimTestDue c b ((s.recomputeUrgency c).drainReport c) then ((s.recomputeUrgency c).drainReport c).testClaim c
    else (s.recomputeUrgency c).drainReport c :=
  if_pos (c := (s.recomputeUrgency c).mu.membership = .linked) hm

/-- The test is for an IDLE machine under the claim condition. -/
theorem drained_untested (b : State) (hm : s.mu.membership = .linked)
    (h : ((s.recomputeUrgency c).drainReport c).ts.drain ≠ .idle ∨
      ((s.recomputeUrgency c).drainReport c).claimCondition c = false) :
    s.drained b c = (s.recomputeUrgency c).drainReport c := by
  rw [drained_linked b hm]
  rcases h with h | h
  · rw [testClaim_of_not_idle h, ite_self]
  · rw [testClaim_of_no_condition h, ite_self]

theorem claimTestDue_iff (b t : State) : claimTestDue c b t = true ↔
    (b.mu.membership ≠ .linked ∧ t.mu.membership = .linked) ∨ (b.ac.activity ≠ .active ∧ t.ac.activity = .active) ∨
      (b.holdings c.station ≠ [] ∧ t.holdings c.station = []) ∨ b.srm.readiness ≠ t.srm.readiness ∨
      (b.ts.drain = .parked ∧ t.ts.drain = .idle) := by
  unfold claimTestDue
  simp [or_assoc]

/-! ### From each of the machine's states -/

section
variable (b : State) (hm : s.mu.membership = .linked)
include hm

theorem settle_idle_holding (hd : s.ts.drain = .idle) (hh : s.holdings c.station ≠ []) :
    (settle c b s).ts.drain = .idle ∧ (s.sa.releaseMark = false → ReleasesAll c s (settle c b s)) := by
  have hr := drainReport_idle (s := s.recomputeUrgency c) (c := c) hd
  have hdr : s.drained b c = (s.recomputeUrgency c).drainReport c := by
    refine drained_untested b hm (.inr ?_)
    by_contra hc
    obtain ⟨-, -, -, hno⟩ := (claimCondition_iff _ c).mp (Bool.eq_true_of_not_eq_false hc)
    rw [hr] at hno
    split at hno <;> exact hh hno
  refine ⟨?_, fun hmark => settle_releasesAll ?_⟩
  · rw [(settle_drain b).1, hdr, hr]
    split <;> exact hd
  · rw [hdr, hr, if_pos ⟨hh, hmark⟩]
    exact releaseAll_releasesAll (s := s.recomputeUrgency c)

theorem settle_idle_tested (hd : s.ts.drain = .idle) (hh : s.holdings c.station = []) (ha : s.ac.activity = .active)
    (hdue : b.mu.membership ≠ .linked ∨ b.ac.activity ≠ .active ∨ b.holdings c.station ≠ [] ∨
      b.srm.readiness ≠ s.srm.readiness ∨ b.ts.drain = .parked) :
    ((settle c b s).ts.drain = .wanting ↔ ∃ l, s.tankNow = some l ∧
      (c.claimLevel ≤ l ∨ (s.srm.readiness = .storm ∧ c.drawdown < l))) ∧
    ((settle c b s).ts.drain ≠ .wanting → (settle c b s).ts.drain = .idle) ∧
    ((settle c b s).ts.drain = .wanting →
      (settle c b s).slotEmpty .claim = false ∧ (settle c b s).sa.releaseMark = false) := by
  let x := s.recomputeUrgency c
  have hr : x.drainReport c = x := by
    rw [drainReport_idle (s := x) hd]
    exact if_neg fun ⟨h, _⟩ => h hh
  have hdr : s.drained b c = x.testClaim c := by
    rw [drained_linked b hm, hr, if_pos ((claimTestDue_iff b x).mpr ?_)]
    rcases hdue with h | h | h | h | h
    · exact .inl ⟨h, hm⟩
    · exact .inr (.inl ⟨h, ha⟩)
    · exact .inr (.inr (.inl ⟨h, hh⟩))
    · exact .inr (.inr (.inr (.inl h)))
    · exact .inr (.inr (.inr (.inr ⟨h, hd⟩)))
  have hcond : x.claimCondition c = true ↔ ∃ l, s.tankNow = some l ∧
      (c.claimLevel ≤ l ∨ (s.srm.readiness = .storm ∧ c.drawdown < l)) :=
    (claimCondition_iff x c).trans (and_iff_left ⟨hm, ha, hh⟩)
  obtain ⟨hdrain, -, hsa⟩ := settle_drain (s := s) (c := c) b
  rw [hdrain, hsa, settle_drainSlot b (by decide), hdr, ← hcond]
  cases hc : x.claimCondition c with
  | true =>
    rw [testClaim_of_condition (s := x) hd hc]
    obtain ⟨hmark, hslot⟩ := askClaim_shows (x.setDrain .wanting) c
    exact ⟨iff_of_true rfl rfl, fun hn => absurd rfl hn, fun _ => ⟨hslot, hmark⟩⟩
  | false =>
    rw [testClaim_of_no_condition hc]
    have hne : x.ts.drain ≠ .wanting := by
      show s.ts.drain ≠ _
      rw [hd]
      decide
    exact ⟨iff_of_false hne (by decide), fun _ => hd, fun h => absurd h hne⟩

theorem settle_wanting_holding (hd : s.ts.drain = .wanting) (hh : s.holdings c.station ≠ []) :
    (settle c b s).ts.drain = .draining := by
  have hr : (s.recomputeUrgency c).drainReport c = (s.recomputeUrgency c).setDrain .draining := by
    rw [drainReport_wanting (s := s.recomputeUrgency c) hd]
    exact if_pos hh
  rw [(settle_drain b).1, drained_untested b hm (.inl (by rw [hr]; exact Drain.noConfusion)), hr]
  rfl

theorem settle_wanting_waiting (hd : s.ts.drain = .wanting) (hh : s.holdings c.station = []) :
    (settle c b s).ts.drain = .wanting ∧
      (s.hasClaim c.station = false → s.slotEmpty .claim = true → s.slotEmpty .withdraw = true →
        (settle c b s).slotEmpty .claim = false) := by
  let x := s.recomputeUrgency c
  have hr : x.drainReport c =
      if s.hasClaim c.station = false ∧ s.slotEmpty .claim = true ∧ s.slotEmpty .withdraw = true then x.askClaim c else x := by
    rw [drainReport_wanting (s := x) hd]
    exact if_neg (not_not.mpr hh)
  have hw : (x.drainReport c).ts.drain = .wanting := by
    rw [hr]
    split <;> exact hd
  have hdr : s.drained b c = x.drainReport c := drained_untested b hm (.inl (by rw [hw]; decide))
  rw [(settle_drain b).1, settle_drainSlot b (by decide), hdr]
  refine ⟨hw, fun h1 h2 h3 => ?_⟩
  rw [hr, if_pos ⟨h1, h2, h3⟩]
  exact (askClaim_shows x c).2

theorem settle_draining_holding (hd : s.ts.drain = .draining) (hh : s.holdings c.station ≠ []) :
    (settle c b s).ts.drain = .draining := by
  have hr : (s.recomputeUrgency c).drainReport c = s.recomputeUrgency c := by
    rw [drainReport_draining (s := s.recomputeUrgency c) hd]
    exact if_pos hh
  have hx : (s.recomputeUrgency c).ts.drain = .draining := hd
  rw [(settle_drain b).1, drained_untested b hm (.inl (by rw [hr, hx]; decide)), hr, hx]

theorem settle_draining_done (hd : s.ts.drain = .draining) (hh : s.holdings c.station = []) :
    (settle c b s).ts.drain = .wanting ∧ (s.hasClaim c.station = false → (settle c b s).slotEmpty .claim = false) := by
  let x := s.recomputeUrgency c
  have hr : x.drainReport c =
      if s.hasClaim c.station then x.setDrain .wanting else (x.setDrain .wanting).askClaim c := by
    rw [drainReport_draining (s := x) hd]
    exact if_neg (not_not.mpr hh)
  have hw : (x.drainReport c).ts.drain = .wanting := by
    rw [hr]
    split <;> rfl
  have hdr : s.drained b c = x.drainReport c := drained_untested b hm (.inl (by rw [hw]; decide))
  rw [(settle_drain b).1, settle_drainSlot b (by decide), hdr]
  refine ⟨hw, fun hc => ?_⟩
  rw [hr, hc]
  exact (askClaim_shows (x.setDrain .wanting) c).2

theorem settle_parked_done (hd : s.ts.drain = .parked) (hh : s.holdings c.station = []) (hmark : s.sa.releaseMark = false) :
    (settle c b s).ts.drain ≠ .parked ∧ (settle c b s).ts.parkTimer = none := by
  have hr : (s.recomputeUrgency c).drainReport c = (s.recomputeUrgency c).stopDrain := by
    rw [drainReport_parked (s := s.recomputeUrgency c) hd]
    exact if_pos ⟨hh, hmark⟩
  obtain ⟨hdrain, htimer, -⟩ := settle_drain (s := s) (c := c) b
  rw [hdrain, htimer, drained_linked b hm, hr]
  have hclaim : ∀ y : State, y.ts.drain = .idle → y.ts.parkTimer = none →
      (y.testClaim c).ts.drain ≠ .parked ∧ (y.testClaim c).ts.parkTimer = none := fun y hy hp => by
    unfold State.testClaim
    split
    · exact ⟨Drain.noConfusion, hp⟩
    · exact ⟨by rw [hy]; decide, hp⟩
  split
  · exact hclaim _ rfl rfl
  · exact ⟨Drain.noConfusion, rfl⟩

/-- A PARKED machine that stays so judges the list. -/
theorem drained_parked (hd : s.ts.drain = .parked) (hno : s.holdings c.station ≠ [] ∨ s.sa.releaseMark = true) :
    s.drained b c = (s.recomputeUrgency c).judgeParked c ∧ (s.drained b c).ts.drain = .parked := by
  have hr : (s.recomputeUrgency c).drainReport c = (s.recomputeUrgency c).judgeParked c := by
    rw [drainReport_parked (s := s.recomputeUrgency c) hd]
    refine if_neg fun ⟨hh, hmark⟩ => ?_
    rcases hno with h | h
    · exact h hh
    · exact absurd (h.symm.trans hmark) (by decide)
  have hp : ((s.recomputeUrgency c).judgeParked c).ts.drain = .parked := by
    unfold State.judgeParked
    dsimp only
    (repeat' split) <;> exact hd
  have hdr : s.drained b c = (s.recomputeUrgency c).judgeParked c := by
    rw [← hr]
    exact drained_untested b hm (.inl (by rw [hr, hp]; decide))
  exact ⟨hdr, hdr ▸ hp⟩

theorem settle_parked (hd : s.ts.drain = .parked) (hno : s.holdings c.station ≠ [] ∨ s.sa.releaseMark = true) :
    (settle c b s).ts.drain = .parked ∧
    (s.ts.parkJudged = true ∨ s.sa.releaseMark = true ∨ s.hasClaim c.station = true →
      (settle c b s).ts.parkTimer = s.ts.parkTimer ∧ (settle c b s).sa.releaseMark = s.sa.releaseMark) ∧
    (s.ts.parkJudged = false → s.sa.releaseMark = false → s.hasClaim c.station = false →
      (s.sa.claims ≠ [] ∨ c.park = 0 → ReleasesAll c s (settle c b s)) ∧
      (s.sa.claims = [] → c.park ≠ 0 →
        (settle c b s).ts.parkTimer = some (1000 * c.park) ∧ (settle c b s).sa.releaseMark = false)) := by
  let x := s.recomputeUrgency c
  let y := x.mapTs fun t => { t with parkJudged := true }
  obtain ⟨hdr, hp⟩ := drained_parked b hm hd hno
  obtain ⟨hdrain, htimer, hsa⟩ := settle_drain (s := s) (c := c) b
  have hj : x.judgeParked c =
      if s.ts.parkJudged = false ∧ s.sa.releaseMark = false ∧ s.hasClaim c.station = false then
        if s.sa.claims.isEmpty = false ∨ c.park = 0 then y.releaseAll c
        else y.mapTs fun t => { t with parkTimer := some (secondsMs c.park) }
      else x := rfl
  rw [hj] at hdr
  refine ⟨hdrain.trans hp, fun hout => ?_, fun h1 h2 h3 => ⟨fun hrel => settle_releasesAll ?_, fun hcl hpark => ?_⟩⟩
  · rw [htimer, hsa, hdr, if_neg]
    · exact ⟨rfl, rfl⟩
    · rintro ⟨h1, h2, h3⟩
      rcases hout with h | h | h
      · exact absurd (h.symm.trans h1) (by decide)
      · exact absurd (h.symm.trans h2) (by decide)
      · exact absurd (h.symm.trans h3) (by decide)
  · rw [hdr, if_pos ⟨h1, h2, h3⟩, if_pos (by simpa using hrel)]
    exact releaseAll_releasesAll (s := y)
  · rw [htimer, hsa, hdr, if_pos ⟨h1, h2, h3⟩, if_neg (by simp [hcl, hpark])]
    refine ⟨congrArg some ?_, h2⟩
    unfold secondsMs
    omega

end

end

/-- Settles O42, from each of the machine's states. -/
theorem drainMachine : Obligations.DrainMachine := by
  refine ⟨fun s c r ch tk hc hw hr ha => ⟨_, sensorReply_eq hc hw hr, makeSample_tables .., makeSample_member ..,
    makeSample_of_failed ha, fun l hl => ?_⟩, fun c b s => ⟨fun hm => (settle_drain_unlinked c b s hm).1, fun hm => ?_⟩⟩
  · have hq := readReply_valid hr hl
    exact ⟨makeSample_of_idle ha hq hl, makeSample_of_wanting ha hq hl, makeSample_of_draining ha hq hl,
      makeSample_of_parked ha hq hl⟩
  · exact ⟨settle_idle_holding b hm, settle_idle_tested b hm, settle_wanting_holding b hm, settle_wanting_waiting b hm,
      settle_draining_holding b hm, settle_draining_done b hm, settle_parked_done b hm, settle_parked b hm⟩

end Sys2Proof.Machine

namespace Sys2Proof.Machine
open Sys2Proof

/-! ## The source zone of an alert event (R104) -/

theorem mem_zoneNumbers {z : Nat} : z ∈ zoneNumbers ↔ 1 ≤ z ∧ z < 16 := by
  have : zoneNumbers = List.range' 1 15 := by decide
  rw [this, List.mem_range'_1]

theorem zoneNumbers_pairwise : zoneNumbers.Pairwise (· < ·) := by decide

/-- In an ascending list a search finds the lowest. -/
theorem find?_lowest {l : List Nat} {p : Nat → Bool} {z : Nat} (hl : l.Pairwise (· < ·)) (h : l.find? p = some z) :
    ∀ y ∈ l, y < z → p y = false := by
  obtain ⟨-, as, bs, rfl, has⟩ := List.find?_eq_some_iff_append.mp h
  intro y hy hlt
  rcases List.mem_append.mp hy with hy | hy
  · simpa using has y hy
  · rcases List.mem_cons.mp hy with rfl | hy
    · omega
    · have hz := List.rel_of_pairwise_cons (List.pairwise_append.mp hl).2.1 hy
      omega

theorem Grade.max_eq_severe {a b : Grade} : a.max b = .severe ↔ a = .severe ∨ b = .severe := by
  cases a <;> cases b <;> decide

section
variable {s t : State} {c : Image}

theorem foldl_max_severe (f : Nat → Grade) (l : List Nat) (g : Grade) :
    l.foldl (fun g z => g.max (f z)) g = .severe ↔ g = .severe ∨ ∃ z ∈ l, f z = .severe := by
  induction l generalizing g with
  | nil => simp
  | cons z l ih => rw [List.foldl_cons, ih, Grade.max_eq_severe]; simp [or_assoc]

theorem heededGrade_severe_iff (s : State) (c : Image) : s.heededGrade c = .severe ↔
    s.ru.localGrade = .severe ∨ ∃ z ∈ zoneNumbers, isHeeded c z = true ∧ s.zoneGrade z = .severe := by
  unfold State.heededGrade
  rw [foldl_max_severe]
  simp [and_assoc]

theorem zoneGrade_zero (s : State) : s.zoneGrade 0 = .none := by
  unfold State.zoneGrade
  split <;> rfl

/-- The source of a SEVERE event is the own zone by its local grade, or else the lowest heeded zone that stands SEVERE. -/
theorem sourceZone_severe (hg : s.heededGrade c = .severe) :
    ∃ z, s.sourceZone c .severe = some z ∧ (s.ru.localGrade = .severe → z = c.zone) ∧
      (s.ru.localGrade ≠ .severe → isHeeded c z = true ∧ s.zoneGrade z = .severe ∧
        ∀ y, y < z → isHeeded c y = true → s.zoneGrade y ≠ .severe) := by
  unfold State.sourceZone
  rw [if_neg (by decide)]
  by_cases hl : s.ru.localGrade = .severe
  · exact ⟨c.zone, if_pos hl, fun _ => rfl, fun h => absurd hl h⟩
  rw [if_neg hl]
  let p : Nat → Bool := fun z => isHeeded c z && decide (s.zoneGrade z = .severe)
  have hp : ∀ z, p z = true ↔ isHeeded c z = true ∧ s.zoneGrade z = .severe := fun z => by simp [p]
  obtain ⟨z, hz, hzp⟩ := ((heededGrade_severe_iff s c).mp hg).resolve_left hl
  cases hf : zoneNumbers.find? p with
  | none => exact absurd ((hp z).mpr hzp) (List.find?_eq_none.mp hf z hz)
  | some w =>
    obtain ⟨hheed, hsev⟩ := (hp w).mp (List.find?_some hf)
    refine ⟨w, rfl, fun h => absurd h hl, fun _ => ⟨hheed, hsev, fun y hy hyh hys => ?_⟩⟩
    have hw := mem_zoneNumbers.mp (List.mem_of_find?_eq_some hf)
    rcases Nat.eq_zero_or_pos y with rfl | hpos
    · rw [zoneGrade_zero] at hys
      cases hys
    · have hno := find?_lowest zoneNumbers_pairwise hf y (mem_zoneNumbers.mpr ⟨hpos, by omega⟩) hy
      rw [(hp y).mpr ⟨hyh, hys⟩] at hno
      cases hno

/-! ## One alert event (R105 to R107) -/

/-- The step sees the readiness monitor, the rain unit and the spill counter. -/
theorem Climbs.congr {u v : State} (h : Climbs c t u) (hs : t.srm = s.srm) (hsc : t.sc = s.sc) (hw : v.weather = u.weather)
    (hv : v.sc = u.sc) : Climbs c s v := by
  simp only [State.weather, Prod.mk.injEq] at hw
  obtain ⟨hru, h1, h2, h3, h4⟩ := hw
  have hg : v.heededGrade c = u.heededGrade c := heeded_congr hru c
  have hz : ∀ z, v.zoneGrade z = u.zoneGrade z := fun z => by
    unfold State.zoneGrade
    rw [hru]
  unfold Climbs at h ⊢
  rw [hg, hru, h1, h2, h3, h4, hv, ← hs, ← hsc]
  simp only [hz]
  exact h

theorem climbs_stay (h : climb s.srm.readiness (s.heededGrade c) = s.srm.readiness) : Climbs c s s := by
  refine ⟨h.symm, (if_pos rfl).symm, fun hn => absurd rfl hn, fun _ => rfl, fun _ => ⟨rfl, rfl⟩, fun ha hst => ?_⟩
  rw [ha] at hst
  cases hst

/-- A step below STORM starts the step window. -/
theorem climbs_step {r : Readiness} (hcl : climb s.srm.readiness (s.heededGrade c) = r) (hne : r ≠ s.srm.readiness)
    (hst : r ≠ .storm) (hru : t.ru = s.ru) (hsc : t.sc = s.sc)
    (ht : t.srm = { s.srm with readiness := r, stepWindow := some (minutesMs c.stepWindow), stepFresh := true }) :
    Climbs c s t := by
  unfold Climbs
  rw [ht, hsc, heeded_congr hru c, hcl]
  refine ⟨rfl, ?_, fun _ => ⟨fun _ => hst, fun _ => rfl⟩, fun h => absurd h hne, fun _ => ⟨rfl, rfl⟩, fun _ h => absurd h hst⟩
  rw [if_neg hne, if_neg hst]
  rfl

/-- The step to STORM brings the triggering alert, and the open record its storm part (R107, R128). -/
theorem climbs_storm {z : Nat} (ha : s.srm.readiness = .armed) (hg : s.heededGrade c = .severe)
    (hz : s.sourceZone c .severe = some z) (hru : t.ru = s.ru)
    (ht : t.srm = { s.srm with
      readiness := .storm, stepWindow := none, stepFresh := false, calm := none
      trigger := some { zone := z, grade := .severe } })
    (hsc : t.sc = { s.sc with record := s.sc.record.map fun r => { r with stormPart := r.stormPart.or t.srm.trigger } }) :
    Climbs c s t := by
  obtain ⟨w, hw, hown, hlow⟩ := sourceZone_severe hg
  obtain rfl : w = z := Option.some.inj (hw.symm.trans hz)
  have hne : Readiness.storm ≠ s.srm.readiness := by rw [ha]; decide
  have hzg : ∀ y, t.zoneGrade y = s.zoneGrade y := fun y => by
    unfold State.zoneGrade
    rw [hru]
  unfold Climbs
  simp only [hzg]
  rw [heeded_congr hru c, hg, hru, ha]
  refine ⟨by rw [ht]; rfl, ?_, fun _ => ?_, fun h => ?_, fun h => ?_, fun _ _ => ⟨⟨w, by rw [ht], hown, hlow⟩, hsc⟩⟩
  · rw [ht, if_neg Readiness.noConfusion]
    rfl
  · rw [ht]
    exact iff_of_false (by simp) (by simp)
  · rw [ht] at h
    cases h
  · rw [ht] at h
    rcases h with h | h
    · cases h
    · exact absurd rfl h

theorem stormFlag_sc (s : State) : s.stormFlag.sc =
    { s.sc with record := s.sc.record.map fun r => { r with stormPart := r.stormPart.or s.stormPartNow } } := by
  refine congrArg (fun f => { s.sc with record := s.sc.record.map f }) (funext fun r => ?_)
  obtain ⟨_, _, _, _, _, _, _, _, _, _, _, part⟩ := r
  cases part <;> rfl

theorem one_le_code {g : Grade} : 1 ≤ g.code ↔ g ≠ .none := by cases g <;> decide

theorem two_le_code {g : Grade} : 2 ≤ g.code ↔ g = .warn ∨ g = .severe := by cases g <;> decide

/-- R105 to R107, R128: what an alert event leaves of the monitor and of the open record. -/
theorem alertEvent_climbs (s : State) (c : Image) : Climbs c s (s.alertEvent c) := by
  unfold State.alertEvent State.readinessEvent
  dsimp only
  split
  · next h =>
    split
    · next hg =>
      have hg := one_le_code.mp hg
      refine climbs_step (r := .watch) (by rw [h]; exact if_neg hg) (by rw [h]; decide) (by decide)
        (wakeTrigger_ru _ c).1 ?_ (wakeTrigger_ru _ c).2
      have hsp := wakeTrigger_spills (s.mapSrm fun r =>
        { r with readiness := .watch, stepWindow := some (minutesMs c.stepWindow), stepFresh := true }) c
      exact congrArg Prod.fst hsp
    · next hg => exact climbs_stay (by rw [h]; exact if_pos (not_not.mp (one_le_code.not.mp hg)))
  · next h =>
    split
    · next hg =>
      exact climbs_step (r := .armed) (by rw [h]; exact if_pos (two_le_code.mp hg)) (by rw [h]; decide) (by decide) rfl rfl rfl
    · next hg => exact climbs_stay (by rw [h]; exact if_neg (two_le_code.not.mp hg))
  · next h =>
    split
    · next hg =>
      obtain ⟨z, hz, -, -⟩ := sourceZone_severe hg
      rw [hg, hz]
      exact climbs_storm h hg hz rfl rfl (stormFlag_sc _)
    · next hg => exact climbs_stay (by rw [h]; exact if_neg hg)
  · next h => exact climbs_stay (by rw [h]; rfl)

/-! ## The age of an alert (R97) -/

theorem zone_ne_zero_of_age {z : Nat} (h : (s.zoneEntry z).age.isSome = true) : z ≠ 0 := by
  rintro rfl
  unfold State.zoneEntry at h
  split at h <;> cases h

theorem zoneEntry_mapZone_blank (s : State) {z : Nat} (hz : z ≠ 0) (y : Nat) :
    (s.mapZone z fun _ => .blank).zoneEntry y = if y = z then .blank else s.zoneEntry y := by
  unfold State.zoneEntry State.mapZone
  rw [mapRu_ru]
  cases s.ru.alerts with
  | none => simp
  | some l =>
    simp only [Option.map_some, if_neg hz, List.getD_eq_getElem?_getD, getElem?_updateAt]
    by_cases hy : y = z
    · subst hy
      cases l[y - 1]? <;> simp
    · by_cases h0 : y = 0
      · simp [h0]
      · rw [if_neg hy, if_neg (by omega : ¬ y - 1 = z - 1)]

theorem zoneEntry_congr (h : t.ru = s.ru) (z : Nat) : t.zoneEntry z = s.zoneEntry z := by
  unfold State.zoneEntry
  rw [h]

/-- An alert event leaves the tank supervisor, but for the sample timer that a waking restarts. -/
theorem wakeTrigger_held (s : State) (c : Image) : (s.wakeTrigger c).held = s.held := by
  unfold State.wakeTrigger
  split
  · rfl
  · split <;> rfl
  · rfl

theorem wakeTrigger_tank (ha : s.ac.activity ≠ .dormant) : (s.wakeTrigger c).tank = s.tank := by
  unfold State.wakeTrigger
  split
  · next h => exact absurd h ha
  · split <;> rfl
  · rfl

theorem alertEvent_held (s : State) (c : Image) : (s.alertEvent c).held = s.held := by
  unfold State.alertEvent State.readinessEvent
  dsimp only
  split
  · split
    · exact wakeTrigger_held _ c
    · rfl
  · split <;> rfl
  · split <;> rfl
  · rfl

theorem alertEvent_tank (ha : s.ac.activity ≠ .dormant) : (s.alertEvent c).tank = s.tank := by
  unfold State.alertEvent State.readinessEvent
  dsimp only
  split
  · split
    · exact wakeTrigger_tank (s := s.mapSrm _) ha
    · rfl
  · split <;> rfl
  · split <;> rfl
  · rfl

theorem settle_held (c : Image) (b s : State) : (settle c b s).held = s.held := by simp [State.held]

/-- R97, R100: an entry whose age has run out becomes NONE, and at a heeded zone an alert event follows. -/
theorem alertAgeExpiry_shows {z : Nat} (hc : s.running = some c) (h : (s.zoneEntry z).age.isSome = true) :
    ∃ t, exec (.alertAgeExpiry z) s = .next t ∧
      t.zoneEntry z = .blank ∧ (∀ y, y ≠ z → t.zoneEntry y = s.zoneEntry y) ∧
      (isHeeded c z = true → Climbs c s t) ∧
      (isHeeded c z = false → t.srm.readiness = s.srm.readiness ∧ t.srm.stepWindow = s.srm.stepWindow ∧
        t.srm.stepFresh = s.srm.stepFresh ∧ t.srm.trigger = s.srm.trigger ∧ t.sc = s.sc) ∧ t.books = s.books ∧
      t.held = s.held ∧ (s.ac.activity ≠ .dormant → t.tank = s.tank) ∧ t.tables = s.tables ∧ t.member = s.member := by
  let x : State := s.mapZone z fun _ => .blank
  let u : State := if isHeeded c z then x.alertEvent c else x
  have hex : exec (.alertAgeExpiry z) s = .next (settle c s u) := by
    refine congrArg Host.Outcome.next ?_
    rw [onRunning_some hc, if_pos h]
  have hru : (settle c s u).ru = x.ru := by
    rw [settle_ru]
    unfold u
    split
    · exact (alertEvent_climb x c).2
    · rfl
  have hentry : ∀ y, (settle c s u).zoneEntry y = if y = z then .blank else s.zoneEntry y := fun y =>
    (zoneEntry_congr hru y).trans (zoneEntry_mapZone_blank s (zone_ne_zero_of_age h) y)
  have hkeep : u.books = s.books ∧ u.held = s.held ∧ (s.ac.activity ≠ .dormant → u.tank = s.tank) ∧
      u.tables = s.tables ∧ u.member = s.member := by
    unfold u
    split
    · exact ⟨(alertEvent_books x c).trans rfl, (alertEvent_held x c).trans rfl, fun ha => (alertEvent_tank (s := x) ha).trans rfl,
        (alertEvent_tables x c).trans rfl, (alertEvent_member x c).trans rfl⟩
    · exact ⟨rfl, rfl, fun _ => rfl, rfl, rfl⟩
  refine ⟨_, hex, (hentry z).trans (if_pos rfl), fun y hy => (hentry y).trans (if_neg hy), fun hz => ?_, fun hz => ?_, ?_⟩
  · have hu : u = x.alertEvent c := if_pos hz
    rw [hu]
    exact (alertEvent_climbs x c).congr rfl rfl (settle_weather ..) (settle_sc ..)
  · have hu : u = x := if_neg (by rw [hz]; decide)
    rw [hu]
    simp only [settle_readiness, settle_stepWindow, settle_stepFresh, settle_trigger, settle_sc]
    exact ⟨rfl, rfl, rfl, rfl, rfl⟩
  · rw [settle_books, settle_held, settle_tank, settle_tables, settle_member]
    exact hkeep

/-! ## The other timers of the blocks -/

/-- R93. -/
theorem refreshTimerExpiry_shows (hc : s.running = some c) (h : s.ru.refresh.isSome = true) :
    ∃ u, exec .refreshTimerExpiry s = .next (settle c s u) ∧ u.ru.refresh = some (1000 * c.alertRefresh) ∧
      (s.slotEmpty .alert = true ∨ s.slotPending .alert = true →
        (u.slot .alert).state = .pending (.alert c.zone s.ru.localGrade)) ∧
      u.srm = s.srm ∧ u.spills = s.spills ∧ u.tank = s.tank ∧ u.tables = s.tables ∧ u.member = s.member := by
  refine ⟨(s.mapRu fun r => { r with refresh := some (secondsMs c.alertRefresh) }).writeAlert c, ?_, rfl, fun ha => ?_,
    rfl, rfl, rfl, rfl, rfl⟩
  · refine congrArg Host.Outcome.next ?_
    rw [onRunning_some hc, if_pos h]
  · have hf : s.slotInFlight .alert = false := ha.elim slotEmpty_not_inFlight slotPending_not_inFlight
    unfold State.writeAlert
    rw [writeSlot_slot_same]
    exact write_pending hf fun old => by cases old <;> rfl

/-- R108. -/
theorem stepWindowExpiry_shows (hc : s.running = some c) (hw : s.srm.stepWindow.isSome = true)
    (hf : s.srm.stepFresh = false) (hr : s.srm.readiness = .watch ∨ s.srm.readiness = .armed) :
    ∃ t, exec .stepWindowExpiry s = .next t ∧ t.srm.readiness = .quiet ∧ t.srm.stepWindow = none ∧
      t.ru = s.ru ∧ t.spills = s.spills ∧ t.tank = s.tank ∧ t.tables = s.tables ∧ t.member = s.member := by
  have hd : s.timesStep = true := by
    unfold State.timesStep
    simpa [hw, hf] using hr
  refine ⟨settle c s (s.mapSrm fun r => { r with readiness := .quiet, stepWindow := none }),
    congrArg Host.Outcome.next ?_, ?_⟩
  · rw [onRunning_some hc, if_pos hd]
  · rw [settle_readiness, settle_stepWindow, settle_ru, settle_spills, settle_tank, settle_tables, settle_member]
    exact ⟨rfl, rfl, rfl, rfl, rfl, rfl, rfl⟩

/-- R109: the calm timer, stopped with the storm, does not start outside it. -/
theorem calmTimerExpiry_shows (hc : s.running = some c) (hcalm : s.srm.calm.isSome = true) (hr : s.srm.readiness = .storm) :
    ∃ t, exec .calmTimerExpiry s = .next t ∧ t.srm.readiness = .quiet ∧ t.srm.trigger = none ∧
      t.srm.calm = none ∧ t.ru = s.ru ∧ t.spills = s.spills ∧ t.tank = s.tank ∧ t.tables = s.tables ∧
      t.member = s.member := by
  let x : State := s.mapSrm fun r => { r with readiness := .quiet, calm := none, trigger := none }
  have hx : x.controlCalm c = x := if_neg Readiness.noConfusion
  have hsrm : (settle c s x).srm = x.srm := by rw [(settle_watch x s c).2, hx]
  refine ⟨settle c s x, congrArg Host.Outcome.next ?_, ?_⟩
  · rw [onRunning_some hc, if_pos (by simp [hcalm, hr])]
  · rw [hsrm, settle_ru, settle_spills, settle_tank, settle_tables, settle_member]
    exact ⟨rfl, rfl, rfl, rfl, rfl, rfl, rfl, rfl⟩

/-- R81. -/
theorem parkTimerExpiry_shows (hc : s.running = some c) (ht : s.ts.parkTimer.isSome = true) (hd : s.ts.drain = .parked) :
    ∃ u, exec .parkTimerExpiry s = .next (settle c s u) ∧ u.sa.releaseMark = true ∧ u.ts.parkTimer = none ∧
      u.slotEmpty .release = false ∧ (∀ n, n < 64 → n ∈ s.holdings c.station → n ∈ u.sa.outgoing) ∧
      u.tables = s.tables ∧ u.member = s.member ∧ u.spills = s.spills ∧ u.tank = s.tank ∧ u.weather = s.weather := by
  obtain ⟨hmark, hslot, hout⟩ :=
    releaseAll_releasesAll (s := s.mapTs fun t => { t with parkTimer := none }) (c := c)
  refine ⟨_, congrArg Host.Outcome.next ?_, hmark, rfl, hslot, hout, rfl, rfl, rfl, rfl, rfl⟩
  rw [onRunning_some hc, if_pos (by simp [ht, hd])]

/-- R162. -/
theorem dormancyDelayExpiry_shows (hc : s.running = some c) (ht : s.ac.delay.isSome = true) (ha : s.ac.activity = .active) :
    ∃ u, exec .dormancyDelayExpiry s = .next (settle c s u) ∧ u.slotEmpty .dormant = false ∧
      u.ac.activity = .active ∧ u.tables = s.tables ∧ u.member = s.member ∧ u.spills = s.spills ∧
      u.tank = s.tank ∧ u.weather = s.weather := by
  refine ⟨(s.mapAc fun a => { a with delay := none }).writeSlot .dormant .dormant, congrArg Host.Outcome.next ?_, ?_, ha,
    rfl, rfl, rfl, rfl, rfl⟩
  · rw [onRunning_some hc, if_pos (by simp [ht, ha])]
  · unfold State.slotEmpty
    rw [writeSlot_slot_same]
    exact write_not_empty _ _

/-- R62, R168. -/
theorem wakeRecoveryExpiry_shows (hc : s.running = some c) (ht : s.ac.recovery.isSome = true)
    (ha : s.ac.activity = .waking) :
    ∃ t, exec .wakeRecoveryExpiry s = .next t ∧ t.ac.activity = .active ∧ t.ac.recovery = none ∧
      t.ts.sampleTimer = some (1000 * c.sampleInterval) ∧ t.ts.window = some (500 * c.sampleInterval) ∧
      t.tables = s.tables ∧ t.member = s.member ∧ t.spills = s.spills ∧ t.weather = s.weather := by
  refine ⟨settle c s (s.recover c), congrArg Host.Outcome.next ?_, ?_⟩
  · rw [onRunning_some hc, if_pos (by simp [ht, ha])]
  · rw [settle_activity, settle_recovery, settle_sampleTimer, settle_window, settle_tables, settle_member, settle_spills,
      settle_weather]
    exact ⟨rfl, rfl, rfl, rfl, rfl, rfl, rfl, rfl⟩

end

/-- Settles O59, timer by timer. -/
theorem blockTimers : Obligations.BlockTimers := fun _ _ hc =>
  ⟨refreshTimerExpiry_shows hc, fun _ => alertAgeExpiry_shows hc, stepWindowExpiry_fresh, stepWindowExpiry_shows hc,
    calmTimerExpiry_shows hc, parkTimerExpiry_shows hc, dormancyDelayExpiry_shows hc, wakeRecoveryExpiry_shows hc⟩

end Sys2Proof.Machine

namespace Sys2Proof.Machine
open Sys2Proof

/-! ## The rain through every command (R89, R91) -/

/-- What the rain rule sees of the rain unit: the ring, the current bucket and the local grade. -/
def State.rain (s : State) : List Nat × Nat × Grade := (s.ru.ring, s.ru.current, s.ru.localGrade)

theorem rain_of_ru {s t : State} (h : t.ru = s.ru) : t.rain = s.rain := by
  unfold State.rain
  rw [h]

theorem voidAlerts_rain (s : State) : s.voidAlerts.rain = s.rain := rfl

theorem validateAlerts_rain (s : State) : s.validateAlerts.rain = s.rain := rfl

theorem rain_of_weather {s t : State} (h : t.weather = s.weather) : t.rain = s.rain := rain_of_ru (congrArg Prod.fst h)

/-- From s to t the rain and the configuration stand, and a station that was not in DOWN still is not. -/
structure KeepsRain (s t : State) : Prop where
  rain : t.rain = s.rain
  chip : t.chip = s.chip
  up : s.mu.membership ≠ .down → t.mu.membership ≠ .down

namespace KeepsRain

theorem refl (s : State) : KeepsRain s s := ⟨rfl, rfl, id⟩

variable {s t u : State}

theorem trans (h : KeepsRain s t) (k : KeepsRain t u) : KeepsRain s u :=
  ⟨k.rain.trans h.rain, k.chip.trans h.chip, k.up ∘ h.up⟩

theorem ite {p : Prop} [Decidable p] (h : p → KeepsRain s t) (k : ¬ p → KeepsRain s u) :
    KeepsRain s (if p then t else u) := by
  split
  · next hp => exact h hp
  · next hp => exact k hp

theorem guarded {p : Prop} [Decidable p] (h : KeepsRain s t) : KeepsRain s (if p then t else s) :=
  ite (fun _ => h) fun _ => refl s

/-- An operation that leaves the membership state. -/
theorem of_membership (hr : t.rain = s.rain) (hc : t.chip = s.chip) (hm : t.mu.membership = s.mu.membership) :
    KeepsRain s t := ⟨hr, hc, fun h => hm ▸ h⟩

/-- An operation that leaves these views. -/
theorem of_views (h : t.weather = s.weather ∧ t.chip = s.chip ∧ t.member = s.member) : KeepsRain s t :=
  of_membership (rain_of_weather h.1) h.2.1 (membership_of_member h.2.2)

/-- An operation that enters a membership state other than DOWN. -/
theorem of_entry (hw : t.weather = s.weather) (hc : t.chip = s.chip) (hm : t.mu.membership ≠ .down) : KeepsRain s t :=
  ⟨rain_of_weather hw, hc, fun _ => hm⟩

/-! ### Membership -/

theorem enterFallback (s : State) (c : Image) : KeepsRain s (s.enterFallback c) := by
  refine ⟨?_, by simp, fun _ => ?_⟩
  · have hempty : (((s.latch c .lineLost).leaveTables.emptyAll c).emptyQueue).weather = s.weather := by simp
    have hvoid : (s.enterFallback c).weather =
        (((s.latch c .lineLost).leaveTables.emptyAll c).emptyQueue).voidAlerts.weather := by
      unfold State.enterFallback
      simp
    exact (rain_of_weather hvoid).trans ((voidAlerts_rain _).trans (rain_of_weather hempty))
  · obtain ⟨_, _, he⟩ := enterFallback_eq s c
    rw [he]
    exact Membership.noConfusion

theorem enterIsolated (s : State) (c : Image) : KeepsRain s (s.enterIsolated c) := by
  refine ⟨?_, by simp, fun _ => by rw [enterIsolated_membership]; decide⟩
  have hempty : (s.leaveTables.emptySlots c isolatedSlots).weather = s.weather := by simp
  have hvalid : (s.enterIsolated c).weather = (s.leaveTables.emptySlots c isolatedSlots).validateAlerts.weather := by
    unfold State.enterIsolated
    simp
  exact (rain_of_weather hvalid).trans ((validateAlerts_rain _).trans (rain_of_weather hempty))

theorem isolateFor (s : State) (c : Image) (f : Flag) : KeepsRain s (s.isolateFor c f) :=
  trans (t := (s.mapTs fun t => { t with valve := 0 }).latch c f) (of_views (by simp)) (enterIsolated _ c)

theorem takeRestart (s : State) (c : Image) : KeepsRain s (s.takeRestart c) := by
  have h := takeRestart_restarted s c
  refine ⟨?_, by simp, fun _ => by rw [h.membership]; decide⟩
  unfold State.rain
  rw [h.alerts]

theorem enterListening (s : State) (c : Image) (hold : Bool) : KeepsRain s (s.enterListening c hold) :=
  of_entry (by simp) (by simp) Membership.noConfusion

theorem spoilJoin (s : State) (c : Image) : KeepsRain s (s.spoilJoin c) :=
  of_entry (by simp) (by simp) Membership.noConfusion

theorem failedLoad (s : State) : KeepsRain s (s.discardLoad.mapMu fun m => { m with failures := m.failures + 1 }) :=
  of_membership (rain_of_weather (by simp)) (by simp) (membership_of_member (s := s) (t := s.voidShares) (by simp))

theorem failJoin (s : State) (c : Image) : KeepsRain s (s.failJoin c) := by
  have hl : KeepsRain s (s.latch c .joinFailed) := of_views (by simp)
  have hx := hl.trans (failedLoad (s.latch c .joinFailed))
  exact ite (fun _ => hx.trans (enterIsolated _ c)) fun _ => hx.trans (enterListening _ c false)

theorem found (s : State) (c : Image) : KeepsRain s (s.found c) := by
  refine ⟨?_, by simp, fun _ => Membership.noConfusion⟩
  exact (rain_of_weather (enterLinked_weather ..)).trans (validateAlerts_rain _)

theorem judgeJoin (s : State) (c : Image) : KeepsRain s (s.judgeJoin c) := by
  have hq : KeepsRain s (s.requeueJoin c) := of_membership rfl (by simp) rfl
  exact ite (fun _ => failJoin s c) fun _ => ite (fun _ => hq) fun _ => ite (fun _ => found s c) fun _ => hq

theorem spoil (s : State) (c : Image) : KeepsRain s (s.spoil c) := by
  unfold State.spoil
  split
  · exact of_membership (rain_of_weather (by simp)) (by simp) (endLock_membership s c)
  · exact spoilJoin s c
  · exact spoilJoin s c
  · exact refl s

/-! ### The owners of frames -/

theorem takeSegment0 (s : State) (c : Image) (f : Frame) : KeepsRain s (s.takeSegment0 c f) := by
  have hload : KeepsRain s ((s.enterLoading f.payload).hearEntry c f.sender) := by
    refine of_entry (by simp) (by simp) ?_
    obtain ⟨r, hr⟩ := hearEntry_eq (s.enterLoading f.payload) c f.sender
    rw [hr]
    exact Membership.noConfusion
  exact ite (fun _ => refl s) fun _ => ite (fun _ => hload) fun _ => isolateFor s c _

theorem linkLoaded (s : State) (c : Image) : KeepsRain s (s.linkLoaded c) :=
  of_entry (by simp) (by simp) Membership.noConfusion

theorem takeSegment (s : State) (c : Image) (segment : Nat) (f : Frame) : KeepsRain s (s.takeSegment c segment f) := by
  refine ite (fun _ => ?_) fun _ => refl s
  unfold State.loadSegment
  split
  · exact of_membership rfl rfl rfl
  · exact of_membership rfl rfl rfl
  · have hx : KeepsRain s ((s.loadClaims (claimsOfBytes f.payload 1 48 33)).mapRu fun r =>
      { r with alerts := some (alertsOfBytes c.alertLifetime f.payload) }) := of_membership rfl rfl rfl
    exact hx.trans (linkLoaded _ c)
  · exact refl s

theorem hearBurst (s : State) (c : Image) (segment : Nat) (f : Frame) : KeepsRain s (s.hearBurst c segment f) :=
  of_views (by simp)

theorem takeTable (s : State) (c : Image) (a : Arrival) (segment : Nat) (f : Frame) :
    KeepsRain s (s.takeTable c a segment f) := by
  unfold State.takeTable
  split
  · exact hearBurst s c segment f
  · exact ite (fun _ => takeSegment0 s c f) fun _ => hearBurst s c segment f
  · exact ite (fun _ => takeSegment s c segment f) fun _ => refl s
  · unfold State.burstAtLinked
    split
    · exact refl s
    · next l _ =>
      have hfinal : KeepsRain s (s.finalSegment c l) :=
        of_membership (rain_of_weather (by simp)) (by simp) (finalSegment_membership ..)
      exact ite (fun _ => refl s) fun _ => ite (fun _ => hfinal) fun _ => of_views (by simp)
  · exact refl s

theorem pruneSlot (s : State) (id : SlotId) (l : List Nat) : KeepsRain s (s.pruneSlot id l) := of_membership rfl rfl rfl

theorem takeAbsent (s : State) (c : Image) (named : List Nat) : KeepsRain s (s.takeAbsent c named) := by
  have hfold : ∀ (l : List Nat) (x : State), KeepsRain x (l.foldl (fun t n => t.declareAbsent c n) x) := by
    intro l
    induction l with
    | nil => exact refl
    | cons n l ih => exact fun x => trans (t := x.declareAbsent c n) (of_membership rfl rfl rfl) (ih _)
  have hp : KeepsRain s (((named.filter s.isLinked).foldl (fun t n => t.declareAbsent c n) s).pruneSlot .absent named) :=
    (hfold _ s).trans (pruneSlot _ .absent named)
  exact ite (fun _ => hp.trans (enterFallback _ c)) fun _ => hp

theorem takeReclaim (s : State) (named : List Nat) : KeepsRain s (s.takeReclaim named) := by
  let hit := named.filter fun n => decide (s.entryState n = .absent)
  obtain ⟨r, hr⟩ := clearAll_eq (s.reclaimShares hit) hit
  have hm : ((s.reclaimShares hit).clearAll hit).mu.membership = s.mu.membership := by
    rw [hr]
    exact membership_of_member (s := s) (t := s.reclaimShares hit) (returnWhere_member ..)
  exact of_membership (rain_of_weather (by simp)) (by simp) hm

theorem takeClaim (s : State) (n urgency field : Nat) : KeepsRain s (s.takeClaim n urgency field) :=
  of_membership (rain_of_weather (by simp)) (by simp) (by rw [takeClaim_mu]; rfl)

theorem takeStatus (s : State) (n urgency : Nat) : KeepsRain s (s.takeStatus n urgency) :=
  guarded (of_membership (rain_of_weather (by simp)) (by simp) rfl)

theorem markDormant (s : State) (c : Image) (n : Nat) : KeepsRain s (s.markDormant c n) := guarded (of_membership rfl rfl rfl)

theorem lateWithdraw (s : State) (c : Image) (a : Arrival) : KeepsRain s (s.lateWithdraw c a) := of_views (by simp)

theorem reassert (s : State) (a : Arrival) : KeepsRain s (s.reassert a) := of_views (by simp)

theorem ownDormant (s : State) (c : Image) (a : Arrival) : KeepsRain s (s.ownDormant c a) := of_views (by simp)

theorem takeJoin (s : State) (c : Image) (a : Arrival) (n pool : Nat) : KeepsRain s (s.takeJoin c a n pool) := by
  have henter : KeepsRain s (s.enterJoining c) := of_entry rfl rfl Membership.noConfusion
  have hhear : KeepsRain s (s.hearJoin n) := of_membership rfl rfl rfl
  have hlock : KeepsRain s (s.beginLock c n pool) :=
    of_membership (rain_of_weather (by simp)) (by simp) (beginLock_membership s c n pool)
  refine ite (fun _ => isolateFor s c _) fun _ => ?_
  split
  · exact ite (fun _ => henter) fun _ => hhear
  · exact ite (fun _ => henter) fun _ => hhear
  · exact ite (fun _ => refl s) fun _ => hlock
  · exact refl s

theorem wakeTrigger (s : State) (c : Image) : KeepsRain s (s.wakeTrigger c) := of_views (by simp)

theorem alertEvent (s : State) (c : Image) : KeepsRain s (s.alertEvent c) :=
  of_membership (rain_of_ru (alertEvent_climb s c).2) (by simp) (membership_of_member (by simp))

/-- An ALERT changes the zone's entry, and an own one the last sent grade and the refresh timer (R93 to R96). -/
theorem takeAlert (s : State) (c : Image) (a : Arrival) (origin zone : Nat) (g : Grade) :
    KeepsRain s (s.takeAlert c a origin zone g) := by
  let x : State := (if a.own then s.ownAlert c g else s).mapZone zone (applyAlert g origin)
  have hown : KeepsRain s (if a.own then s.ownAlert c g else s) := guarded (of_membership rfl rfl rfl)
  have hx : KeepsRain s x := hown.trans (of_membership rfl rfl rfl)
  have he := hx.trans (alertEvent x c)
  exact ite (fun _ => ite (fun _ => he.trans (wakeTrigger _ c)) fun _ => he) fun _ => hx

/-! ### The line and the accepted frames -/

theorem lineFault (s : State) (c : Image) : KeepsRain s (s.lineFault c) := by
  have hl : KeepsRain s (s.latch c .sendFailed) := of_views (by simp)
  unfold State.lineFault
  dsimp only
  split
  case h_5 => exact hl.trans (of_views (by simp))
  case h_6 => exact hl
  all_goals exact hl.trans (enterFallback _ c)

theorem abortOwn (s : State) (c : Image) : KeepsRain s (s.abortOwn c) := by
  have h1 : KeepsRain s (s.failFlight.mapLc fun l => { l with tally := l.tally + 1 }) := of_views (by simp)
  exact ite (fun _ => ite (fun _ => h1.trans (lineFault _ c)) fun _ => h1) fun _ => of_views (by simp)

theorem ownerDone (s : State) (c : Image) (a : Arrival) (f : Frame) : KeepsRain s (s.ownerDone c a f) := by
  have h1 : KeepsRain s (s.restartPresence c a) := of_views (by simp)
  exact ite (fun _ => h1.trans (spoil _ c)) fun _ => h1

theorem afterFrame (s b : State) (c : Image) : KeepsRain s (s.afterFrame b c) := of_views (by simp)

/-- What surrounds the owner of an accepted frame keeps the rain, so the frame keeps it if its owner does. -/
theorem acceptFrame {c : Image} {f : Frame} {o : Arrival → State → State}
    (ho : KeepsRain (s.heardFrame c f) (o (s.arrival c f) (s.heardFrame c f))) : KeepsRain s (acceptFrame c f o s) := by
  have hheard : KeepsRain s (s.heardFrame c f) :=
    of_membership (rain_of_weather (by simp)) (by simp) (heardFrame_membership s c f)
  exact ite (fun _ => ((hheard.trans ho).trans (ownerDone _ c _ f)).trans (afterFrame _ _ c)) fun _ => of_views (by simp)

end KeepsRain

/-! ## The rain rule -/

section
variable {s t u : State} {c : Image}

/-- A station in which the rule holds at the end of a command's body, under its image. -/
theorem rainRule_settle (hm : u.mu.membership ≠ .down) (hi : u.cl.image = some c) (hlen : u.ru.ring.length ≤ 15)
    (hg : u.ru.localGrade = gradeOfDepths c u.depth5 u.depth15) (b : State) : RainRule (settle c b u) := by
  refine ⟨by rwa [settle_ru], fun hd => absurd ((settle_membership c b u).symm.trans hd) hm, fun c' hc => ?_⟩
  obtain rfl := settle_running hi b hc
  obtain ⟨h5, h15⟩ := depths_congr (settle_ru c' b u)
  rw [settle_ru, h5, h15]
  exact hg

/-- The depths are read from the buckets (R90). -/
theorem depths_of_rain (h : t.rain = s.rain) : t.depth5 = s.depth5 ∧ t.depth15 = s.depth15 := by
  simp only [State.rain, Prod.mk.injEq] at h
  obtain ⟨hring, hcurrent, -⟩ := h
  unfold State.depth5 State.depth15
  rw [hring, hcurrent]
  exact ⟨rfl, rfl⟩

namespace RainRule

variable (h : RainRule s)
include h

/-- The rule sees the rain, whether the station is in DOWN, and the image it runs under. -/
theorem congr (hr : t.rain = s.rain) (hd : t.mu.membership = .down → s.mu.membership = .down)
    (hi : ∀ c, t.running = some c → s.running = some c) : RainRule t := by
  obtain ⟨hlen, hdown, hgrade⟩ := h
  obtain ⟨h5, h15⟩ := depths_of_rain hr
  simp only [State.rain, Prod.mk.injEq] at hr
  obtain ⟨hring, hcurrent, hlocal⟩ := hr
  unfold RainRule
  rw [hring, hcurrent, hlocal, h5, h15]
  exact ⟨hlen, hdown ∘ hd, fun c hc => hgrade c (hi c hc)⟩

/-- A change of the configuration and the inputs that brings no other image. -/
theorem of_inputs (hr : t.rain = s.rain) (hm : t.mu = s.mu) (hl : t.cl.image = s.cl.image ∨ t.cl.image = none) : RainRule t :=
  h.congr hr (fun hd => hm ▸ hd) (running_of_inputs hm hl)

theorem settle (hc : s.running = some c) (hk : KeepsRain s u) (b : State) : RainRule (settle c b u) := by
  obtain ⟨hlen, -, hgrade⟩ := h
  obtain ⟨h5, h15⟩ := depths_of_rain hk.rain
  have hr := hk.rain
  simp only [State.rain, Prod.mk.injEq] at hr
  obtain ⟨hring, -, hlocal⟩ := hr
  refine rainRule_settle (hk.up (running_not_down hc)) ?_ (hring ▸ hlen) ?_ b
  · rw [cl_of_chip hk.chip]
    exact running_image hc
  · rw [hlocal, h5, h15]
    exact hgrade c hc

theorem onRunning {g : Image → Bool} {body : Image → State} (hb : ∀ c, KeepsRain s (body c)) :
    RainRule (s.onRunning g body) := by
  cases hc : s.running with
  | none => rwa [onRunning_none hc]
  | some c =>
    rw [onRunning_some hc]
    split
    · exact h.settle hc (hb c) s
    · exact h

theorem receive {f : Frame} {o : Image → Arrival → State → State} (ho : ∀ c a x, KeepsRain x (o c a x)) :
    RainRule (receive f o s) := h.onRunning fun c => .acceptFrame (ho c _ _)

/-- R89, R91: a command that measures the rain leaves the grade of the depths. -/
theorem measure {g : Image → Bool} {x : Image → State} {body : Image → State}
    (hx : ∀ c, (x c).ru.ring.length ≤ 15) (hv : ∀ c, (body c).chip = s.chip ∧ (body c).member = s.member)
    (hb : ∀ c, (body c).ru = ((x c).localEvent c).ru) : RainRule (s.onRunning g body) := by
  cases hc : s.running with
  | none => rwa [onRunning_none hc]
  | some c =>
    rw [onRunning_some hc]
    split
    · obtain ⟨hchip, hmember⟩ := hv c
      obtain ⟨hgrade, hring, hcurrent, -⟩ := localEvent_facts (x c) c
      have hm := membership_of_member hmember
      refine rainRule_settle (hm ▸ running_not_down hc) ?_ ?_ ?_ s
      · rw [cl_of_chip hchip]
        exact running_image hc
      · rw [hb, hring]
        exact hx c
      · unfold State.depth5 State.depth15 at hgrade ⊢
        rw [hb, hring, hcurrent]
        exact hgrade
    · exact h

end RainRule

/-- R191: every grade of an accepted image needs rain. -/
theorem gradeOfDepths_zero {l : List Byte} (h : judgeImage l = some c) : gradeOfDepths c 0 0 = .none := by
  unfold judgeImage at h
  dsimp only at h
  split at h
  · next hok =>
    obtain rfl := Option.some.inj h
    simp only [Bool.and_eq_true, imageInRange, within, decide_eq_true_eq] at hok
    unfold gradeOfDepths
    rw [if_neg (by omega), if_neg (by omega), if_neg (by omega)]
  · cases h

/-- A good load finds the station in DOWN, without rain (R102, R187). -/
theorem goodLoad_rainRule {l : List Byte} (hl : LoadRule s) (h : RainRule s) (hr : s.cl.load = .reading)
    (hj : judgeImage l = some c) : RainRule (settle c s (s.goodLoad c)) := by
  have hdown : s.mu.membership = .down := by
    obtain ⟨-, -, hgood⟩ := hl
    by_contra hm
    rw [hr] at hgood
    exact absurd (hgood hm) (by decide)
  obtain ⟨-, hdry, -⟩ := h
  obtain ⟨hring, hcurrent, hlocal⟩ := hdry hdown
  obtain ⟨slots, he⟩ := goodLoad_eq s c
  refine rainRule_settle ?_ ?_ ?_ ?_ s <;> rw [he]
  · exact Membership.noConfusion
  · rw [hring]
    exact Nat.zero_le _
  · unfold State.depth5 State.depth15
    rw [hring, hcurrent, hlocal]
    exact (gradeOfDepths_zero hj).symm

/-- R89, R91, R102: every command of the table keeps the rule. -/
theorem exec_rainRule {i : Instr} (hl : LoadRule s) (h : RainRule s) (he : exec i s = .next t) : RainRule t := by
  cases i with
  | powerOn | supplyBelowThreshold => obtain rfl := Host.Outcome.next.inj he; exact reset_rainRule
  | resetLinePulse =>
    obtain rfl := Host.Outcome.next.inj he
    split
    · exact reset_rainRule
    · exact h
  | resetLineRelease =>
    obtain rfl := Host.Outcome.next.inj he
    split
    · exact h.of_inputs rfl rfl (.inr rfl)
    · exact h
  | configReadAttempt read =>
    obtain rfl := Host.Outcome.next.inj he
    split
    · next ha =>
      have hr : s.cl.load = .reading := by
        simp only [State.attempting, Bool.and_eq_true, decide_eq_true_eq] at ha
        exact ha.1
      unfold State.readAttempt State.failedAttempt
      dsimp only
      split
      · split
        · exact h.of_inputs rfl rfl (.inr rfl)
        · exact h.of_inputs rfl rfl (.inl rfl)
      · split
        · exact h.of_inputs rfl rfl (.inr rfl)
        · next hj => exact goodLoad_rainRule hl h hr hj
    · exact h
  | configRetryWaitExpiry => obtain rfl := Host.Outcome.next.inj he; exact h.of_inputs rfl rfl (.inl rfl)
  | stationSecondsTick =>
    obtain rfl := Host.Outcome.next.inj he
    split
    · exact h.of_inputs rfl rfl (.inl rfl)
    · exact h
  | minuteBoundary =>
    obtain rfl := Host.Outcome.next.inj he
    refine h.measure (x := fun _ => s.completeBucket) (fun _ => ?_) (by simp) fun _ => rfl
    show ((s.ru.current :: s.ru.ring).take 15).length ≤ 15
    exact List.length_take_le ..
  | rainPulse time =>
    obtain rfl := Host.Outcome.next.inj he
    exact h.measure (x := fun c => s.countPulse c time) (fun _ => h.1) (by simp) fun c => (wakeTrigger_ru _ c).1
  | tideInputChange level =>
    obtain rfl := Host.Outcome.next.inj he
    have hpin : RainRule { s with tidePin := level } := h.of_inputs rfl rfl (.inl rfl)
    exact hpin.onRunning fun c => .of_views (by simp)
  | sensorReply reply =>
    unfold Machine.exec execSensorReply at he
    dsimp only at he
    split at he <;> obtain rfl := Host.Outcome.next.inj he
    · exact h
    · exact h.onRunning fun c => .of_views (by simp)
  | lineIdle =>
    obtain rfl := Host.Outcome.next.inj he
    split
    · exact h
    · next c hc => exact h.settle hc (.of_views (by simp)) _
  | sampleTimerExpiry =>
    obtain rfl := Host.Outcome.next.inj he
    refine h.onRunning fun c => .trans (t := if s.ts.window.isSome then s.emptySample c else s) ?_ (.of_views (by simp))
    exact .guarded (.of_views (by simp))
  | frameBreakOff =>
    obtain rfl := Host.Outcome.next.inj he
    have hbusy : KeepsRain s s.lineBusy := .of_views (by simp)
    exact h.onRunning fun c => .ite (fun _ => hbusy.trans (.abortOwn _ c)) fun _ => hbusy
  | ownFrameAborted found =>
    obtain rfl := Host.Outcome.next.inj he
    exact h.onRunning fun c => .trans (t := s.endField (s.senderMarks c found)) (.of_views (by simp)) (.abortOwn _ c)
  | table segment b => obtain rfl := Host.Outcome.next.inj he; exact h.receive fun c a x => .takeTable x c a _ _
  | absent b => obtain rfl := Host.Outcome.next.inj he; exact h.receive fun c a x => .guarded (.takeAbsent x c _)
  | reclaim b => obtain rfl := Host.Outcome.next.inj he; exact h.receive fun c a x => .guarded (.takeReclaim x _)
  | curtail b => obtain rfl := Host.Outcome.next.inj he; exact h.receive fun c a x => .guarded (.of_views (by simp))
  | yield b | release b =>
    obtain rfl := Host.Outcome.next.inj he
    refine h.receive fun c a x => .guarded ?_
    refine .trans (t := x.settleOutgoing a _) (.of_views (by simp)) (.guarded (.of_views (by simp)))
  | withdraw b => obtain rfl := Host.Outcome.next.inj he; exact h.receive fun c a x => .guarded (.of_views (by simp))
  | claim sub b =>
    obtain rfl := Host.Outcome.next.inj he
    exact h.receive fun c a x => .trans (.guarded (.takeClaim x _ _ _)) (.lateWithdraw _ c a)
  | alert sub b => obtain rfl := Host.Outcome.next.inj he; exact h.receive fun c a x => .guarded (.takeAlert x c a _ _ _)
  | join b => obtain rfl := Host.Outcome.next.inj he; exact h.receive fun c a x => .guarded (.takeJoin x c a _ _)
  | status b =>
    obtain rfl := Host.Outcome.next.inj he
    exact h.receive fun c a x => .guarded (.trans (.takeStatus x _ _) (.reassert _ a))
  | dormant b =>
    obtain rfl := Host.Outcome.next.inj he
    exact h.receive fun c a x => .trans (.markDormant x c _) (.ownDormant _ c a)
  | query b =>
    obtain rfl := Host.Outcome.next.inj he
    exact h.onRunning fun c => .ite (fun _ => .of_views (by simp)) fun _ => .acceptFrame (.of_views (by simp))
  | recack b | period b | clear b | notice b =>
    obtain rfl := Host.Outcome.next.inj he
    exact h.receive fun c a x => .guarded (.of_views (by simp))
  | restart b => obtain rfl := Host.Outcome.next.inj he; exact h.receive fun c a x => .guarded (.takeRestart x c)
  | record b | norec b | counts b | conditions b | unlistedSubKindFrame cls sub b =>
    obtain rfl := Host.Outcome.next.inj he
    exact h.receive fun c a x => .refl x
  | joinWaitExpiry =>
    obtain rfl := Host.Outcome.next.inj he
    have hw : KeepsRain s (s.mapMu fun m => { m with joinWait := none }) := .of_membership rfl rfl rfl
    exact h.onRunning fun c => .ite (fun _ => hw.trans (.judgeJoin _ c)) fun _ => hw
  | loadTimerExpiry =>
    obtain rfl := Host.Outcome.next.inj he
    have hw : KeepsRain s (s.mapMu fun m => { m with load := none }) := .of_membership rfl rfl rfl
    exact h.onRunning fun c => .ite (fun _ => hw.trans (.failJoin _ c)) fun _ => hw
  | lockTimerExpiry =>
    obtain rfl := Host.Outcome.next.inj he
    exact h.onRunning fun c => .of_membership (rain_of_weather (by simp)) (by simp) (endLock_membership s c)
  | silenceTimerExpiry => obtain rfl := Host.Outcome.next.inj he; exact h.onRunning fun c => .enterFallback s c
  | quietTimerExpiry =>
    obtain rfl := Host.Outcome.next.inj he
    exact h.onRunning fun c => .trans (t := s.mapMu fun m => { m with quiet := none }) (.of_membership rfl rfl rfl)
      (.enterListening _ c false)
  | alertAgeExpiry zone =>
    obtain rfl := Host.Outcome.next.inj he
    have hx : KeepsRain s (s.mapZone zone fun _ => .blank) := .of_membership rfl rfl rfl
    exact h.onRunning fun c => .ite (fun _ => hx.trans (.alertEvent _ c)) fun _ => hx
  | lastHeardExpiry station | strandingTimerExpiry station | refreshTimerExpiry | stepWindowExpiry | calmTimerExpiry =>
    obtain rfl := Host.Outcome.next.inj he
    exact h.onRunning fun c => .of_membership rfl rfl rfl
  | tideStateChange | replyWindowClose | mergeTimerExpiry | lostArbitration | frameAbortedOrBusy rx | ownFrameBusy
  | busyBackoffExpiry slot | claimSpacingExpiry | listenTimerExpiry | restartHoldExpiry | burstHoldExpiry
  | presenceTimerExpiry | parkTimerExpiry | dormancyDelayExpiry | wakeRecoveryExpiry =>
    obtain rfl := Host.Outcome.next.inj he
    exact h.onRunning fun c => .of_views (by simp)

end

/-- Settles O6, command by command. -/
theorem rainRuleKept : Obligations.RainRuleKept := by
  intro s t hl h he
  cases hp : s.pending with
  | nil =>
    rw [step_empty hp] at he
    obtain rfl := Host.Outcome.next.inj he
    obtain ⟨a, f, hw⟩ := elapse_eq s
    rw [hw]
    exact h.of_inputs rfl rfl (.inl rfl)
  | cons i rest =>
    rw [step_front hp] at he
    exact exec_rainRule (s := { s with pending := rest }) hl h he

end Sys2Proof.Machine

namespace Sys2Proof.Machine
open Sys2Proof

/-! ## A measure of the rain (R88 to R91, R100, R101) -/

section
variable {s x u : State} {c : Image}

theorem evaluateLocal_srm_sc (s : State) (c : Image) : (s.evaluateLocal c).srm = s.srm ∧ (s.evaluateLocal c).sc = s.sc := by
  unfold State.evaluateLocal
  dsimp only
  split <;> exact ⟨rfl, rfl⟩

/-- A local evaluation leaves the readiness monitor to the one alert event that follows it (R91, R100). -/
theorem localEvent_climbs (s : State) (c : Image) : Climbs c s (s.localEvent c) := by
  obtain ⟨hsrm, hsc⟩ := evaluateLocal_srm_sc s c
  exact (alertEvent_climbs (s.evaluateLocal c) c).congr hsrm hsc rfl rfl

/-- What a command shows that measured the rain from the buckets of x. -/
structure Measured (c : Image) (s x t : State) : Prop where
  ring : t.ru.ring = x.ru.ring
  current : t.ru.current = x.ru.current
  chatter : t.ru.chatter = x.ru.chatter
  grade : t.ru.localGrade = gradeOfDepths c t.depth5 t.depth15
  climbs : Climbs c s t

/-- The end of the command, and a wake trigger before it, leave what the evaluation and its event have made. -/
theorem measured_settle (hsrm : x.srm = s.srm) (hsc : x.sc = s.sc) (hw : u.weather = (x.localEvent c).weather)
    (hu : u.sc = (x.localEvent c).sc) (b : State) : Measured c s x (settle c b u) := by
  obtain ⟨hgrade, hring, hcurrent, hchatter, -⟩ := localEvent_facts x c
  have hru : (settle c b u).ru = (x.localEvent c).ru := (settle_ru c b u).trans (congrArg Prod.fst hw)
  have hdepths : (settle c b u).depth5 = x.depth5 ∧ (settle c b u).depth15 = x.depth15 := by
    unfold State.depth5 State.depth15
    rw [hru, hring, hcurrent]
    exact ⟨rfl, rfl⟩
  exact {
    ring := hru ▸ hring, current := hru ▸ hcurrent, chatter := hru ▸ hchatter
    grade := by rw [hru, hgrade, hdepths.1, hdepths.2]
    climbs := (localEvent_climbs x c).congr hsrm hsc ((settle_weather c b u).trans hw) ((settle_sc c b u).trans hu) }

/-- R89, R195: there is a boundary at a multiple of 60 station seconds alone. -/
theorem atMinute_iff : s.atMinute = true ↔ s.seconds.toNat % 60 = 0 := decide_eq_true_iff

/-- R88. -/
theorem isChatter_iff {time : Nat} : s.isChatter time = true ↔ ∃ p, s.ru.chatter = some p ∧ time < p + 1000 := by
  unfold State.isChatter
  cases s.ru.chatter with
  | none => simp
  | some p => exact decide_eq_true_iff.trans ⟨fun h => ⟨p, rfl, h⟩, fun ⟨_, hq, h⟩ => Option.some.inj hq ▸ h⟩

/-- R88, R101: a pulse counts 1 s or more after the last counted one. -/
theorem not_isChatter_iff {time : Nat} :
    s.isChatter time = false ↔ ∀ p, s.ru.chatter = some p → p + 1000 ≤ time := by
  rw [← Bool.not_eq_true, isChatter_iff]
  simp

/-- R89, R91. -/
theorem minuteBoundary_shows (hc : s.running = some c) (hm : s.seconds.toNat % 60 = 0) :
    ∃ t, exec .minuteBoundary s = .next t ∧ t.ru.ring = (s.ru.current :: s.ru.ring).take 15 ∧
      t.ru.current = 0 ∧ t.ru.localGrade = gradeOfDepths c t.depth5 t.depth15 ∧ Climbs c s t ∧
      t.chip = s.chip ∧ t.books = s.books ∧ t.tables = s.tables ∧ t.member = s.member := by
  refine ⟨settle c s (s.completeBucket.localEvent c), congrArg Host.Outcome.next ?_, ?_⟩
  · rw [onRunning_some hc, if_pos (atMinute_iff.mpr hm)]
  · have h := measured_settle (s := s) (x := s.completeBucket) (c := c) rfl rfl rfl rfl s
    exact ⟨h.ring, h.current, h.grade, h.climbs, by simp⟩

/-- R88, R91, R101. -/
theorem rainPulse_shows {time : Nat} (hc : s.running = some c) (ht : ∀ p, s.ru.chatter = some p → p + 1000 ≤ time) :
    ∃ t, exec (.rainPulse time) s = .next t ∧ t.ru.current = s.ru.current + c.pulseDepth ∧
      t.ru.chatter = some time ∧ t.ru.ring = s.ru.ring ∧ t.ru.localGrade = gradeOfDepths c t.depth5 t.depth15 ∧
      Climbs c s t ∧ (s.ac.activity = .dormant → t.ac.activity = .waking) ∧
      t.chip = s.chip ∧ t.books = s.books ∧ t.tables = s.tables ∧ t.member = s.member := by
  let x : State := s.countPulse c time
  refine ⟨settle c s ((x.localEvent c).wakeTrigger c), congrArg Host.Outcome.next ?_, ?_⟩
  · rw [onRunning_some hc, if_pos (by rw [not_isChatter_iff.mpr ht]; rfl)]
  · have h := measured_settle (s := s) (x := x) rfl rfl (wakeTrigger_weather (x.localEvent c) c)
      (congrArg Prod.fst (wakeTrigger_spills (x.localEvent c) c)) s
    refine ⟨h.current, h.chatter, h.ring, h.grade, h.climbs, fun ha => ?_, by simp [x]⟩
    rw [settle_activity]
    exact wakeTrigger_wakes _ c (localEvent_activity x c ha)

/-- A command whose guard fails changes nothing. -/
theorem onRunning_of_guard (hc : s.running = some c) {g : Image → Bool} (hg : g c = false) (body : Image → State) :
    s.onRunning g body = s := by
  rw [onRunning_some hc, hg]
  rfl

end

/-- Settles O16: the boundary and the pulse that act, and those that do not. -/
theorem rainCommands : Obligations.RainCommands := fun _ _ hc =>
  ⟨minuteBoundary_shows hc,
    fun hm => congrArg Host.Outcome.next (onRunning_of_guard hc (decide_eq_false hm) _),
    fun _ => ⟨rainPulse_shows hc, fun p hp ht =>
      congrArg Host.Outcome.next (onRunning_of_guard hc (by rw [isChatter_iff.mpr ⟨p, hp, ht⟩]; rfl) _)⟩⟩

end Sys2Proof.Machine

namespace Sys2Proof.Machine
open Sys2Proof

/-! ## The zone alert table (R95, R96) -/

section
variable {s t : State} {c : Image}

theorem zoneEntry_mapZone_other (s : State) (f : ZoneEntry → ZoneEntry) {y z : Nat} (h : y ≠ z) :
    (s.mapZone z f).zoneEntry y = s.zoneEntry y := by
  unfold State.zoneEntry State.mapZone
  rw [mapRu_ru]
  cases s.ru.alerts with
  | none => rfl
  | some l =>
    simp only [Option.map_some]
    by_cases hy : y = 0
    · simp [hy]
    by_cases hz : z = 0
    · simp [hz]
    · simp only [hy, hz, if_false, List.getD_eq_getElem?_getD, getElem?_updateAt]
      rw [if_neg (by omega)]

theorem zoneEntry_mapZone_same {l : List ZoneEntry} (h : s.ru.alerts = some l) (f : ZoneEntry → ZoneEntry) {z : Nat}
    (h1 : z ≠ 0) (hl : z ≤ l.length) : (s.mapZone z f).zoneEntry z = f (s.zoneEntry z) := by
  have hz : z - 1 < l.length := by omega
  unfold State.zoneEntry State.mapZone
  rw [mapRu_ru]
  simp [h, h1, hz, List.getD_eq_getElem?_getD, getElem?_updateAt]

/-! ## An ALERT that is taken (R93 to R96, R100, R101) -/

/-- The RU's part in an ALERT, before its event: an own one is the last sent grade, and the zone's entry judges it. -/
def State.recordAlert (s : State) (c : Image) (a : Arrival) (origin zone : Nat) (g : Grade) : State :=
  (if a.own then s.ownAlert c g else s).mapZone zone (applyAlert g origin)

variable (a : Arrival) (origin zone : Nat) (g : Grade)

theorem takeAlert_eq : s.takeAlert c a origin zone g =
    if isHeeded c zone then (s.recordAlert c a origin zone g).heedAlert c g else s.recordAlert c a origin zone g := rfl

/-- Only the rain unit changes. -/
theorem recordAlert_frame : ∃ r, s.recordAlert c a origin zone g = { s with ru := r } := by
  unfold State.recordAlert
  split <;> exact ⟨_, rfl⟩

theorem recordAlert_entry_other {z : Nat} (h : z ≠ zone) : (s.recordAlert c a origin zone g).zoneEntry z = s.zoneEntry z := by
  refine (zoneEntry_mapZone_other _ _ h).trans ?_
  split <;> rfl

theorem recordAlert_entry {l : List ZoneEntry} (h : s.ru.alerts = some l) (h1 : zone ≠ 0) (hl : zone ≤ l.length) :
    (s.recordAlert c a origin zone g).zoneEntry zone = applyAlert g origin (s.zoneEntry zone) := by
  have hown : (if a.own then s.ownAlert c g else s).ru.alerts = some l := by split <;> exact h
  refine (zoneEntry_mapZone_same hown _ h1 hl).trans (congrArg _ ?_)
  split <;> rfl

/-- R93, R94. -/
theorem recordAlert_own (ho : a.own = true) : (s.recordAlert c a origin zone g).ru.lastSent = g ∧
    (s.ru.localGrade ≠ .none → (s.recordAlert c a origin zone g).ru.refresh = some (1000 * c.alertRefresh)) := by
  unfold State.recordAlert
  rw [if_pos ho]
  exact ⟨rfl, fun hg => if_pos (one_le_code.mpr hg)⟩

theorem heedAlert_weather : (s.heedAlert c g).weather = (s.alertEvent c).weather := by
  unfold State.heedAlert
  dsimp only
  split <;> simp

theorem heedAlert_sc : (s.heedAlert c g).sc = (s.alertEvent c).sc := by
  unfold State.heedAlert
  dsimp only
  split
  · exact congrArg Prod.fst (wakeTrigger_spills ..)
  · rfl

/-- R100: a heeded ALERT makes one alert event. -/
theorem heedAlert_climbs : Climbs c s (s.heedAlert c g) :=
  (alertEvent_climbs s c).congr rfl rfl (heedAlert_weather g) (heedAlert_sc g)

theorem alertEvent_activity (h : s.ac.activity = .dormant) :
    (s.alertEvent c).ac.activity = .dormant ∨ (s.alertEvent c).ac.activity = .waking := by
  unfold State.alertEvent State.readinessEvent
  dsimp only
  split
  · split
    · exact .inr (wakeTrigger_wakes _ c (.inl h))
    · exact .inl h
  · split <;> exact .inl h
  · split <;> exact .inl h
  · exact .inl h

/-- R101: a heeded ALERT with a grade wakes a DORMANT station. -/
theorem heedAlert_wakes (hg : g ≠ .none) (h : s.ac.activity = .dormant) : (s.heedAlert c g).ac.activity = .waking := by
  unfold State.heedAlert
  rw [if_pos (one_le_code.mpr hg)]
  exact wakeTrigger_wakes _ c (alertEvent_activity h)

theorem heedAlert_held : (s.heedAlert c g).held = s.held := by
  unfold State.heedAlert
  dsimp only
  split
  · exact (wakeTrigger_held _ c).trans (alertEvent_held s c)
  · exact alertEvent_held s c

theorem alertEvent_not_dormant (h : s.ac.activity ≠ .dormant) : (s.alertEvent c).ac.activity ≠ .dormant := by
  have hw : ∀ x : State, x.ac.activity ≠ .dormant → (x.wakeTrigger c).ac.activity ≠ .dormant := fun x hx => by
    unfold State.wakeTrigger
    split
    · exact Activity.noConfusion
    · split <;> exact hx
    · exact hx
  unfold State.alertEvent State.readinessEvent
  dsimp only
  split
  · split
    · exact hw _ h
    · exact h
  · split <;> exact h
  · split <;> exact h
  · exact h

theorem heedAlert_tank (h : s.ac.activity ≠ .dormant) : (s.heedAlert c g).tank = s.tank := by
  unfold State.heedAlert
  dsimp only
  split
  · exact (wakeTrigger_tank (alertEvent_not_dormant h)).trans (alertEvent_tank h)
  · exact alertEvent_tank h

/-- What no ALERT touches. -/
structure BesideAlert (s u : State) : Prop where
  member : u.member = s.member
  tables : u.tables = s.tables
  books : u.books = s.books
  held : u.held = s.held
  tank : s.ac.activity ≠ .dormant → u.tank = s.tank
  rain : u.rain = s.rain

theorem BesideAlert.refl (s : State) : BesideAlert s s := ⟨rfl, rfl, rfl, rfl, fun _ => rfl, rfl⟩

theorem takeAlert_beside : BesideAlert s (s.takeAlert c a origin zone g) := by
  have hrain := (KeepsRain.takeAlert s c a origin zone g).rain
  refine ⟨by simp, by simp, by simp, ?_, fun h => ?_, hrain⟩ <;> rw [takeAlert_eq]
  all_goals
    obtain ⟨r, hr⟩ := recordAlert_frame (s := s) (c := c) a origin zone g
    rw [hr]
    split
  · exact heedAlert_held g
  · rfl
  · exact heedAlert_tank g h
  · rfl

/-- A heeded zone's event sees the rain unit with the zone's entry judged. -/
theorem takeAlert_ru : (s.takeAlert c a origin zone g).ru = (s.recordAlert c a origin zone g).ru := by
  rw [takeAlert_eq]
  split
  · exact (congrArg Prod.fst (heedAlert_weather g)).trans (alertEvent_climb _ c).2
  · rfl

/-- R100, R101: an ALERT for a heeded zone. -/
theorem takeAlert_heeded (hh : isHeeded c zone = true) : Climbs c s (s.takeAlert c a origin zone g) ∧
    (g ≠ .none → s.ac.activity = .dormant → (s.takeAlert c a origin zone g).ac.activity = .waking) := by
  obtain ⟨r, hr⟩ := recordAlert_frame (s := s) (c := c) a origin zone g
  rw [takeAlert_eq, if_pos hh, hr]
  exact ⟨(heedAlert_climbs (s := { s with ru := r }) g).congr rfl rfl rfl rfl, fun hg hd => heedAlert_wakes g hg hd⟩

theorem takeAlert_unheeded (hh : isHeeded c zone = false) :
    (s.takeAlert c a origin zone g).srm = s.srm ∧ (s.takeAlert c a origin zone g).sc = s.sc := by
  obtain ⟨r, hr⟩ := recordAlert_frame (s := s) (c := c) a origin zone g
  rw [takeAlert_eq, if_neg (by rw [hh]; decide), hr]
  exact ⟨rfl, rfl⟩

/-! ## The command -/

/-- What follows the owner of a frame that is no allocation frame, and the end of the command, leave of the owner's state u. -/
structure AfterOwner (u t : State) : Prop where
  member : t.member = u.member
  tables : t.tables = u.tables
  spills : t.spills = u.spills
  tank : t.tank = u.tank
  weather : t.weather = u.weather
  activity : t.ac.activity = u.ac.activity

theorem afterOwner_settle {f : Frame} (hf : f.isAllocation = false) (u : State) (c : Image) (a : Arrival) (b b' : State) :
    AfterOwner u (settle c b (u.followUp c a f b')) := by
  obtain ⟨hm, ht⟩ := followUp_keeps (u := u) c a b' hf
  exact {
    member := (settle_member ..).trans hm, tables := (settle_tables ..).trans ht, spills := by simp, tank := by simp
    weather := by simp, activity := by rw [settle_activity, followUp_ac u c a b' hf] }

end

section
variable {s : State} {c : Image} {sub : BitVec 3} {b : FrameBody}

/-- What R96 asks of an ALERT. -/
theorem alertActs_iff (h : 1 ≤ b.payload.length) : alertActs (bodyFrame b 4 sub.toNat) = true ↔
    isTank b.sender.toNat = true ∧ sub.toNat ≤ 3 ∧ numAt b.payload 0 % 16 ≠ 0 := by
  simp only [alertActs, Bool.and_eq_true]
  constructor
  · rintro ⟨⟨⟨-, htank⟩, hsub⟩, hzone⟩
    exact ⟨htank, of_decide_eq_true hsub, Nat.one_le_iff_ne_zero.mp (of_decide_eq_true hzone)⟩
  · rintro ⟨htank, hsub, hzone⟩
    exact ⟨⟨⟨decide_eq_true h, htank⟩, decide_eq_true hsub⟩, decide_eq_true (Nat.one_le_iff_ne_zero.mpr hzone)⟩

end

/-- Settles O47: an ALERT is passed over, or the zone's entry judges it and a heeded zone's event follows. -/
theorem alertFrame : Obligations.AlertFrame := by
  intro s c sub b h h0 h63 hlen zone grade
  let f := bodyFrame b 4 sub.toNat
  let x := s.heardFrame c f
  let a := s.arrival c f
  let u := if alertActs f then x.takeAlert c a f.sender zone grade else x
  let t := settle c s (u.followUp c a f (s.concluded c f))
  have hexec : exec (.alert sub b) s = .next t := congrArg Host.Outcome.next (receive_hears h (fromStation_of_ne h0 h63) _)
  have ht : AfterOwner u t := afterOwner_settle (f := f) rfl u c a s _
  have hru : t.ru = u.ru := congrArg Prod.fst ht.weather
  have hact : x.ac.activity = s.ac.activity := heardFrame_activity s c f
  have hxru : x.ru = s.ru := heardFrame_ru s c f
  have hxsrm : x.srm = s.srm := heardFrame_srm s c f
  have hxsc : x.sc = s.sc := congrArg Prod.fst (heardFrame_spills s c f)
  have hsc : t.sc = u.sc := congrArg Prod.fst ht.spills
  have hu : BesideAlert x u := by
    show BesideAlert x (if alertActs f then _ else _)
    split
    · exact takeAlert_beside a _ _ _
    · exact .refl x
  have hrain : t.rain = s.rain := (rain_of_ru hru).trans (hu.rain.trans (rain_of_ru hxru))
  simp only [State.rain, Prod.mk.injEq] at hrain
  obtain ⟨hring, hcurrent, hlocal⟩ := hrain
  refine ⟨t, hexec, ?_, ?_, ?_, ?_, fun ha => ?_, hlocal, hring, hcurrent, fun hno => ?_, fun htank hz hs => ?_⟩
  · exact (membership_of_member (ht.member.trans hu.member)).trans (heardFrame_membership s c f)
  · exact (ht.tables.trans hu.tables).trans (heardFrame_tables s c f)
  · exact ((books_of_spills ht.spills).trans hu.books).trans (heardFrame_books s c f)
  · exact ((congrArg Prod.snd ht.tank).trans hu.held).trans (congrArg Prod.snd (heardFrame_tank s c f))
  · exact (ht.tank.trans (hu.tank (hact ▸ ha))).trans (heardFrame_tank s c f)
  · have hux : u = x := by
      refine if_neg fun hacts => ?_
      obtain ⟨htank, hsub, hz⟩ := (alertActs_iff hlen).mp hacts
      rw [isTank_iff] at htank
      rcases hno with hno | hno | hno
      · rw [isListener_iff] at hno
        omega
      · exact hz hno
      · omega
    rw [hru, hux, hxru]
  · have hux : u = x.takeAlert c a f.sender zone grade := if_pos ((alertActs_iff hlen).mpr ⟨htank, hs, hz⟩)
    have hrec : t.ru = (x.recordAlert c a f.sender zone grade).ru := by rw [hru, hux, takeAlert_ru]
    refine ⟨fun z hne => ?_, fun l hl h15 => ?_, fun hh => ?_, fun hh => ?_, fun ho => ?_⟩
    · rw [zoneEntry_congr hrec, recordAlert_entry_other _ _ _ _ hne, zoneEntry_congr hxru]
    · rw [zoneEntry_congr hrec, recordAlert_entry _ _ _ _ (hxru ▸ hl) hz (by omega), zoneEntry_congr hxru]
      rfl
    · obtain ⟨hclimbs, hwakes⟩ := takeAlert_heeded (s := x) a f.sender zone grade hh
      rw [← hux] at hclimbs hwakes
      exact ⟨hclimbs.congr hxsrm hxsc ht.weather hsc, fun hg hd => ht.activity.trans (hwakes hg (hact.trans hd))⟩
    · obtain ⟨husrm, husc⟩ := takeAlert_unheeded (s := x) a f.sender zone grade hh
      rw [← hux, hxsrm] at husrm
      rw [← hux, hxsc] at husc
      have hw := ht.weather
      simp only [State.weather, Prod.mk.injEq] at hw
      obtain ⟨-, hreadiness, hwindow, hfresh, htrigger⟩ := hw
      rw [hreadiness, hwindow, hfresh, htrigger, hsc, husrm, husc]
      exact ⟨rfl, rfl, rfl, rfl, rfl⟩
    · obtain ⟨hlast, hrefresh⟩ :=
        recordAlert_own (s := x) (c := c) a f.sender zone grade (congrArg Arrival.own (arrival_own ho))
      rw [hrec]
      exact ⟨hlast, fun hg => hrefresh (hxru ▸ hg)⟩

end Sys2Proof.Machine

namespace Sys2Proof.Machine
open Sys2Proof

/-! ## A RESTART over a notice in flight (R61, R159, R176) -/

/-- A RESTART from listening station 52 to station 9. -/
def restartBody : FrameBody := { sender := 52, addressee := 9, payload := [] }

/-- Another station's RESTART has lost the flight its arbitration: the sets merge in the slot before the notices are
written again. -/
theorem setsInNoticeSlot_restarted :
    let u := (setsInNoticeSlot.heardFrame faultImage (bodyFrame restartBody 6 4)).takeRestart faultImage
    u.lc.idle = false ∧ (u.slot .noticeStart).state = .pending (.absent [1, 2]) := by decide +kernel

/-- Refutes O43 in its second part: R176 joins a failed content with its next one, so where the NOTICE-START slot bears sets
of stations (which no owner writes there, but a `State` may hold), what a RESTART writes again is their union, not the
content that was pending. -/
theorem not_alertsAndNoticesWritten : ¬ Obligations.AlertsAndNoticesWritten := by
  rintro ⟨-, hrewritten, -⟩
  obtain ⟨t, ht, -, hnotices, -⟩ := hrewritten setsInNoticeSlot faultImage restartBody (.restart restartBody)
    setsInNoticeSlot_hears (.inr ⟨rfl, by decide, by decide⟩) setsInNoticeSlot_uncancelled
  have hwant : (t.slot .noticeStart).state = .pending (.absent [2]) := by
    rw [hnotices .noticeStart (by simp), setsInNoticeSlot_waits]
  let f := bodyFrame restartBody 6 4
  let u := (setsInNoticeSlot.heardFrame faultImage f).takeRestart faultImage
  have hfollow : ∀ a b, u.followUp faultImage a f b = u := fun a b =>
    followUp_off faultImage a f b (.inl (takeRestart_restarted _ faultImage).membership)
  have hrun : exec (.restart restartBody) setsInNoticeSlot = .next (settle faultImage setsInNoticeSlot u) := by
    refine congrArg Host.Outcome.next ((receive_hears setsInNoticeSlot_hears (by decide) _).trans ?_)
    rw [if_pos (by decide), hfollow]
  obtain ⟨hidle, hslot⟩ := setsInNoticeSlot_restarted
  obtain rfl := Host.Outcome.next.inj (hrun.symm.trans ht)
  rw [settle_slot _ _ _ _ hidle (by decide), hslot] at hwant
  cases hwant

end Sys2Proof.Machine

namespace Sys2Proof.Machine
open Sys2Proof

/-! ## A station that runs does not fall back to DOWN of itself (R34, R193, R194) -/

/-- From s to t a station that was not in DOWN still is not. -/
def StaysUp (s t : State) : Prop := s.mu.membership ≠ .down → t.mu.membership ≠ .down

namespace StaysUp

variable {s t u : State}

theorem refl (s : State) : StaysUp s s := id

theorem trans (h : StaysUp s t) (k : StaysUp t u) : StaysUp s u := k ∘ h

theorem ite {p : Prop} [Decidable p] (h : StaysUp s t) (k : StaysUp s u) : StaysUp s (if p then t else u) := by
  split
  · exact h
  · exact k

theorem guarded {p : Prop} [Decidable p] (h : StaysUp s t) : StaysUp s (if p then t else s) := h.ite (refl s)

theorem of_membership (hm : t.mu.membership = s.mu.membership) : StaysUp s t := fun h => hm ▸ h

theorem of_member (hm : t.member = s.member) : StaysUp s t := of_membership (membership_of_member hm)

/-- What surrounds the owner of an accepted frame does not bring a station to DOWN, so the frame does not if its owner does
not. -/
theorem acceptFrame {c : Image} {f : Frame} {o : Arrival → State → State}
    (ho : StaysUp (s.heardFrame c f) (o (s.arrival c f) (s.heardFrame c f))) : StaysUp s (acceptFrame c f o s) := by
  have hheard : StaysUp s (s.heardFrame c f) := of_membership (heardFrame_membership s c f)
  have hdone := (KeepsRain.ownerDone (o (s.arrival c f) (s.heardFrame c f)) c (s.arrival c f) f).up
  have hafter := (KeepsRain.afterFrame ((o (s.arrival c f) (s.heardFrame c f)).ownerDone c (s.arrival c f) f)
    (s.concluded c f) c).up
  exact ite (((hheard.trans ho).trans hdone).trans hafter) (of_member (by simp))

end StaysUp

/-! ## The outputs in DOWN (R193, R194, R198) -/

namespace DownRule

variable {s t u : State} {c : Image}

theorem of_up (hm : t.mu.membership ≠ .down) : DownRule t := fun hd => absurd hd hm

/-- A reset shuts the valve, opens the inlet and darkens the lamp (R187, R194). -/
theorem of_reset (hts : t.ts = .reset) (hsrm : t.srm = .reset) : DownRule t := by
  intro _
  rw [hts, hsrm]
  exact ⟨rfl, rfl, rfl, rfl⟩

/-- A good load leaves DOWN for LISTENING (R192). -/
theorem goodLoad (s b : State) (c : Image) : DownRule (settle c b (s.goodLoad c)) := by
  refine of_up ?_
  obtain ⟨_, he⟩ := goodLoad_eq s c
  rw [settle_membership, he]
  exact Membership.noConfusion

/-- A command of a running station ends outside DOWN if its body does. -/
theorem settle (hc : s.running = some c) (hu : StaysUp s u) (b : State) : DownRule (settle c b u) := by
  refine of_up ?_
  rw [settle_membership]
  exact hu (running_not_down hc)

section
variable (h : DownRule s)
include h

/-- The rule sees the membership, the tank's valve, inlet and lock, and the readiness. -/
theorem congr (hm : t.mu = s.mu) (ht : t.ts = s.ts) (hr : t.srm.readiness = s.srm.readiness) : DownRule t := by
  unfold DownRule
  rw [hm, ht, hr]
  exact h

theorem onRunning {g : Image → Bool} {body : Image → State} (hb : ∀ c, StaysUp s (body c)) :
    DownRule (s.onRunning g body) := by
  cases hc : s.running with
  | none => rwa [onRunning_none hc]
  | some c =>
    rw [onRunning_some hc]
    split
    · exact settle hc (hb c) s
    · exact h

theorem receive {f : Frame} {o : Image → Arrival → State → State} (ho : ∀ c a x, StaysUp x (o c a x)) :
    DownRule (receive f o s) := h.onRunning fun c => .acceptFrame (ho c _ _)

end

end DownRule

/-- Every command of the table resets the station, loads it, leaves what the rule sees, or acts on a running station,
which then still is not in DOWN. -/
theorem exec_downRule {i : Instr} {s t : State} (h : DownRule s) (he : exec i s = .next t) : DownRule t := by
  cases i with
  | powerOn | supplyBelowThreshold => obtain rfl := Host.Outcome.next.inj he; exact .of_reset rfl rfl
  | resetLinePulse =>
    obtain rfl := Host.Outcome.next.inj he
    split
    · exact .of_reset rfl rfl
    · exact h
  | resetLineRelease | stationSecondsTick =>
    obtain rfl := Host.Outcome.next.inj he
    split
    · exact h.congr rfl rfl rfl
    · exact h
  | configReadAttempt read =>
    obtain rfl := Host.Outcome.next.inj he
    split
    · unfold State.readAttempt State.failedAttempt
      dsimp only
      split
      · split <;> exact h.congr rfl rfl rfl
      · split
        · exact h.congr rfl rfl rfl
        · exact .goodLoad s s _
    · exact h
  | configRetryWaitExpiry => obtain rfl := Host.Outcome.next.inj he; exact h.congr rfl rfl rfl
  | tideInputChange level =>
    obtain rfl := Host.Outcome.next.inj he
    have hpin : DownRule { s with tidePin := level } := h.congr rfl rfl rfl
    exact hpin.onRunning fun c => .of_member (by simp)
  | sensorReply reply =>
    unfold Machine.exec execSensorReply at he
    dsimp only at he
    split at he <;> obtain rfl := Host.Outcome.next.inj he
    · exact h
    · exact h.onRunning fun c => .of_member (by simp)
  | lineIdle =>
    obtain rfl := Host.Outcome.next.inj he
    split
    · exact h
    · next c hc => exact .settle hc (.of_member (by simp)) _
  | frameBreakOff =>
    obtain rfl := Host.Outcome.next.inj he
    have hbusy : StaysUp s s.lineBusy := .of_member rfl
    exact h.onRunning fun c => .ite (hbusy.trans (KeepsRain.abortOwn _ c).up) hbusy
  | ownFrameAborted found =>
    obtain rfl := Host.Outcome.next.inj he
    exact h.onRunning fun c => .trans (t := s.endField (s.senderMarks c found)) (.of_member rfl) (KeepsRain.abortOwn _ c).up
  | table segment b => obtain rfl := Host.Outcome.next.inj he; exact h.receive fun c a x => (KeepsRain.takeTable x c a _ _).up
  | absent b => obtain rfl := Host.Outcome.next.inj he; exact h.receive fun c a x => .guarded (KeepsRain.takeAbsent x c _).up
  | reclaim b => obtain rfl := Host.Outcome.next.inj he; exact h.receive fun c a x => .guarded (KeepsRain.takeReclaim x _).up
  | yield b | release b =>
    obtain rfl := Host.Outcome.next.inj he
    refine h.receive fun c a x => .guarded ?_
    exact .trans (t := x.settleOutgoing a _) (.of_member (by simp)) (.guarded (.of_member (by simp)))
  | claim sub b =>
    obtain rfl := Host.Outcome.next.inj he
    exact h.receive fun c a x => .trans (.guarded (KeepsRain.takeClaim x _ _ _).up) (KeepsRain.lateWithdraw _ c a).up
  | join b => obtain rfl := Host.Outcome.next.inj he; exact h.receive fun c a x => .guarded (KeepsRain.takeJoin x c a _ _).up
  | status b =>
    obtain rfl := Host.Outcome.next.inj he
    exact h.receive fun c a x => .guarded ((KeepsRain.takeStatus x _ _).trans (.reassert _ a)).up
  | dormant b =>
    obtain rfl := Host.Outcome.next.inj he
    exact h.receive fun c a x => ((KeepsRain.markDormant x c _).trans (.ownDormant _ c a)).up
  | query b =>
    obtain rfl := Host.Outcome.next.inj he
    exact h.onRunning fun c => .ite (.of_member (by simp)) (.acceptFrame (.of_member (by simp)))
  | curtail b | withdraw b | alert sub b | recack b | period b | clear b | notice b =>
    obtain rfl := Host.Outcome.next.inj he
    exact h.receive fun c a x => .guarded (.of_member (by simp))
  | restart b => obtain rfl := Host.Outcome.next.inj he; exact h.receive fun c a x => .guarded (KeepsRain.takeRestart x c).up
  | record b | norec b | counts b | conditions b | unlistedSubKindFrame cls sub b =>
    obtain rfl := Host.Outcome.next.inj he
    exact h.receive fun c a x => .refl x
  | joinWaitExpiry =>
    obtain rfl := Host.Outcome.next.inj he
    have hw : StaysUp s (s.mapMu fun m => { m with joinWait := none }) := .of_membership rfl
    exact h.onRunning fun c => .ite (hw.trans (KeepsRain.judgeJoin _ c).up) hw
  | loadTimerExpiry =>
    obtain rfl := Host.Outcome.next.inj he
    have hw : StaysUp s (s.mapMu fun m => { m with load := none }) := .of_membership rfl
    exact h.onRunning fun c => .ite (hw.trans (KeepsRain.failJoin _ c).up) hw
  | lockTimerExpiry => obtain rfl := Host.Outcome.next.inj he; exact h.onRunning fun c => .of_membership (endLock_membership s c)
  | silenceTimerExpiry => obtain rfl := Host.Outcome.next.inj he; exact h.onRunning fun c => (KeepsRain.enterFallback s c).up
  | quietTimerExpiry =>
    obtain rfl := Host.Outcome.next.inj he
    exact h.onRunning fun c => .trans (t := s.mapMu fun m => { m with quiet := none }) (.of_membership rfl)
      (KeepsRain.enterListening _ c false).up
  | sampleTimerExpiry =>
    obtain rfl := Host.Outcome.next.inj he
    refine h.onRunning fun c => .trans (t := if s.ts.window.isSome then s.emptySample c else s) ?_ (.of_member (by simp))
    exact .guarded (.of_member (by simp))
  | alertAgeExpiry zone =>
    obtain rfl := Host.Outcome.next.inj he
    exact h.onRunning fun c => .ite (.of_member (by simp)) (.of_member (by simp))
  | lastHeardExpiry station | strandingTimerExpiry station =>
    obtain rfl := Host.Outcome.next.inj he
    exact h.onRunning fun c => .of_membership rfl
  | minuteBoundary | rainPulse time | tideStateChange | replyWindowClose | mergeTimerExpiry | lostArbitration
  | frameAbortedOrBusy rx | ownFrameBusy | busyBackoffExpiry slot | claimSpacingExpiry | listenTimerExpiry
  | restartHoldExpiry | burstHoldExpiry | presenceTimerExpiry | refreshTimerExpiry | stepWindowExpiry | calmTimerExpiry
  | parkTimerExpiry | dormancyDelayExpiry | wakeRecoveryExpiry =>
    obtain rfl := Host.Outcome.next.inj he
    exact h.onRunning fun c => .of_member (by simp)

theorem step_downRule {s t : State} (h : DownRule s) (he : step s = .next t) : DownRule t := by
  cases hp : s.pending with
  | nil =>
    rw [step_empty hp] at he
    obtain rfl := Host.Outcome.next.inj he
    obtain ⟨_, _, hw⟩ := elapse_eq s
    rw [hw]
    exact h.congr rfl rfl rfl
  | cons i rest =>
    rw [step_front hp] at he
    exact exec_downRule (s := { s with pending := rest }) h he

/-! ## The patterns and the levels of the outputs (R113, R196, R198) -/

section
variable {s : State}

/-- Table 10-4. -/
theorem statusPattern_iff (s : State) :
    (s.statusPattern = .down ↔ s.mu.membership = .down) ∧
    (s.statusPattern = .joining ↔
      s.mu.membership = .listening ∨ s.mu.membership = .joining ∨ s.mu.membership = .loading) ∧
    (s.statusPattern = .linked ↔ s.mu.membership = .linked) ∧
    (s.statusPattern = .fallenOut ↔ s.mu.membership = .fallback ∨ s.mu.membership = .isolated) := by
  unfold State.statusPattern
  cases s.mu.membership <;> simp

theorem inletOutput_iff : s.inletOutput = true ↔ s.ts.inlet = .opened := decide_eq_true_iff

/-- The four lines carry every position of the valve. -/
theorem valveOutput_toNat (h : s.ts.valve ≤ 8) : s.valveOutput.toNat = s.ts.valve := by
  unfold State.valveOutput
  rw [BitVec.toNat_ofNat]
  omega

/-- R85, R86, R5: an open valve stands at the own holdings outside the outgoing set, and a station holds at most 8. -/
theorem valve_le_eight {c : Image} (hv : ValveRule s) (hh : HoldRule s) (hc : s.running = some c) : s.ts.valve ≤ 8 := by
  obtain ⟨hshut, hopen⟩ := hv
  by_cases hd : s.mu.membership = .linked ∧ s.ac.activity = .active ∧ s.ts.drain = .draining
  · obtain ⟨hm, ha, hdrain⟩ := hd
    obtain ⟨-, -, hholds⟩ := hh
    have hkept : (s.keptHoldings c).length ≤ (s.holdings c.station).length := List.length_filter_le ..
    have hown := hholds c.station
    rw [hopen c hc hm ha hdrain]
    omega
  · rw [hshut (by tauto)]
    exact Nat.zero_le _

/-- Table 5-3: without the tide lock the lamp is dark in QUIET. -/
theorem lampPattern_quiet (hl : s.ts.tideLock = false) (hr : s.srm.readiness = .quiet) : s.lampPattern = .off := by
  unfold State.lampPattern
  rw [hl, hr]
  rfl

/-- What the outputs show in DOWN: a dark lamp, the line's DOWN pattern, the gate high and the valve lines at 0. -/
theorem outputs_in_down (h : DownRule s) (hd : s.mu.membership = .down) :
    (∀ since, s.lampOutput since = false) ∧ s.statusPattern = .down ∧ s.inletOutput = true ∧ s.valveOutput = 0 := by
  obtain ⟨hvalve, hinlet, hlock, hquiet⟩ := h hd
  obtain ⟨hdown, -⟩ := statusPattern_iff s
  refine ⟨fun since => ?_, hdown.mpr hd, inletOutput_iff.mpr hinlet, ?_⟩
  · unfold State.lampOutput
    rw [lampPattern_quiet hlock hquiet, lit_off]
  · unfold State.valveOutput
    rw [hvalve]
    rfl

end

/-- R187, R194: power-on, the loss of supply and a pulse of the reset line bring the station to DOWN. -/
theorem exec_resets {s : State} {i : Instr}
    (hi : i = .powerOn ∨ i = .supplyBelowThreshold ∨ (i = .resetLinePulse ∧ s.supplyGood = true)) :
    ∃ t, exec i s = .next t ∧ DownRule t ∧ t.mu.membership = .down := by
  rcases hi with rfl | rfl | ⟨rfl, hs⟩
  · exact ⟨_, rfl, .of_reset rfl rfl, rfl⟩
  · exact ⟨_, rfl, .of_reset rfl rfl, rfl⟩
  · exact ⟨s.pulseValues, congrArg Host.Outcome.next (if_pos hs), .of_reset rfl rfl, rfl⟩

/-- Settles O45: the patterns by Tables 5-3 and 10-4, their levels by the laws of the patterns, and DOWN by the rule that
every step keeps. -/
theorem outputs : Obligations.Outputs := by
  refine ⟨fun s => ?_, fun s since => ?_, fun _ _ => step_downRule, fun _ => outputs_in_down, fun _ _ => valve_le_eight,
    fun s i hi => ?_⟩
  · obtain ⟨hdown, hjoining, hlinked, hfallen⟩ := statusPattern_iff s
    refine ⟨?_, hdown, hjoining, hlinked, hfallen, inletOutput_iff, valveOutput_toNat⟩
    unfold State.lampPattern
    split
    · rfl
    · cases s.srm.readiness <;> rfl
  · unfold State.lampOutput State.statusOutput
    refine ⟨?_, ?_, ?_, ?_, ?_, ?_, ?_, ?_⟩ <;> intro hp <;> rw [hp]
    · exact lit_off since
    · exact lit_steady since
    · exact lit_slowFlash_iff since
    · exact lit_fastFlash_iff since
    · exact high_down_iff since
    · exact high_joining_iff since
    · exact high_linked since
    · exact high_fallenOut_iff since
  · obtain ⟨t, ht, hrule, hdown⟩ := exec_resets hi
    exact ⟨t, ht, outputs_in_down hrule hdown⟩

end Sys2Proof.Machine

namespace Sys2Proof.Machine
open Sys2Proof

/-! ## A closed record at the log (R137, R138) -/

/-- From r to r' the record x has met the log under image c: written with the next sequence while there is room, and at a
full log discarded under KEEP or written in place of the oldest under OVERWRITE. -/
structure MeetsLog (c : Image) (x : SpillRecord) (r r' : RsState) : Prop where
  room : r.log.length < 32 →
    r'.log = r.log ++ [{ sequence := r.written.setWidth 16, record := x, announced := false }] ∧
    r'.written = r.written + 1 ∧ r'.discarded = r.discarded ∧ r'.overwritten = r.overwritten
  keep : 32 ≤ r.log.length → c.logMode = .keep →
    r'.log = r.log ∧ r'.written = r.written ∧ r'.discarded = r.discarded + 1 ∧ r'.overwritten = r.overwritten
  overwrite : 32 ≤ r.log.length → c.logMode = .overwrite →
    r'.log = r.log.drop 1 ++ [{ sequence := r.written.setWidth 16, record := x, announced := false }] ∧
    r'.written = r.written + 1 ∧ r'.discarded = r.discarded ∧ r'.overwritten = r.overwritten + 1

theorem takeRecord_meetsLog (s : State) (c : Image) (x : SpillRecord) : MeetsLog c x s.rs (s.takeRecord c x).rs := by
  obtain ⟨hlog, hwritten, hdiscarded, hoverwritten⟩ := latch_log s c .recordLost
  refine ⟨fun hr => ?_, fun hf hm => ?_, fun hf hm => ?_⟩
  · rw [takeRecord_room s c x hr]
    exact ⟨rfl, rfl, rfl, rfl⟩
  · rw [takeRecord_keep s c x hf hm]
    exact ⟨hlog, hwritten, rfl, hoverwritten⟩
  · rw [takeRecord_overwrite s c x hf hm]
    exact ⟨rfl, rfl, hdiscarded, rfl⟩

namespace MeetsLog

variable {c : Image} {x : SpillRecord} {r r' : RsState}

/-- Only the log and its counters count. -/
theorem congr {q q' : RsState} (h : MeetsLog c x r r')
    (hr : q.log = r.log ∧ q.written = r.written ∧ q.discarded = r.discarded ∧ q.overwritten = r.overwritten)
    (hr' : q'.log = r'.log ∧ q'.written = r'.written ∧ q'.discarded = r'.discarded ∧ q'.overwritten = r'.overwritten) :
    MeetsLog c x q q' := by
  obtain ⟨h1, h2, h3, h4⟩ := hr
  obtain ⟨k1, k2, k3, k4⟩ := hr'
  constructor <;> rw [h1, h2, h3, h4, k1, k2, k3, k4]
  · exact h.room
  · exact h.keep
  · exact h.overwrite

/-- R130, R137, R138: a record that meets the log is counted once, as written or as discarded. -/
theorem counted (h : MeetsLog c x r r') : r'.written + r'.discarded = r.written + r.discarded + 1 := by
  rcases Nat.lt_or_ge r.log.length 32 with hr | hf
  · obtain ⟨-, hw, hd, -⟩ := h.room hr
    rw [hw, hd]
    ac_rfl
  · cases hm : c.logMode with
    | keep =>
      obtain ⟨-, hw, hd, -⟩ := h.keep hf hm
      rw [hw, hd]
      ac_rfl
    | overwrite =>
      obtain ⟨-, hw, hd, -⟩ := h.overwrite hf hm
      rw [hw, hd]
      ac_rfl

end MeetsLog

/-- What a closing leaves of the spill counter, with or without a record open (R124). -/
theorem closeEpisode_sc (s : State) (c : Image) :
    (s.closeEpisode c).sc = { s.sc with record := none, episode := .clear, merge := none } := by
  cases h : s.sc.record with
  | none => exact (closeEpisode_none s c h).1
  | some r => exact (closeEpisode_some s c r h).1

theorem closeEpisode_meetsLog {s : State} {r : SpillRecord} (c : Image) (h : s.sc.record = some r) :
    MeetsLog c r s.rs (s.closeEpisode c).rs := by
  rw [(closeEpisode_some s c r h).2]
  exact takeRecord_meetsLog (s.mapSc fun x => { x with record := none, episode := .clear, merge := none }) c r

/-! ## The count of episodes (R116, R130) -/

/-- The count rule less what it says of the image: every episode so far is written, discarded or open, and the record is
open exactly while the episode is. -/
def Tallied (s : State) : Prop :=
  s.sc.total = s.rs.written + s.rs.discarded + openCount s ∧ s.sc.record.isSome = s.sc.episode.isOpen

theorem countRule_iff {s : State} : CountRule s ↔ Tallied s ∧ (s.sc.record.isSome = true → s.cl.image.isSome = true) :=
  and_assoc.symm

theorem openCount_of_open {s : State} (h : s.sc.episode.isOpen = true) : openCount s = 1 := if_pos h

theorem openCount_of_not {s : State} (h : s.sc.episode.isOpen = false) : openCount s = 0#32 := by
  unfold openCount
  rw [h]
  rfl

namespace Tallied

variable {s t : State}

/-- The count sees the total, the log's two counters, and whether the episode and the record are open. -/
theorem congr (h : Tallied s) (ht : t.sc.total = s.sc.total) (he : t.sc.episode.isOpen = s.sc.episode.isOpen)
    (hr : t.sc.record.isSome = s.sc.record.isSome)
    (hlog : t.rs.written = s.rs.written ∧ t.rs.discarded = s.rs.discarded) : Tallied t := by
  obtain ⟨hw, hd⟩ := hlog
  unfold Tallied openCount at h ⊢
  rwa [ht, he, hr, hw, hd]

theorem of_books (h : Tallied s) (hb : t.books = s.books) : Tallied t := by
  simp only [State.books, Prod.mk.injEq] at hb
  obtain ⟨ht, he, hr, -, hw, hd, -⟩ := hb
  exact h.congr ht (congrArg Episode.isOpen he) hr ⟨hw, hd⟩

/-- A change of the spill counter that neither opens nor closes. -/
theorem mapSc (h : Tallied s) {f : ScState → ScState} (ht : (f s.sc).total = s.sc.total)
    (he : (f s.sc).episode.isOpen = s.sc.episode.isOpen) (hr : (f s.sc).record.isSome = s.sc.record.isSome) :
    Tallied (s.mapSc f) := h.congr ht he hr ⟨rfl, rfl⟩

theorem mapRecord (h : Tallied s) (f : SpillRecord → SpillRecord) : Tallied (s.mapRecord f) :=
  h.mapSc rfl rfl (by simp)

/-- R124, R130: the episode that closes is counted by the log. -/
theorem closeEpisode (h : Tallied s) (c : Image) : Tallied (s.closeEpisode c) := by
  obtain ⟨htotal, hrec⟩ := h
  have hsc := closeEpisode_sc s c
  refine ⟨?_, by rw [hsc]; rfl⟩
  rw [openCount_of_not (s := s.closeEpisode c) (by rw [hsc]; rfl), hsc]
  show s.sc.total = _
  cases hr : s.sc.record with
  | none =>
    have hclosed : s.sc.episode.isOpen = false := by rw [← hrec, hr]; rfl
    rw [(closeEpisode_none s c hr).2, htotal, openCount_of_not hclosed]
  | some r =>
    have hopen : s.sc.episode.isOpen = true := by rw [← hrec, hr]; rfl
    rw [(closeEpisode_meetsLog c hr).counted, htotal, openCount_of_open hopen, BitVec.add_zero]

/-- R119, R130: the episode that opens is counted as open. -/
theorem openEpisode (h : Tallied s) (c : Image) (hclosed : s.sc.episode.isOpen = false) : Tallied (s.openEpisode c) := by
  obtain ⟨htotal, -⟩ := h
  rw [openCount_of_not hclosed, BitVec.add_zero] at htotal
  unfold Tallied State.openEpisode openCount
  rw [writeNotice_sc, writeNotice_rs]
  exact ⟨congrArg (· + 1) htotal, rfl⟩

theorem onsetSample (h : Tallied s) (c : Image) (level : Nat) (suspect : Bool) (hclosed : s.sc.episode.isOpen = false) :
    Tallied (s.onsetSample c level suspect) := by
  have hjoined : Tallied (s.mapSc fun x => { x with
      episode := .onset, onsetCounter := x.onsetCounter + 1, onset := x.onset.add c level suspect }) :=
    h.mapSc rfl hclosed.symm rfl
  unfold State.onsetSample
  dsimp only
  split
  · exact hjoined.openEpisode c rfl
  · exact hjoined

theorem accrueSample (h : Tallied s) (c : Image) (level : Nat) (suspect : Bool) (hopen : s.sc.episode.isOpen = true) :
    Tallied (s.accrueSample c level suspect) := (h.mapRecord _).mapSc rfl hopen.symm rfl

theorem settleSample (h : Tallied s) (c : Image) (hopen : s.sc.episode.isOpen = true) : Tallied (s.settleSample c) := by
  have hsettling : Tallied (s.mapSc fun x => { x with episode := .settling, settleCounter := x.settleCounter + 1 }) :=
    h.mapSc rfl hopen.symm rfl
  unfold State.settleSample State.enterMergeWait
  dsimp only
  split
  · have hwait := hsettling.mapSc (f := fun x => { x with
      episode := .mergeWait, settleCounter := 0, merge := some (minutesMs c.mergeWindow) }) rfl rfl rfl
    split
    · exact hwait.closeEpisode c
    · exact hwait
  · exact hsettling

theorem spillingSample (h : Tallied s) (c : Image) (level : Nat) (suspect : Bool) :
    Tallied (s.spillingSample c level suspect) := by
  unfold State.spillingSample
  split
  case h_1 he => exact (h.mapSc rfl rfl rfl).onsetSample c level suspect (congrArg Episode.isOpen he)
  case h_2 he => exact h.onsetSample c level suspect (congrArg Episode.isOpen he)
  case h_3 he => exact h.accrueSample c level suspect (congrArg Episode.isOpen he)
  case h_4 he => exact (h.mapSc rfl rfl rfl).accrueSample c level suspect (congrArg Episode.isOpen he)
  case h_5 he => exact ((h.mapRecord _).mapSc rfl rfl rfl).accrueSample c level suspect (congrArg Episode.isOpen he)

theorem nonSpillingSample (h : Tallied s) (c : Image) (level : Nat) (suspect tideLocked : Bool) :
    Tallied (s.nonSpillingSample c level suspect tideLocked) := by
  have hrested : Tallied (s.mapRecord fun r => r.rest c level suspect tideLocked) := h.mapRecord _
  unfold State.nonSpillingSample
  dsimp only
  split
  case h_1 => exact h
  case h_2 he => exact h.mapSc rfl (congrArg Episode.isOpen he).symm rfl
  case h_3 he => exact (hrested.mapSc rfl rfl rfl).settleSample c (congrArg Episode.isOpen he)
  case h_4 he => exact hrested.settleSample c (congrArg Episode.isOpen he)
  case h_5 => exact hrested

theorem spillSample (h : Tallied s) (c : Image) (ch : Channel) : Tallied (s.spillSample c ch) := by
  unfold State.spillSample
  split
  · exact h.spillingSample c _ _
  · exact h.nonSpillingSample c _ _ _
  · exact h.of_books (unknownSample_books s)

/-- A kept sample is taken by the spill counter alone, as far as the count goes (R64). -/
theorem makeSample (h : Tallied s) (c : Image) (ch tk : Channel) : Tallied (s.makeSample c ch tk) := by
  have hwindow : Tallied (s.mapTs fun t => { t with window := none }) := h.of_books rfl
  unfold State.makeSample
  dsimp only
  split
  · exact hwindow
  · have htaken := (hwindow.of_books (keepValues_books _ c ch tk)).spillSample c ch
    exact htaken.of_books (by unfold State.keepSample; simp [apply_ite State.books])

theorem acknowledge (h : Tallied s) (c : Image) (sequence : Half) : Tallied (s.acknowledge c sequence) := by
  unfold State.acknowledge
  split
  · exact h.of_books (latch_books s c _)
  · exact h.congr rfl rfl rfl ⟨rfl, rfl⟩

theorem deliverNotice (h : Tallied s) (f : Frame) : Tallied (s.deliverNotice f) := by
  obtain ⟨l, n, hd⟩ := deliverNotice_eq s f
  rw [hd]
  exact h.congr rfl rfl rfl ⟨rfl, rfl⟩

end Tallied

/-- R133: a pulse counts the episode that it cuts, and leaves none open. -/
theorem cutAtPulse_tallied {s : State} (h : CountRule s) : Tallied s.cutAtPulse ∧ s.cutAtPulse.sc.record = none := by
  obtain ⟨htallied, himage⟩ := countRule_iff.mp h
  unfold State.cutAtPulse State.cutEpisode
  split
  · split
    · next hr => exact ⟨htallied, hr⟩
    · exact ⟨(htallied.mapRecord _).closeEpisode _, by rw [closeEpisode_sc]⟩
  · next hi =>
    refine ⟨htallied, ?_⟩
    rw [hi] at himage
    exact Option.not_isSome_iff_eq_none.mp fun hr => Bool.false_ne_true (himage hr)

/-! ## The load and the count through every command (R116, R130, R187) -/

/-- From s to u the chip's inputs and configuration stand, and the count still holds. -/
structure KeepsTally (s u : State) : Prop where
  chip : u.chip = s.chip
  tally : Tallied s → Tallied u

namespace KeepsTally

variable {s t u : State}

theorem refl (s : State) : KeepsTally s s := ⟨rfl, id⟩

theorem guarded {p : Prop} [Decidable p] (h : KeepsTally s t) : KeepsTally s (if p then t else s) := by
  split
  · exact h
  · exact refl s

theorem of_books (h : t.chip = s.chip ∧ t.books = s.books) : KeepsTally s t := ⟨h.1, fun k => k.of_books h.2⟩

/-- What surrounds the owner of an accepted frame leaves the count, so the frame keeps it if its owner does. -/
theorem acceptFrame {c : Image} {f : Frame} {o : Arrival → State → State}
    (ho : KeepsTally (s.heardFrame c f) (o (s.arrival c f) (s.heardFrame c f))) : KeepsTally s (acceptFrame c f o s) := by
  refine ⟨acceptFrame_keeps State.chip c f o s (by simp) (by simp) (by simp) (ho.chip.trans (by simp)), fun h => ?_⟩
  unfold Machine.acceptFrame
  split
  · exact (ho.tally (h.of_books (heardFrame_books s c f))).of_books (by simp)
  · exact h.of_books (concluded_books s c f)

end KeepsTally

/-- From s to t the load rule is kept, and under it the count rule. -/
def KeepsCount (s t : State) : Prop := LoadRule s → LoadRule t ∧ (CountRule s → CountRule t)

namespace KeepsCount

variable {s t u : State} {c : Image}

theorem refl (s : State) : KeepsCount s s := fun h => ⟨h, id⟩

/-- A state that the rules see alike. -/
theorem congr (hcl : t.cl.image = s.cl.image ∧ t.cl.load = s.cl.load) (hh : t.resetHeld = s.resetHeld)
    (hm : t.mu.membership = s.mu.membership) (hb : t.books = s.books) : KeepsCount s t := by
  intro hl
  obtain ⟨himage, hload⟩ := hcl
  refine ⟨by unfold LoadRule; rwa [himage, hload, hh, hm], fun hc => ?_⟩
  obtain ⟨ht, hi⟩ := countRule_iff.mp hc
  have hr : t.sc.record.isSome = s.sc.record.isSome := congrArg (fun b => b.2.2.1) hb
  exact countRule_iff.mpr ⟨ht.of_books hb, by rwa [hr, himage]⟩

/-- A station whose load was not good is in DOWN with no record open, and so it stays without an image (R187, R193). -/
theorem unloaded (hs : s.cl.load ≠ .good) (hi : t.cl.image = none) (hload : t.cl.load ≠ .good) (hh : t.resetHeld = false)
    (hm : t.mu.membership = s.mu.membership) (hb : t.books = s.books) : KeepsCount s t := by
  intro hl
  obtain ⟨hgood, -, hup⟩ := hl
  refine ⟨⟨by simp [hi, hload], fun hheld => ?_, fun hne => absurd (hup (hm ▸ hne)) hs⟩, fun hc => ?_⟩
  · exact absurd (hh.symm.trans hheld) Bool.false_ne_true
  · obtain ⟨ht, himage⟩ := countRule_iff.mp hc
    have hr : t.sc.record.isSome = s.sc.record.isSome := congrArg (fun b => b.2.2.1) hb
    exact countRule_iff.mpr ⟨ht.of_books hb, fun hopen => absurd (hgood.mp (himage (hr ▸ hopen))) hs⟩

/-- A command of a running station, whose body keeps the count (R187). -/
theorem settle (hc : s.running = some c) (hk : KeepsTally s u) (b : State) : KeepsCount s (settle c b u) := by
  intro hl
  obtain ⟨hgood, hheld, hup⟩ := hl
  have hchip : (Machine.settle c b u).chip = s.chip := (settle_chip c b u).trans hk.chip
  have hcl := cl_of_chip hchip
  have hh : (Machine.settle c b u).resetHeld = s.resetHeld := congrArg (fun v => v.2.1) hchip
  refine ⟨?_, fun hcount => ?_⟩
  · unfold LoadRule
    rw [hcl, hh]
    exact ⟨hgood, hheld, fun _ => hup (running_not_down hc)⟩
  · obtain ⟨ht, -⟩ := countRule_iff.mp hcount
    refine countRule_iff.mpr ⟨(hk.tally ht).of_books (settle_books c b u), fun _ => ?_⟩
    rw [hcl, running_image hc]
    rfl

theorem onRunning {g : Image → Bool} {body : Image → State} (hb : ∀ c, KeepsTally s (body c)) :
    KeepsCount s (s.onRunning g body) := by
  cases hc : s.running with
  | none => rw [onRunning_none hc]; exact refl s
  | some c =>
    rw [onRunning_some hc]
    split
    · exact settle hc (hb c) s
    · exact refl s

theorem receive {f : Frame} {o : Image → Arrival → State → State} (ho : ∀ c a x, KeepsTally x (o c a x)) :
    KeepsCount s (receive f o s) := onRunning fun c => .acceptFrame (ho c _ _)

/-- Power-on and the loss of supply begin the counts again (R130, R187). -/
theorem of_reset (hload : LoadRule t) (hsc : t.sc = .reset) (hrs : t.rs = .reset) : KeepsCount s t := by
  refine fun _ => ⟨hload, fun _ => ?_⟩
  unfold CountRule openCount
  rw [hsc, hrs]
  exact ⟨rfl, rfl, fun h => nomatch h⟩

/-- R133, R194: the counts outlast a pulse, the episode that it cuts among them. -/
theorem pulseValues (s : State) : KeepsCount s s.pulseValues := by
  refine fun _ => ⟨⟨⟨fun h => (nomatch h), fun h => nomatch h⟩, fun _ => rfl, fun h => absurd rfl h⟩, fun hc => ?_⟩
  obtain ⟨⟨htotal, hopen⟩, hnone⟩ := cutAtPulse_tallied hc
  rw [hnone] at hopen
  rw [openCount_of_not hopen.symm] at htotal
  exact ⟨htotal, rfl, fun h => nomatch h⟩

theorem resetLineRelease (s : State) (hh : s.resetHeld = true) :
    KeepsCount s ({ s with resetHeld := false }.beginLoad true) := by
  intro hl
  have hidle : s.cl.load = .idle := hl.2.1 hh
  exact unloaded (by rw [hidle]; decide) rfl nofun rfl rfl rfl hl

/-- R192: a good load latches its image, and the station leaves DOWN. -/
theorem goodLoad (s : State) (c : Image) (hh : s.resetHeld = false) : KeepsCount s (Machine.settle c s (s.goodLoad c)) := by
  obtain ⟨slots, he⟩ := goodLoad_eq s c
  refine fun _ => ⟨?_, fun hcount => ?_⟩
  · unfold LoadRule
    rw [settle_cl, settle_resetHeld, he]
    exact ⟨iff_of_true rfl rfl, fun hheld => absurd (hh.symm.trans hheld) Bool.false_ne_true, fun _ => rfl⟩
  · obtain ⟨ht, -⟩ := countRule_iff.mp hcount
    refine countRule_iff.mpr ⟨ht.of_books (by simp), fun _ => ?_⟩
    rw [settle_cl, he]
    rfl

/-- The end of a read attempt: another attempt, a bad load or a good one (R188 to R193). -/
theorem readAttempt (s : State) (read : ReadAttempt) (ha : s.attempting = true) : KeepsCount s (s.readAttempt read) := by
  intro hl
  have hreading : s.cl.load = .reading := by
    simp only [State.attempting, Bool.and_eq_true, decide_eq_true_eq] at ha
    exact ha.1
  have hs : s.cl.load ≠ .good := by rw [hreading]; decide
  have hh : s.resetHeld = false := Bool.eq_false_iff.mpr fun hheld => by
    have hidle := hl.2.1 hheld
    rw [hreading] at hidle
    cases hidle
  have hbad : KeepsCount s s.badLoad := unloaded hs rfl nofun hh rfl rfl
  have hthird : KeepsCount s (s.mapCl fun l => { l with attempts := l.attempts + 1 }).badLoad :=
    unloaded hs rfl nofun hh rfl rfl
  unfold State.readAttempt State.failedAttempt
  dsimp only
  split
  · split
    · exact hthird hl
    · exact congr ⟨rfl, rfl⟩ rfl rfl rfl hl
  · split
    · exact hbad hl
    · exact goodLoad s _ hh hl

/-- R116, R130, R187: every command of the table keeps the rules. Samples, the merge timer, RECACK and NOTICE change the
spill counter or the log; every other command of a running station leaves its books. -/
theorem exec {i : Instr} (he : exec i s = .next t) : KeepsCount s t := by
  cases i with
  | powerOn | supplyBelowThreshold =>
    obtain rfl := Host.Outcome.next.inj he
    exact .of_reset ⟨⟨nofun, nofun⟩, nofun, fun hne => absurd rfl hne⟩ rfl rfl
  | resetLinePulse =>
    obtain rfl := Host.Outcome.next.inj he
    split
    · exact pulseValues s
    · exact refl s
  | resetLineRelease =>
    obtain rfl := Host.Outcome.next.inj he
    split
    · next hh => exact resetLineRelease s (Bool.and_eq_true_iff.mp hh).2
    · exact refl s
  | configReadAttempt read =>
    obtain rfl := Host.Outcome.next.inj he
    split
    · next ha => exact readAttempt s read ha
    · exact refl s
  | configRetryWaitExpiry => obtain rfl := Host.Outcome.next.inj he; exact congr ⟨rfl, rfl⟩ rfl rfl rfl
  | stationSecondsTick =>
    obtain rfl := Host.Outcome.next.inj he
    split
    · exact congr ⟨rfl, rfl⟩ rfl rfl rfl
    · exact refl s
  | tideInputChange level =>
    obtain rfl := Host.Outcome.next.inj he
    have hpin : KeepsCount { s with tidePin := level }
        (State.onRunning { s with tidePin := level } (fun _ => !decide (level = s.tidePin)) fun _ =>
          State.timeTide { s with tidePin := level } level) := onRunning fun c => .of_books (by simp)
    exact hpin
  | sensorReply reply =>
    unfold Machine.exec execSensorReply at he
    dsimp only at he
    split at he <;> obtain rfl := Host.Outcome.next.inj he
    · exact refl s
    · exact onRunning fun c => ⟨by simp, fun h => h.makeSample c _ _⟩
  | replyWindowClose => obtain rfl := Host.Outcome.next.inj he; exact onRunning fun c => ⟨by simp, fun h => h.makeSample c _ _⟩
  | sampleTimerExpiry =>
    obtain rfl := Host.Outcome.next.inj he
    refine onRunning fun c => ?_
    have hsample : KeepsTally s (if s.ts.window.isSome then s.emptySample c else s) :=
      .guarded ⟨by simp, fun h => h.makeSample c _ _⟩
    exact ⟨(request_chip _ _).trans hsample.chip, fun h => (hsample.tally h).of_books (request_books _ _)⟩
  | mergeTimerExpiry => obtain rfl := Host.Outcome.next.inj he; exact onRunning fun c => ⟨by simp, fun h => h.closeEpisode c⟩
  | lineIdle =>
    obtain rfl := Host.Outcome.next.inj he
    split
    · exact refl s
    · next c hc => exact settle hc (.of_books (by simp)) s.lineBusy
  | recack b =>
    obtain rfl := Host.Outcome.next.inj he
    exact receive fun c a x => .guarded ⟨by simp, fun h => h.acknowledge c _⟩
  | notice b =>
    obtain rfl := Host.Outcome.next.inj he
    exact receive fun c a x => .guarded ⟨by simp, fun h => h.deliverNotice _⟩
  | query b =>
    obtain rfl := Host.Outcome.next.inj he
    refine onRunning fun c => ?_
    split
    · exact .of_books (by simp)
    · exact .acceptFrame (.of_books (by simp))
  | table segment b | dormant b => obtain rfl := Host.Outcome.next.inj he; exact receive fun c a x => .of_books (by simp)
  | absent b | reclaim b | curtail b | withdraw b | alert sub b | join b | status b | period b | clear b | restart b =>
    obtain rfl := Host.Outcome.next.inj he
    exact receive fun c a x => .guarded (.of_books (by simp))
  | yield b | release b | claim sub b =>
    obtain rfl := Host.Outcome.next.inj he
    exact receive fun c a x => .of_books (by simp [apply_ite State.chip, apply_ite State.books])
  | record b | norec b | counts b | conditions b | unlistedSubKindFrame cls sub b =>
    obtain rfl := Host.Outcome.next.inj he
    exact receive fun c a x => .refl x
  | _ =>
    obtain rfl := Host.Outcome.next.inj he
    exact onRunning fun c => .of_books (by simp [apply_ite State.chip, apply_ite State.books])

end KeepsCount

/-- Settles O8: every step keeps the load rule and under it the count rule, command by command. -/
theorem countRuleKept : Obligations.CountRuleKept := by
  intro s t hl he
  cases hp : s.pending with
  | nil =>
    rw [step_empty hp] at he
    obtain rfl := Host.Outcome.next.inj he
    obtain ⟨a, f, hw⟩ := elapse_eq s
    rw [hw]
    exact KeepsCount.congr ⟨rfl, rfl⟩ rfl rfl rfl hl
  | cons i rest =>
    rw [step_front hp] at he
    exact KeepsCount.exec (s := { s with pending := rest }) he hl

end Sys2Proof.Machine

namespace Sys2Proof.Machine
open Sys2Proof

/-! ## The three kinds of sample (R114) -/

theorem judgeSample_failed (crest : Nat) {ch : Channel} (tide : Tide) (hl : ch.level = none) :
    judgeSample crest ch tide = .unknown := by
  unfold judgeSample
  rw [hl]

theorem judgeSample_below {crest l : Nat} {ch : Channel} (tide : Tide) (hl : ch.level = some l) (h : l < crest) :
    judgeSample crest ch tide = .nonSpilling l false := by
  unfold judgeSample
  rw [hl]
  exact if_pos h

/-- At or above the crest the tide decides. -/
theorem judgeSample_above {crest l : Nat} {ch : Channel} (tide : Tide) (hl : ch.level = some l) (h : crest ≤ l) :
    judgeSample crest ch tide = if tide = .opened then .spilling l else .nonSpilling l true := by
  unfold judgeSample
  rw [hl]
  dsimp only
  rw [if_neg (Nat.not_lt.mpr h)]
  cases tide <;> rfl

/-- Settles O20: the channel's level against the crest, and there the tide. -/
theorem sampleKinds : Obligations.SampleKinds := fun crest _ tide =>
  ⟨fun _ hl h ht => (judgeSample_above tide hl h).trans (if_pos ht),
    fun _ hl h ht => (judgeSample_above tide hl h).trans (if_neg (by rw [ht]; decide)),
    fun _ hl h => judgeSample_below tide hl h, judgeSample_failed crest tide⟩

/-! ## A sample at the spill counter (R117 to R123, R126 to R128) -/

section
variable (s : State) (c : Image) (l : Nat) (suspect : Bool)

/-- The record of an episode that opens on onset o (R119, R128). -/
def State.recordFrom (s : State) (o : Onset) : SpillRecord :=
  { episode := s.sc.total + 1, start := o.start, stop := s.seconds, seconds := o.seconds, spells := 1, peak := o.peak
    depthTime := o.depthTime, period := s.sc.period, sensor := o.sensor, resetCut := false, tidePart := none
    stormPart := if s.srm.readiness = .storm then s.srm.trigger else none }

/-- R119: an opening takes the record from the onset and counts the episode. -/
theorem openEpisode_sc : (s.openEpisode c).sc = { s.sc with
    episode := .spilling, onsetCounter := 0, total := s.sc.total + 1
    periodCount := satAddHalf s.sc.periodCount 1
    periodSeconds := satAddWord s.sc.periodSeconds s.sc.onset.seconds.toNat
    record := some (s.recordFrom s.sc.onset) } := by
  unfold State.openEpisode
  rw [writeNotice_sc]
  rfl

/-- R118: a spilling sample that leaves the onset short of its count. -/
theorem onsetSample_short (h : s.sc.onsetCounter + 1 < c.onsetCount) : (s.onsetSample c l suspect).sc = { s.sc with
    episode := .onset, onsetCounter := s.sc.onsetCounter + 1, onset := s.sc.onset.add c l suspect } :=
  congrArg State.sc (if_neg (Nat.not_le.mpr h))

/-- R118, R119: the spilling sample that brings the onset to its count. -/
theorem onsetSample_opens (h : c.onsetCount ≤ s.sc.onsetCounter + 1) : (s.onsetSample c l suspect).sc = { s.sc with
    episode := .spilling, onsetCounter := 0, onset := s.sc.onset.add c l suspect, total := s.sc.total + 1
    periodCount := satAddHalf s.sc.periodCount 1
    periodSeconds := satAddWord s.sc.periodSeconds (s.sc.onset.add c l suspect).seconds.toNat
    record := some (s.recordFrom (s.sc.onset.add c l suspect)) } :=
  (congrArg State.sc (if_pos h)).trans (openEpisode_sc _ c)

/-- The onset after a spilling sample: it begins on one that finds the episode CLEAR (R117, R118). -/
def State.onsetAfter : Onset :=
  if s.sc.episode = .onset then
    { start := s.sc.onset.start, seconds := satAddWord s.sc.onset.seconds c.sampleInterval
      depthTime := satAddWord s.sc.onset.depthTime ((l - c.crest) * c.sampleInterval), peak := max s.sc.onset.peak l
      sensor := s.sc.onset.sensor || suspect }
  else
    { start := s.seconds, seconds := satAddWord 0 c.sampleInterval
      depthTime := satAddWord 0 ((l - c.crest) * c.sampleInterval), peak := l, sensor := suspect }

/-- R117, R118: before an episode is open a spilling sample joins the onset, from nothing in CLEAR. -/
theorem spillingSample_joins (he : s.sc.episode = .clear ∨ s.sc.episode = .onset) :
    ∃ k o, s.spillingSample c l suspect =
        (s.mapSc fun x => { x with onsetCounter := k, onset := o }).onsetSample c l suspect ∧
      k + 1 = (if s.sc.episode = .onset then s.sc.onsetCounter + 1 else 1) ∧
      o.add c l suspect = s.onsetAfter c l suspect := by
  unfold State.spillingSample State.onsetAfter
  rcases he with he | he <;> rw [he]
  · refine ⟨0, { Onset.blank with start := s.seconds }, rfl, rfl, ?_⟩
    simp [Onset.add, Onset.blank]
  · exact ⟨s.sc.onsetCounter, s.sc.onset, rfl, rfl, rfl⟩

/-- R120, R122, R123: in an open episode a spilling sample accrues to the record, ends a settling and, with one more spell,
a merge window. -/
theorem spillingSample_accrues
    (he : s.sc.episode = .spilling ∨ s.sc.episode = .settling ∨ s.sc.episode = .mergeWait) :
    (s.spillingSample c l suspect).sc = { s.sc with
      episode := .spilling
      settleCounter := if s.sc.episode = .settling then 0 else s.sc.settleCounter
      merge := if s.sc.episode = .mergeWait then none else s.sc.merge
      periodSeconds := satAddWord s.sc.periodSeconds c.sampleInterval
      record := s.sc.record.map fun r =>
        { r.accrue c s.seconds l suspect with
          spells := if s.sc.episode = .mergeWait then min (r.spells + 1) 255 else r.spells } } := by
  unfold State.spillingSample
  obtain he | he | he := he <;> rw [he]
  · rfl
  · rfl
  · unfold State.accrueSample State.mapRecord
    simp only [mapSc_sc, mapSc_seconds, Option.map_map]
    rfl

/-- R121: a non-spilling sample that leaves the settling short of its count. -/
theorem settleSample_short (h : s.sc.settleCounter + 1 < c.settleCount) : (s.settleSample c).sc =
    { s.sc with episode := .settling, settleCounter := s.sc.settleCounter + 1 } :=
  congrArg State.sc (if_neg (Nat.not_le.mpr h))

/-- The non-spilling sample that brings the settling to its count (R122). -/
theorem settleSample_reached (h : c.settleCount ≤ s.sc.settleCounter + 1) : s.settleSample c =
    (s.mapSc fun x => { x with episode := .settling, settleCounter := x.settleCounter + 1 }).enterMergeWait c := if_pos h

/-- R122: the merge window starts. -/
theorem enterMergeWait_waits (hw : 0 < c.mergeWindow) : (s.enterMergeWait c).sc =
    { s.sc with episode := .mergeWait, settleCounter := 0, merge := some (60000 * c.mergeWindow) } :=
  congrArg State.sc (if_neg (Nat.pos_iff_ne_zero.mp hw))

/-- R122, R124: a merge window of 0 closes the episode at once. -/
theorem enterMergeWait_closes (hw : c.mergeWindow = 0) :
    (s.enterMergeWait c).sc = { s.sc with episode := .clear, settleCounter := 0, record := none, merge := none } ∧
      ∀ r, s.sc.record = some r → MeetsLog c r s.rs (s.enterMergeWait c).rs := by
  let x := s.mapSc fun x => { x with episode := .mergeWait, settleCounter := 0, merge := some (minutesMs c.mergeWindow) }
  have hx : s.enterMergeWait c = x.closeEpisode c := if_pos hw
  rw [hx, closeEpisode_sc]
  exact ⟨rfl, fun r hr => closeEpisode_meetsLog (s := x) c hr⟩

/-- R121: a non-spilling sample rests the record of a spilling or settling episode, and counts toward the settling. -/
theorem nonSpillingSample_settles (shut : Bool) (he : s.sc.episode = .spilling ∨ s.sc.episode = .settling) :
    ∃ k, s.nonSpillingSample c l suspect shut =
        ((s.mapRecord fun r => r.rest c l suspect shut).mapSc fun x => { x with settleCounter := k }).settleSample c ∧
      k + 1 = if s.sc.episode = .settling then s.sc.settleCounter + 1 else 1 := by
  unfold State.nonSpillingSample
  rcases he with he | he <;> rw [he]
  · exact ⟨0, rfl, rfl⟩
  · exact ⟨s.sc.settleCounter, rfl, rfl⟩

end

section
variable {s : State} {c : Image} {ch : Channel} {l : Nat}

theorem spillSample_spilling (h : judgeSample c.crest ch s.ts.tide = .spilling l) :
    s.spillSample c ch = s.spillingSample c l ch.isSuspect := by
  unfold State.spillSample
  rw [h]

theorem spillSample_nonSpilling {shut : Bool} (h : judgeSample c.crest ch s.ts.tide = .nonSpilling l shut) :
    s.spillSample c ch = s.nonSpillingSample c l ch.isSuspect shut := by
  unfold State.spillSample
  rw [h]

theorem spillSample_unknown (h : judgeSample c.crest ch s.ts.tide = .unknown) : s.spillSample c ch = s.unknownSample := by
  unfold State.spillSample
  rw [h]

end

/-- Settles O21: each kind of sample in each episode state. -/
theorem samplesMoveTheEpisode : Obligations.SamplesMoveTheEpisode := by
  intro s c ch t suspect
  refine ⟨?_, ?_, ?_⟩
  · intro l hj depth counted onset
    have ht : t = s.spillingSample c l suspect := spillSample_spilling hj
    refine ⟨fun he hn => ?_, fun he hn => ?_, fun he => ?_⟩
    · obtain ⟨k, o, hx, hk, ho⟩ := spillingSample_joins s c l suspect he
      rw [ht, hx, onsetSample_short _ c l suspect (hk ▸ hn)]
      dsimp only [mapSc_sc]
      rw [hk, ho]
      rfl
    · obtain ⟨k, o, hx, hk, ho⟩ := spillingSample_joins s c l suspect he
      rw [ht, hx, onsetSample_opens _ c l suspect (hk ▸ hn)]
      dsimp only [mapSc_sc]
      rw [ho]
      rfl
    · rw [ht, spillingSample_accrues s c l suspect he]
      rfl
  · intro l shut hj counted rest
    have ht : t = s.nonSpillingSample c l suspect shut := spillSample_nonSpilling hj
    refine ⟨fun he => ?_, fun he => ?_, fun he hn => ?_, fun he hn hw => ?_, fun he hn hw => ?_, fun he => ?_⟩
    · unfold State.nonSpillingSample at ht
      rw [he] at ht
      exact ht
    · unfold State.nonSpillingSample at ht
      rw [he] at ht
      exact congrArg State.sc ht
    · obtain ⟨k, hx, hk⟩ := nonSpillingSample_settles s c l suspect shut he
      rw [ht, hx, settleSample_short _ c (hk ▸ hn)]
      dsimp only [mapSc_sc]
      rw [hk]
      rfl
    · obtain ⟨k, hx, hk⟩ := nonSpillingSample_settles s c l suspect shut he
      rw [ht, hx, settleSample_reached _ c (hk ▸ hn), enterMergeWait_waits _ c hw]
      rfl
    · obtain ⟨k, hx, hk⟩ := nonSpillingSample_settles s c l suspect shut he
      rw [ht, hx, settleSample_reached _ c (hk ▸ hn)]
      let rested := s.mapRecord fun r => r.rest c l suspect shut
      obtain ⟨hsc, hlog⟩ := enterMergeWait_closes ((rested.mapSc fun x => { x with settleCounter := k }).mapSc fun x =>
        { x with episode := .settling, settleCounter := x.settleCounter + 1 }) c hw
      exact ⟨hsc, fun r hr hroom => ((hlog (rest r) (congrArg (Option.map rest) hr)).room hroom).1⟩
    · unfold State.nonSpillingSample at ht
      rw [he] at ht
      exact congrArg State.sc ht
  · intro hj
    have ht : t = s.unknownSample := spillSample_unknown hj
    unfold State.unknownSample at ht
    refine ⟨fun he => ?_, fun he => ?_, fun he => ?_⟩
    · rw [he] at ht
      exact ht
    · rw [he] at ht
      exact congrArg State.sc ht
    · obtain he | he | he := he <;> rw [he] at ht <;> exact congrArg State.sc ht

end Sys2Proof.Machine

namespace Sys2Proof.Machine
open Sys2Proof

/-! ## MERGE_TIMER_EXPIRY (R124) -/

/-- A full log latches RECORD_LOST (R138). -/
theorem takeRecord_latched (s : State) (c : Image) (r : SpillRecord) (hf : 32 ≤ s.rs.log.length) :
    inSet (s.takeRecord c r).rs.latched .recordLost = true := by
  have hl : inSet (s.latch c .recordLost).rs.latched .recordLost = true := by
    rw [latch_latched]
    simp
  cases hm : c.logMode with
  | keep => rwa [takeRecord_keep s c r hf hm]
  | overwrite => rwa [takeRecord_overwrite s c r hf hm]

/-- Settles O22: the record of the closing meets the log, and the end of the command leaves what it has become. -/
theorem mergeTimerExpiry : Obligations.MergeTimerExpiry := by
  intro s c r hc hm hr
  let u := s.closeEpisode c
  have hlog : MeetsLog c r s.rs (settle c s u).rs := (closeEpisode_meetsLog c hr).congr ⟨rfl, rfl, rfl, rfl⟩ (by simp [u])
  have hsc : (settle c s u).sc = { s.sc with record := none, episode := .clear, merge := none } :=
    (settle_sc c s u).trans (closeEpisode_sc s c)
  refine ⟨settle c s u, onRunning_of hc hm _, by rw [hsc], by rw [hsc], by rw [hsc], by rw [hsc], hlog.room,
    fun hf => ⟨?_, hlog.keep hf, hlog.overwrite hf⟩, by simp [u]⟩
  rw [settle_latched, (closeEpisode_some s c r hr).2]
  exact Bool.or_eq_true_iff.mpr (.inl (takeRecord_latched _ c r hf))

/-! ## RESET_LINE_PULSE (R133, R194) -/

section
variable (s : State)

/-- R133: a pulse changes of the spill counter no count. -/
theorem cutAtPulse_counts : s.cutAtPulse.sc.total = s.sc.total ∧ s.cutAtPulse.sc.period = s.sc.period ∧
    s.cutAtPulse.sc.periodCount = s.sc.periodCount ∧ s.cutAtPulse.sc.periodSeconds = s.sc.periodSeconds := by
  unfold State.cutAtPulse State.cutEpisode
  split
  · split
    · exact ⟨rfl, rfl, rfl, rfl⟩
    · rw [closeEpisode_sc]
      exact ⟨rfl, rfl, rfl, rfl⟩
  · exact ⟨rfl, rfl, rfl, rfl⟩

variable {s}

theorem cutAtPulse_none (h : s.sc.record = none) : s.cutAtPulse = s := by
  unfold State.cutAtPulse State.cutEpisode
  rw [h]
  cases s.cl.image <;> rfl

/-- R133, R137, R138: the open record meets the log with RESET_CUT. -/
theorem cutAtPulse_meetsLog {c : Image} {r : SpillRecord} (hi : s.cl.image = some c) (hr : s.sc.record = some r) :
    MeetsLog c { r with resetCut := true } s.rs s.cutAtPulse.rs := by
  let cut := s.mapRecord fun r => { r with resetCut := true }
  have hcut : s.cutAtPulse = cut.closeEpisode c := by
    unfold State.cutAtPulse State.cutEpisode
    rw [hi]
    dsimp only
    rw [hr]
  have hrec : cut.sc.record = some { r with resetCut := true } := by
    show s.sc.record.map _ = _
    rw [hr]
    rfl
  rw [hcut]
  exact closeEpisode_meetsLog c hrec

end

/-- Settles O12: the pulse keeps of the blocks the log and the counts, as the cut has left them. -/
theorem resetLinePulse : Obligations.ResetLinePulse := by
  intro s hs
  obtain ⟨htotal, hperiod, hcount, hseconds⟩ := cutAtPulse_counts s
  have hchip : s.cutAtPulse.chip = s.chip := cutAtPulse_chip s
  have htime : s.cutAtPulse.seconds = s.seconds := congrArg (fun v => v.2.2.2.1) hchip
  have hpin : s.cutAtPulse.tidePin = s.tidePin := congrArg (fun v => v.2.2.1) hchip
  have hlog : ∀ c r, s.cl.image = some c → s.sc.record = some r →
      MeetsLog c { r with resetCut := true } s.rs s.pulseValues.rs := fun c r hi hr =>
    (cutAtPulse_meetsLog hi hr).congr ⟨rfl, rfl, rfl, rfl⟩ ⟨rfl, rfl, rfl, rfl⟩
  refine ⟨s.pulseValues, congrArg Host.Outcome.next (if_pos hs), rfl, rfl, rfl, rfl, rfl, rfl, rfl, rfl, rfl, htime, hpin,
    rfl, rfl, rfl, rfl, htotal, hperiod, hcount, hseconds, rfl, rfl, rfl, rfl, fun hn => ?_,
    fun c r hi hr => (hlog c r hi hr).room, fun c r hi hr => (hlog c r hi hr).keep,
    fun c r hi hr => (hlog c r hi hr).overwrite⟩
  unfold State.pulseValues
  rw [cutAtPulse_none hn]
  exact ⟨rfl, rfl, rfl, rfl⟩

/-! ## PERIOD (R131) -/

/-- A PERIOD is taken from a listener, and to all or to this station alone. -/
def takesPeriod (c : Image) (b : FrameBody) : Bool :=
  isListener b.sender.toNat && (decide (b.addressee.toNat = 0) || decide (b.addressee.toNat = c.station))

theorem takesPeriod_iff {c : Image} {b : FrameBody} : takesPeriod c b = true ↔
    isListener b.sender.toNat = true ∧ (b.addressee = 0 ∨ b.addressee.toNat = c.station) := by
  have h0 : b.addressee.toNat = 0 ↔ b.addressee = 0 := BitVec.toNat_inj (y := 0#6)
  simp [takesPeriod, h0]

theorem not_takesPeriod {c : Image} {b : FrameBody}
    (h : isTank b.sender.toNat = true ∨ (b.addressee ≠ 0 ∧ b.addressee.toNat ≠ c.station)) : takesPeriod c b = false := by
  refine Bool.eq_false_iff.mpr fun ht => ?_
  obtain ⟨hl, ha⟩ := takesPeriod_iff.mp ht
  rcases h with h | ⟨h0, hn⟩
  · obtain ⟨-, h48⟩ := isTank_iff.mp h
    obtain ⟨h49, -⟩ := isListener_iff.mp hl
    omega
  · exact ha.elim h0 hn

/-- Settles O54: what the frame's owner does is the new period, and the rest of the frame leaves the counts. -/
theorem periodFrame : Obligations.PeriodFrame := by
  refine ⟨fun s c b h h0 h63 => ?_, fun s b hd => exec_of_down hd rfl⟩
  let f := bodyFrame b 6 2
  let x := s.heardFrame c f
  let u := if takesPeriod c b then x.newPeriod else x
  let v := u.followUp c (s.arrival c f) f (s.concluded c f)
  have hexec : exec (.period b) s = .next (settle c s v) :=
    congrArg Host.Outcome.next (receive_hears h (fromStation_of_ne h0 h63) _)
  obtain ⟨-, htab⟩ := followUp_keeps (u := u) c (s.arrival c f) (s.concluded c f) (f := f) rfl
  have hspills : v.spills = u.spills := followUp_spills ..
  have hsc : (settle c s v).sc = u.sc := (settle_sc c s v).trans (congrArg Prod.fst hspills)
  have hx : x.spills = s.spills := heardFrame_spills s c f
  have hu : u.rs.log = x.rs.log ∧ u.tables = x.tables ∧ u.tank = x.tank ∧ u.weather = x.weather := by
    unfold u
    split <;> exact ⟨rfl, rfl, rfl, rfl⟩
  obtain ⟨hulog, hutab, hutank, huweather⟩ := hu
  refine ⟨_, hexec, fun hl ha => ?_, fun hno => ?_, ?_, ?_, ?_, ?_⟩
  · have htaken : u = x.newPeriod := if_pos (takesPeriod_iff.mpr ⟨hl, ha⟩)
    have hxsc : x.sc = s.sc := congrArg Prod.fst hx
    rw [hsc, htaken, ← hxsc]
    rfl
  · have hleft : u = x := if_neg (Bool.eq_false_iff.mp (not_takesPeriod hno))
    rw [hsc, hleft]
    exact congrArg Prod.fst hx
  · have hvlog : v.rs.log = u.rs.log := congrArg (fun w => w.2.1) hspills
    have hxlog : x.rs.log = s.rs.log := congrArg (fun w => w.2.1) hx
    rw [settle_log, hvlog, hulog, hxlog]
  · exact (settle_tables ..).trans (htab.trans (hutab.trans (heardFrame_tables s c f)))
  · exact (settle_tank ..).trans ((followUp_tank ..).trans (hutank.trans (heardFrame_tank s c f)))
  · exact (settle_weather ..).trans ((followUp_weather ..).trans (huweather.trans (heardFrame_weather s c f)))

end Sys2Proof.Machine

namespace Sys2Proof.Machine
open Sys2Proof

/-! ## RECACK (R140) -/

/-- The record named and every older one are dropped, whatever older records there are that bear another sequence. -/
theorem dropThrough_append {sequence : Half} {older newer : List LogRecord} {x : LogRecord} (hx : x.sequence = sequence)
    (ho : ∀ y ∈ older, y.sequence ≠ sequence) : dropThrough sequence (older ++ x :: newer) = newer := by
  induction older with
  | nil => exact if_pos hx
  | cons y older ih =>
    rw [List.forall_mem_cons] at ho
    exact (if_neg ho.1).trans (ih ho.2)

theorem findRecord_eq_none_iff {log : List LogRecord} {sequence : Half} :
    findRecord log sequence = none ↔ ∀ y ∈ log, y.sequence ≠ sequence := by
  simp [findRecord]

section
variable {s : State} (c : Image) {sequence : Half}

/-- The log does not hold the record. -/
theorem acknowledge_of_missing (h : ∀ y ∈ s.rs.log, y.sequence ≠ sequence) : s.acknowledge c sequence = s.latch c .badAck := by
  unfold State.acknowledge
  rw [findRecord_eq_none_iff.mpr h]

/-- The log holds the record. -/
theorem acknowledge_of_held {older newer : List LogRecord} {x : LogRecord} (hlog : s.rs.log = older ++ x :: newer)
    (hx : x.sequence = sequence) (ho : ∀ y ∈ older, y.sequence ≠ sequence) :
    s.acknowledge c sequence = s.mapRs fun r => { r with log := newer } := by
  have hmem : x ∈ s.rs.log := by rw [hlog]; exact List.mem_append_right _ List.mem_cons_self
  have hdrop : dropThrough sequence s.rs.log = newer := by rw [hlog, dropThrough_append hx ho]
  unfold State.acknowledge
  cases hf : findRecord s.rs.log sequence with
  | none => exact absurd hx (findRecord_eq_none_iff.mp hf x hmem)
  | some _ =>
    rw [← hdrop]
    rfl

/-- The spill counter, the activity and the log's counters are not in a RECACK's reach. -/
theorem acknowledge_frame (s : State) (sequence : Half) :
    (s.acknowledge c sequence).sc = s.sc ∧ (s.acknowledge c sequence).ac = s.ac ∧
      (s.acknowledge c sequence).rs.written = s.rs.written ∧ (s.acknowledge c sequence).rs.discarded = s.rs.discarded ∧
      (s.acknowledge c sequence).rs.overwritten = s.rs.overwritten := by
  unfold State.acknowledge State.latch
  dsimp only
  (repeat' split) <;> exact ⟨rfl, rfl, rfl, rfl, rfl⟩

end

/-- What latching BAD_ACK leaves at a command's end is what the owner left: no cause stands for it (R147, R151). -/
theorem settle_badAck (c : Image) (b s : State) : inSet (settle c b s).rs.latched .badAck = inSet s.rs.latched .badAck := by
  rw [settle_latched, standing_event s c .badAck (by decide) (by decide) (by decide), Bool.or_false]

/-- R139, R151: at a command's end LOG_HIGH is latched if the fill is at or above the watermark. -/
theorem settle_logHigh (c : Image) (b s : State) (h : c.watermark ≤ (settle c b s).rs.log.length) :
    inSet (settle c b s).rs.latched .logHigh = true := by
  rw [settle_log] at h
  rw [settle_latched, show s.standing c .logHigh = true from decide_eq_true h, Bool.or_true]

/-- Settles O53: the frame's owner is `acknowledge`, and the rest of the frame leaves the record service. -/
theorem recackFrame : Obligations.RecackFrame := by
  refine ⟨fun s c b h h0 h63 hlen => ?_, fun s b hd => exec_of_down hd rfl⟩
  let f := bodyFrame b 6 1
  let x := s.heardFrame c f
  let u := if f.atLeast 2 && f.fromListenerTo c.station then x.acknowledge c (halfAt f.payload 0) else x
  let v := u.followUp c (s.arrival c f) f (s.concluded c f)
  have hexec : exec (.recack b) s = .next (settle c s v) :=
    congrArg Host.Outcome.next (receive_hears h (fromStation_of_ne h0 h63) _)
  have hrs : v.rs = u.rs := followUp_rs u c _ _ rfl
  have hac : v.ac = u.ac := followUp_ac u c _ _ rfl
  obtain ⟨-, htab⟩ := followUp_keeps (u := u) c (s.arrival c f) (s.concluded c f) (f := f) rfl
  have hxrs : x.rs = s.rs := heardFrame_rs s c f
  have hframe : u.sc = x.sc ∧ u.ac = x.ac ∧ u.rs.written = x.rs.written ∧ u.rs.discarded = x.rs.discarded ∧
      u.rs.overwritten = x.rs.overwritten := by
    unfold u
    split
    · exact acknowledge_frame c x _
    · exact ⟨rfl, rfl, rfl, rfl, rfl⟩
  obtain ⟨husc, huac, hwritten, hdiscarded, hoverwritten⟩ := hframe
  have hviews : u.tank = s.tank ∧ u.tables = s.tables ∧ u.weather = s.weather := by
    unfold u
    split <;> simp [x]
  obtain ⟨htank, htables, hweather⟩ := hviews
  have htaken (hl : isListener b.sender.toNat = true) (ha : b.addressee.toNat = c.station) :
      u = x.acknowledge c (halfAt b.payload 0) :=
    if_pos (by rw [atLeast_of hlen, fromListenerTo_of hl ha]; rfl)
  refine ⟨_, hexec, ?_, ?_, ?_, settle_logHigh c s v, fun hl ha => ⟨fun older y newer hlog hy ho => ?_, fun hno => ?_⟩,
    fun hno => ?_, ?_, ?_, ?_, ?_, ?_⟩
  · rw [settle_written, hrs, hwritten, hxrs]
  · rw [settle_discarded, hrs, hdiscarded, hxrs]
  · rw [settle_overwritten, hrs, hoverwritten, hxrs]
  · rw [settle_log, settle_badAck, hrs, htaken hl ha, acknowledge_of_held c (by rw [hxrs]; exact hlog) hy ho, mapRs_rs, hxrs]
    exact ⟨rfl, rfl⟩
  · rw [settle_log, settle_badAck, hrs, htaken hl ha, acknowledge_of_missing c (by rw [hxrs]; exact hno), latch_latched,
      (latch_log x c .badAck).1, hxrs]
    exact ⟨rfl, by simp⟩
  · have hu : u = x := if_neg (by rw [not_fromListenerTo hno, Bool.and_false]; decide)
    rw [settle_log, settle_badAck, hrs, hu, hxrs]
    exact ⟨rfl, rfl⟩
  · have hvsc : v.sc = u.sc := congrArg Prod.fst (followUp_spills u c (s.arrival c f) f (s.concluded c f))
    have hxsc : x.sc = s.sc := congrArg Prod.fst (heardFrame_spills s c f)
    rw [settle_sc, hvsc, husc, hxsc]
  · exact (settle_tank ..).trans ((followUp_tank ..).trans htank)
  · exact (settle_tables ..).trans (htab.trans htables)
  · exact (settle_weather ..).trans ((followUp_weather ..).trans hweather)
  · rw [settle_activity, hac, huac, heardFrame_activity]

end Sys2Proof.Machine

namespace Sys2Proof.Machine
open Sys2Proof

/-! ## A service runs for a waiting request alone (R143), through the operations -/

/-- R143, in its first half: while no request waits, no service runs. -/
def RestsOnEmptyQueue (s : State) : Prop := s.rs.queue = [] → s.rs.serving = false

namespace RestsOnEmptyQueue

variable {s t : State}

/-- Only the queue and the mark of the service count. -/
theorem of_service (h : RestsOnEmptyQueue s) (hq : t.rs.queue = s.rs.queue) (hs : t.rs.serving = s.rs.serving) :
    RestsOnEmptyQueue t := by
  unfold RestsOnEmptyQueue
  rw [hq, hs]
  exact h

theorem of_rs (h : RestsOnEmptyQueue s) (hr : t.rs = s.rs) : RestsOnEmptyQueue t := h.of_service (by rw [hr]) (by rw [hr])

theorem of_stopped (h : s.rs.serving = false) : RestsOnEmptyQueue s := fun _ => h

theorem ite {p : Prop} [Decidable p] (h : p → RestsOnEmptyQueue s) (k : ¬ p → RestsOnEmptyQueue t) :
    RestsOnEmptyQueue (if p then s else t) := by
  split
  · next hp => exact h hp
  · next hp => exact k hp

/-- FALLBACK and RESTART end the service with the queue (R59, R61). -/
theorem enterFallback (s : State) (c : Image) : RestsOnEmptyQueue (s.enterFallback c) := by
  obtain ⟨l, r, he⟩ := enterFallback_eq s c
  rw [he]
  exact of_stopped rfl

theorem takeRestart (s : State) (c : Image) : RestsOnEmptyQueue (s.takeRestart c) := by
  obtain ⟨l, he, -⟩ := takeRestart_eq s c
  rw [he]
  exact of_stopped rfl

section
variable (h : RestsOnEmptyQueue s)
include h

/-! ### The updates of the blocks and of the slots -/

theorem mapCl (f : ClState → ClState) : RestsOnEmptyQueue (s.mapCl f) := h
theorem mapLc (f : LcState → LcState) : RestsOnEmptyQueue (s.mapLc f) := h
theorem mapMu (f : MuState → MuState) : RestsOnEmptyQueue (s.mapMu f) := h
theorem mapSa (f : SaState → SaState) : RestsOnEmptyQueue (s.mapSa f) := h
theorem mapTs (f : TsState → TsState) : RestsOnEmptyQueue (s.mapTs f) := h
theorem mapRu (f : RuState → RuState) : RestsOnEmptyQueue (s.mapRu f) := h
theorem mapSrm (f : SrmState → SrmState) : RestsOnEmptyQueue (s.mapSrm f) := h
theorem mapSc (f : ScState → ScState) : RestsOnEmptyQueue (s.mapSc f) := h
theorem mapAc (f : AcState → AcState) : RestsOnEmptyQueue (s.mapAc f) := h
theorem mapEntry (n : Nat) (f : RosterEntry → RosterEntry) : RestsOnEmptyQueue (s.mapEntry n f) := h
theorem writeSlot (id : SlotId) (x : Content) : RestsOnEmptyQueue (s.writeSlot id x) := h
theorem cancelSlot (id : SlotId) : RestsOnEmptyQueue (s.cancelSlot id) := h
theorem pruneSlot (id : SlotId) (l : List Nat) : RestsOnEmptyQueue (s.pruneSlot id l) := h

theorem mapRs {f : RsState → RsState} (hf : ∀ r, (f r).queue = r.queue ∧ (f r).serving = r.serving) :
    RestsOnEmptyQueue (s.mapRs f) := h.of_service (hf _).1 (hf _).2

/-! ### Flags, records and samples -/

theorem latch (c : Image) (f : Flag) : RestsOnEmptyQueue (s.latch c f) := ite (fun _ => h) fun _ => ite (fun _ => h) fun _ => h

theorem latchIfStanding (c : Image) (f : Flag) : RestsOnEmptyQueue (s.latchIfStanding c f) := ite (fun _ => h.latch c f) fun _ => h

theorem latchStanding (c : Image) : RestsOnEmptyQueue (s.latchStanding c) :=
  ((h.latchIfStanding c _).latchIfStanding c _).latchIfStanding c _

theorem writeNotice (c : Image) (id : SlotId) (x : Content) : RestsOnEmptyQueue (s.writeNotice c id x) :=
  ite (fun _ => h) fun _ => h

theorem writeRecord (c : Image) (r : SpillRecord) : RestsOnEmptyQueue (s.writeRecord c r) :=
  (h.mapRs fun _ => ⟨by rfl, by rfl⟩).writeNotice c _ _

theorem takeRecord (c : Image) (r : SpillRecord) : RestsOnEmptyQueue (s.takeRecord c r) := by
  have hl := h.latch c .recordLost
  refine ite (fun _ => h.writeRecord c r) fun _ => ?_
  split
  · exact (hl.mapRs fun _ => ⟨by rfl, by rfl⟩).writeNotice c _ _
  · exact (hl.mapRs fun _ => ⟨by rfl, by rfl⟩).writeRecord c r

theorem closeEpisode (c : Image) : RestsOnEmptyQueue (s.closeEpisode c) := by
  unfold State.closeEpisode
  dsimp only
  split
  · exact h.mapSc _
  · exact (h.mapSc _).takeRecord c _

theorem onsetSample (c : Image) (level : Nat) (suspect : Bool) : RestsOnEmptyQueue (s.onsetSample c level suspect) :=
  ite (fun _ => ((h.mapSc _).mapSc _).writeNotice c _ _) fun _ => h.mapSc _

theorem settleSample (c : Image) : RestsOnEmptyQueue (s.settleSample c) :=
  ite (fun _ => ite (fun _ => ((h.mapSc _).mapSc _).closeEpisode c) fun _ => (h.mapSc _).mapSc _) fun _ => h.mapSc _

theorem spillSample (c : Image) (chamber : Channel) : RestsOnEmptyQueue (s.spillSample c chamber) := by
  unfold State.spillSample
  split
  · unfold State.spillingSample
    split
    · exact (h.mapSc _).onsetSample c _ _
    · exact h.onsetSample c _ _
    · exact h
    · exact h
    · exact h
  · unfold State.nonSpillingSample
    dsimp only
    split
    · exact h
    · exact h
    · exact ((h.mapSc _).mapSc _).settleSample c
    · exact (h.mapSc _).settleSample c
    · exact h
  · unfold State.unknownSample
    split <;> exact h

theorem askClaim (c : Image) : RestsOnEmptyQueue (s.askClaim c) := (h.mapSa _).writeSlot _ _

theorem releaseAll (c : Image) : RestsOnEmptyQueue (s.releaseAll c) := ((h.mapSa _).mapSa _).writeSlot _ _

theorem stopDrain : RestsOnEmptyQueue s.stopDrain := h.mapTs _

theorem requestWithdraw (c : Image) : RestsOnEmptyQueue (s.requestWithdraw c) := by
  obtain ⟨l, w, he⟩ := requestWithdraw_eq s c
  rw [he]
  exact h

theorem withdrawIfOut (c : Image) : RestsOnEmptyQueue (s.withdrawIfOut c) := ite (fun _ => h.requestWithdraw c) fun _ => h

theorem setValve (c : Image) : RestsOnEmptyQueue (s.setValve c) := h.mapTs _

theorem drainSample (c : Image) : RestsOnEmptyQueue (s.drainSample c) := by
  have hr : RestsOnEmptyQueue (if (s.holdings c.station).isEmpty then s else s.releaseAll c) :=
    ite (fun _ => h) fun _ => h.releaseAll c
  refine ite (fun _ => (hr.withdrawIfOut c).stopDrain) fun _ => ?_
  split
  · exact ite (fun _ => (h.mapTs _).askClaim c) fun _ => h
  · exact ite (fun _ => (h.requestWithdraw c).stopDrain) fun _ => h
  · exact ite (fun _ => (h.mapTs _).withdrawIfOut c) fun _ => h
  · exact ite (fun _ => h.mapTs _) fun _ => h

theorem wakeTrigger (c : Image) : RestsOnEmptyQueue (s.wakeTrigger c) := by
  unfold State.wakeTrigger
  (repeat' split) <;> exact h

theorem makeSample (c : Image) (chamber tank : Channel) : RestsOnEmptyQueue (s.makeSample c chamber tank) := by
  have h1 : RestsOnEmptyQueue (State.keepValues (s.mapTs fun t => { t with window := none }) c chamber tank) :=
    ite (fun _ => h) fun _ => h
  have h2 := h1.spillSample c chamber
  have h3 := ite (p := wakingSample c chamber = true) (fun _ => h2.wakeTrigger c) fun _ => h2
  exact ite (fun _ => h) fun _ => drainSample (s := (State.recomputeUrgency _ c).inletSample c chamber) h3 c

/-! ### Rain, alerts and shares -/

theorem evaluateLocal (c : Image) : RestsOnEmptyQueue (s.evaluateLocal c) := ite (fun _ => h) fun _ => h

theorem alertEvent (c : Image) : RestsOnEmptyQueue (s.alertEvent c) := by
  unfold State.alertEvent State.readinessEvent
  dsimp only
  split
  · exact ite (fun _ => wakeTrigger (s := s.mapSrm _) h c) fun _ => h
  · exact ite (fun _ => h) fun _ => h
  · exact ite (fun _ => h) fun _ => h
  · exact h

theorem takeAlert (c : Image) (a : Arrival) (origin zone : Nat) (g : Grade) :
    RestsOnEmptyQueue (s.takeAlert c a origin zone g) := by
  have h1 : RestsOnEmptyQueue (if a.own then s.ownAlert c g else s) := ite (fun _ => h) fun _ => h
  have h2 := alertEvent (s := State.mapZone _ zone (applyAlert g origin)) h1 c
  exact ite (fun _ => ite (fun _ => h2.wakeTrigger c) fun _ => h2) fun _ => h1

theorem returnWhere (p : Nat → Share → Bool) : RestsOnEmptyQueue (s.returnWhere p) := by
  unfold State.returnWhere
  (repeat' split) <;> exact h

theorem settleOutgoing (a : Arrival) (set : List Nat) : RestsOnEmptyQueue (s.settleOutgoing a set) :=
  ite (fun _ => h) fun _ => h

theorem takeClaim (n urgency field : Nat) : RestsOnEmptyQueue (s.takeClaim n urgency field) := by
  unfold State.takeClaim State.claimShares
  dsimp only
  (repeat' split) <;> exact h

theorem takeCurtailFrame (c : Image) (q : Nat) : RestsOnEmptyQueue (s.takeCurtailFrame c q) := by
  unfold State.takeCurtailFrame State.curtailRelease State.takeCurtail
  dsimp only
  (repeat' split) <;> exact h

theorem lateWithdraw (c : Image) (a : Arrival) : RestsOnEmptyQueue (s.lateWithdraw c a) :=
  ite (fun _ => ite (fun _ => h) fun _ => h) fun _ => h

/-! ### Membership -/

theorem isolateFor (c : Image) (f : Flag) : RestsOnEmptyQueue (s.isolateFor c f) :=
  (latch (s := s.mapTs _) h c f).of_rs (enterIsolated_rs _ c)

theorem discardLoad : RestsOnEmptyQueue s.discardLoad :=
  (((((h.mapSa _).cancelSlot _).cancelSlot _).cancelSlot _).cancelSlot _).mapMu _

theorem enterListening (c : Image) (hold : Bool) : RestsOnEmptyQueue (s.enterListening c hold) := (h.mapMu _).cancelSlot _

theorem goodLoad (c : Image) : RestsOnEmptyQueue (s.goodLoad c) := (((h.mapCl _).enterListening c _).mapTs _).mapTs _

theorem failJoin (c : Image) : RestsOnEmptyQueue (s.failJoin c) := by
  have hd := (h.latch c .joinFailed).discardLoad.mapMu fun m => { m with failures := m.failures + 1 }
  exact ite (fun _ => hd.of_rs (enterIsolated_rs _ c)) fun _ => hd.enterListening c false

theorem found (c : Image) : RestsOnEmptyQueue (s.found c) := ((((h.mapSa _).mapMu _).mapRu _).mapMu _).writeSlot _ _

theorem judgeJoin (c : Image) : RestsOnEmptyQueue (s.judgeJoin c) := by
  have hq : RestsOnEmptyQueue (s.requeueJoin c) := (h.mapMu _).writeSlot _ _
  exact ite (fun _ => h.failJoin c) fun _ => ite (fun _ => hq) fun _ => ite (fun _ => h.found c) fun _ => hq

theorem endLock (c : Image) : RestsOnEmptyQueue (s.endLock c) := by
  unfold State.endLock
  dsimp only
  (repeat' split) <;> exact h

theorem spoil (c : Image) : RestsOnEmptyQueue (s.spoil c) := by
  unfold State.spoil
  split
  · exact h.endLock c
  · exact h.discardLoad.enterListening c false
  · exact h.discardLoad.enterListening c false
  · exact h

theorem hearBurst (c : Image) (segment : Nat) (f : Frame) : RestsOnEmptyQueue (s.hearBurst c segment f) :=
  ite (fun _ => h) fun _ => ite (fun _ => h.mapMu _) fun _ => ite (fun _ => h.mapMu _) fun _ => h

theorem takeSegment0 (c : Image) (f : Frame) : RestsOnEmptyQueue (s.takeSegment0 c f) := by
  have hload : RestsOnEmptyQueue (s.enterLoading f.payload) := (h.mapMu _).mapSa _
  exact ite (fun _ => h) fun _ => ite (fun _ => ite (fun _ => hload.mapEntry _ _) fun _ => hload) fun _ => h.isolateFor c _

theorem linkLoaded (c : Image) : RestsOnEmptyQueue (s.linkLoaded c) :=
  ((((h.mapMu _).mapEntry _ _).mapSa _).mapMu _).writeSlot _ _

theorem takeSegment (c : Image) (segment : Nat) (f : Frame) : RestsOnEmptyQueue (s.takeSegment c segment f) := by
  refine ite (fun _ => ?_) fun _ => h
  unfold State.loadSegment
  split
  · exact (h.mapSa _).mapMu _
  · exact ((h.mapSa _).mapSa _).mapMu _
  · exact (((h.mapSa _).mapSa _).mapRu _).linkLoaded c
  · exact h

theorem burstAtLinked (c : Image) (a : Arrival) (segment : Nat) (f : Frame) :
    RestsOnEmptyQueue (s.burstAtLinked c a segment f) := by
  unfold State.burstAtLinked
  split
  · exact h
  · have hfinal : ∀ l, RestsOnEmptyQueue (s.finalSegment c l) := fun l =>
      ite (fun _ => ((h.mapMu _).mapEntry _ _).cancelSlot _) fun _ => (h.mapMu _).mapEntry _ _
    exact ite (fun _ => h) fun _ => ite (fun _ => hfinal _) fun _ => ite (fun _ => h.writeSlot _ _) fun _ => h

theorem takeTable (c : Image) (a : Arrival) (segment : Nat) (f : Frame) : RestsOnEmptyQueue (s.takeTable c a segment f) := by
  unfold State.takeTable
  split
  · exact h.hearBurst c segment f
  · exact ite (fun _ => h.takeSegment0 c f) fun _ => h.hearBurst c segment f
  · exact ite (fun _ => h.takeSegment c segment f) fun _ => h
  · exact h.burstAtLinked c a segment f
  · exact h

theorem foldl {op : State → Nat → State} (ho : ∀ {u : State} (n : Nat), RestsOnEmptyQueue u → RestsOnEmptyQueue (op u n))
    (l : List Nat) : RestsOnEmptyQueue (l.foldl op s) := by
  induction l generalizing s with
  | nil => exact h
  | cons n l ih => exact ih (ho n h)

theorem takeAbsent (c : Image) (named : List Nat) : RestsOnEmptyQueue (s.takeAbsent c named) := by
  refine ite (fun _ => enterFallback _ c) fun _ => pruneSlot ?_ _ _
  exact foldl h (op := fun t n => t.declareAbsent c n) (fun _ hu => ((hu.mapEntry _ _).mapSa _).mapSa _) _

theorem takeReclaim (named : List Nat) : RestsOnEmptyQueue (s.takeReclaim named) :=
  (foldl (h.returnWhere _) (op := fun t n => t.clearEntry n) (fun _ hu => hu.mapEntry _ _) _).pruneSlot _ _

theorem startBurst (c : Image) (l : Lock) : RestsOnEmptyQueue (s.startBurst c l) :=
  ite (fun _ => (h.wakeTrigger c).writeSlot _ _) fun _ => h

theorem beginLock (c : Image) (n pool : Nat) : RestsOnEmptyQueue (s.beginLock c n pool) := by
  have hs : RestsOnEmptyQueue (s.joinShares n) := ite (fun _ => (h.mapSa _).returnWhere _) fun _ => h
  have hj : RestsOnEmptyQueue (s.markJoiner c n) := ((hs.pruneSlot _ _).pruneSlot _ _).mapEntry _ _
  exact (hj.mapMu _).startBurst c _

theorem takeJoin (c : Image) (a : Arrival) (n pool : Nat) : RestsOnEmptyQueue (s.takeJoin c a n pool) := by
  have hj : RestsOnEmptyQueue (if a.own then s.enterJoining c else s.hearJoin n) :=
    ite (fun _ => (h.mapMu _).mapMu _) fun _ => (h.mapMu _).mapMu _
  refine ite (fun _ => h.isolateFor c _) fun _ => ?_
  split
  · exact hj
  · exact hj
  · exact ite (fun _ => h) fun _ => h.beginLock c n pool
  · exact h

theorem takeStatus (n urgency : Nat) : RestsOnEmptyQueue (s.takeStatus n urgency) := ite (fun _ => h) fun _ => h

theorem reassert (a : Arrival) : RestsOnEmptyQueue (s.reassert a) := ite (fun _ => h) fun _ => h

theorem markDormant (c : Image) (n : Nat) : RestsOnEmptyQueue (s.markDormant c n) := ite (fun _ => h) fun _ => h

theorem enterWaking (c : Image) : RestsOnEmptyQueue (s.enterWaking c) :=
  (((((h.mapAc _).mapTs _).mapMu _).cancelSlot _).mapTs _).writeSlot _ _

theorem ownDormant (c : Image) (a : Arrival) : RestsOnEmptyQueue (s.ownDormant c a) := by
  have hr : RestsOnEmptyQueue (s.restDrain c) := ite (fun _ => h) fun _ => (h.withdrawIfOut c).stopDrain
  have hd : RestsOnEmptyQueue ((s.restDrain c).enterDormant c) := (((hr.mapAc _).mapTs _).mapMu _).mapTs _
  exact ite (fun _ => ite (fun _ => hd.enterWaking c) fun _ => hd) fun _ => h

/-! ### Listeners' frames and notices -/

/-- A request that has joined the queue leaves it not empty (R142). -/
theorem takeQuery (c : Image) (f : Frame) : RestsOnEmptyQueue (s.takeQuery c f) :=
  ite (fun _ => wakeTrigger (fun he => absurd he (by simp)) c) fun _ => h

theorem acknowledge (c : Image) (sequence : Half) : RestsOnEmptyQueue (s.acknowledge c sequence) := by
  unfold State.acknowledge
  split
  · exact h.latch c _
  · exact h

theorem takeClear (c : Image) (mask : FlagSet) : RestsOnEmptyQueue (s.takeClear c mask) := by
  have hl := latchStanding (s := s.clearFlags mask) h c
  exact ite (fun _ => h) fun _ => ite (fun _ => hl) fun _ => hl

theorem deliverNotice (f : Frame) : RestsOnEmptyQueue (s.deliverNotice f) := by
  obtain ⟨l, n, he⟩ := deliverNotice_eq s f
  rw [he]
  exact h

/-! ### The line and the accepted frames -/

theorem of_ends (k : EndsFrame s t) : RestsOnEmptyQueue t := by
  obtain ⟨l, w, m, rfl⟩ := k
  exact h

theorem failFlight : RestsOnEmptyQueue s.failFlight := h.of_ends (failFlight_ends s)

theorem lineFault (c : Image) : RestsOnEmptyQueue (s.lineFault c) := by
  have hl := h.latch c .sendFailed
  unfold State.lineFault
  dsimp only
  split
  case h_5 =>
    obtain ⟨l, he⟩ := emptySlots_eq (s.latch c .sendFailed) c allSlots
    obtain ⟨n, hn⟩ := rewriteNotices_eq ((s.latch c .sendFailed).emptyAll c) (s.latch c .sendFailed)
    rw [hn]
    unfold State.emptyAll
    rw [he]
    exact hl
  case h_6 => exact hl
  all_goals exact enterFallback _ c

theorem abortOwn (c : Image) : RestsOnEmptyQueue (s.abortOwn c) := by
  have h1 : RestsOnEmptyQueue (s.failFlight.mapLc fun l => { l with tally := l.tally + 1 }) := h.failFlight
  exact ite (fun _ => ite (fun _ => h1.lineFault c) fun _ => h1) fun _ => h.failFlight

theorem busyOwn : RestsOnEmptyQueue s.busyOwn := by
  unfold State.busyOwn
  dsimp only
  split <;> exact h.failFlight

theorem heardFrame (c : Image) (f : Frame) : RestsOnEmptyQueue (s.heardFrame c f) := h.of_rs (heardFrame_rs s c f)

theorem ownerDone (c : Image) (a : Arrival) (f : Frame) : RestsOnEmptyQueue (s.ownerDone c a f) := by
  have h1 : RestsOnEmptyQueue (s.restartPresence c a) := ite (fun _ => h) fun _ => h
  exact ite (fun _ => h1.spoil c) fun _ => h1

theorem afterFrame (b : State) (c : Image) : RestsOnEmptyQueue (s.afterFrame b c) := by
  obtain ⟨l, o, r, x, n, he⟩ := afterFrame_ownPart s b c
  rw [he]
  exact h

theorem acceptFrame (c : Image) (f : Frame) {o : Arrival → State → State}
    (ho : RestsOnEmptyQueue (o (s.arrival c f) (s.heardFrame c f))) : RestsOnEmptyQueue (acceptFrame c f o s) :=
  ite (fun _ => (ho.ownerDone c _ f).afterFrame _ c) fun _ => h.of_ends (concluded_ends s c f)

end

end RestsOnEmptyQueue


/-! ## The moves of the service (R143, R149) -/

section
variable {s : State} (c : Image)

theorem serviceMove_ends (hs : s.rs.serving = true) (he : s.slotsEmpty replySlots = true) :
    s.serviceMove c = s.mapRs fun r => { r with queue := r.queue.drop 1, serving := false } := by
  unfold State.serviceMove
  rw [if_pos hs, if_pos he]

theorem serviceMove_waits (hs : s.rs.serving = true) (he : s.slotsEmpty replySlots = false) : s.serviceMove c = s := by
  unfold State.serviceMove
  rw [if_pos hs, if_neg (by rw [he]; decide)]

theorem serviceMove_of_no_request (hs : s.rs.serving = false) (hq : s.rs.queue = []) : s.serviceMove c = s := by
  unfold State.serviceMove
  rw [if_neg (by rw [hs]; decide), hq]

theorem serviceMove_starts (hs : s.rs.serving = false) {q : Request} {rest : List Request} (hq : s.rs.queue = q :: rest) :
    s.serviceMove c =
      (s.writeReplies q.requester replySlots (s.buildReplies c q.kind)).mapRs fun r => { r with serving := true } := by
  unfold State.serviceMove
  rw [if_neg (by rw [hs]; decide), hq]

/-- Where the rule holds the service has run as far as it goes. -/
theorem serviceMove_of_serviceRule (h : ServiceRule s) : s.serviceMove c = s := by
  obtain ⟨hnone, hsome⟩ := h
  by_cases hq : s.rs.queue = []
  · exact serviceMove_of_no_request c (hnone hq) hq
  · exact serviceMove_waits c (hsome hq).1 (hsome hq).2

theorem serviceMoves_of_serviceRule (h : ServiceRule s) (n : Nat) : s.serviceMoves c n = s := by
  induction n with
  | zero => rfl
  | succ n ih =>
    unfold State.serviceMoves
    rw [serviceMove_of_serviceRule c h, ih]

end

/-- The moves that the service has still to make: for each request a start and an end (R143). -/
def State.serviceLeft (s : State) : Nat := 2 * s.rs.queue.length - s.rs.serving.toNat

theorem serviceRule_of_no_service_left {s : State} (h : RestsOnEmptyQueue s) (hn : s.serviceLeft = 0) : ServiceRule s := by
  have hq : s.rs.queue = [] := by
    have hb : s.rs.serving.toNat ≤ 1 := Bool.toNat_le _
    unfold State.serviceLeft at hn
    exact List.length_eq_zero_iff.mp (by omega)
  exact ⟨h, fun hne => absurd hq hne⟩

/-- As many moves as are left bring the rule about. -/
theorem serviceMoves_serviceRule (c : Image) {n : Nat} : ∀ {s : State}, RestsOnEmptyQueue s → s.serviceLeft ≤ n →
    ServiceRule (s.serviceMoves c n) := by
  induction n with
  | zero => exact fun h hn => serviceRule_of_no_service_left h (Nat.le_zero.mp hn)
  | succ n ih =>
    intro s h hn
    show ServiceRule ((s.serviceMove c).serviceMoves c n)
    unfold State.serviceLeft at hn
    cases hs : s.rs.serving with
    | false =>
      cases hq : s.rs.queue with
      | nil =>
        have hr : ServiceRule s := ⟨fun _ => hs, fun hne => absurd hq hne⟩
        rwa [serviceMove_of_serviceRule c hr, serviceMoves_of_serviceRule c hr]
      | cons q rest =>
        have hstart := serviceMove_starts c hs hq
        have hqueue : (s.serviceMove c).rs.queue = q :: rest := by rw [hstart, mapRs_rs, writeReplies_rs, hq]
        have hserving : (s.serviceMove c).rs.serving = true := by rw [hstart, mapRs_rs]
        refine ih (fun he => by rw [hqueue] at he; cases he) ?_
        unfold State.serviceLeft
        rw [hqueue, hserving]
        rw [hq, hs] at hn
        simp only [Bool.toNat_true, Bool.toNat_false] at hn ⊢
        omega
    | true =>
      cases he : s.slotsEmpty replySlots with
      | false =>
        have hq : s.rs.queue ≠ [] := fun hq => by rw [h hq] at hs; cases hs
        have hr : ServiceRule s := ⟨fun hn => absurd hn hq, fun _ => ⟨hs, he⟩⟩
        rwa [serviceMove_of_serviceRule c hr, serviceMoves_of_serviceRule c hr]
      | true =>
        rw [serviceMove_ends c hs he]
        refine ih (.of_stopped rfl) ?_
        unfold State.serviceLeft
        rw [mapRs_rs]
        rw [hs] at hn
        simp only [Bool.toNat_true, Bool.toNat_false, List.length_drop] at hn ⊢
        omega

theorem runService_serviceRule {s : State} (h : RestsOnEmptyQueue s) (c : Image) : ServiceRule (s.runService c) :=
  serviceMoves_serviceRule c h (by unfold State.serviceLeft; omega)

/-! ## The service rule through every step (R143, R149) -/

namespace ServiceRule

variable {s t u : State}

/-- The rule sees the record service and which reply slots are EMPTY. -/
theorem congr (h : ServiceRule s) (hrs : t.rs = s.rs) (he : ∀ id ∈ replySlots, t.slotEmpty id = s.slotEmpty id) :
    ServiceRule t := by
  have hall : t.slotsEmpty replySlots = s.slotsEmpty replySlots := by
    unfold State.slotsEmpty
    rw [Bool.eq_iff_iff, List.all_eq_true, List.all_eq_true]
    exact forall₂_congr fun id hid => by rw [he id hid]
  unfold ServiceRule
  rw [hrs, hall]
  exact h

theorem of_reset (hrs : t.rs.queue = [] ∧ t.rs.serving = false) : ServiceRule t :=
  ⟨fun _ => hrs.2, fun hne => absurd hrs.1 hne⟩

/-- What the blocks report before the service leaves the queue and the service. -/
theorem reported (h : RestsOnEmptyQueue u) (b : State) (c : Image) : ServiceRule (u.reported b c) := by
  have hdrain : RestsOnEmptyQueue ((u.recomputeUrgency c).drainStep b c) := (h.mapTs _).of_rs (drainStep_rs _ b c)
  have hcalm := ((hdrain.setValve c).latchStanding c).of_rs (controlCalm_rs _ c)
  exact runService_serviceRule ((hcalm.mapMu _).of_rs (writeJoinIfDue_rs _ c)) c

/-- The end of a command runs the service, and what follows it there writes no reply and empties none. -/
theorem settle (h : RestsOnEmptyQueue u) (c : Image) (b : State) : ServiceRule (settle c b u) := by
  refine (reported h b c).congr ?_ fun id hid => ?_
  · unfold Machine.settle
    rw [offer_rs, settleBlocks_eq, watchDormancy_rs, statusOnChange_rs]
  · have hne : id ≠ .status ∧ id ≠ .dormant := by constructor <;> (rintro rfl; revert hid; decide)
    obtain ⟨hstatus, hdormant⟩ := hne
    unfold Machine.settle
    rw [offer_slotEmpty, settleBlocks_eq, slotEmpty_congr (watchDormancy_slot c id _ hdormant),
      slotEmpty_congr (statusOnChange_slot id _ b hstatus)]

/-- Where no request waits the rule is its first half. -/
theorem rests (h : ServiceRule s) : RestsOnEmptyQueue s := h.1

theorem onRunning {g : Image → Bool} {body : Image → State} (h : ServiceRule s)
    (hb : ∀ c, RestsOnEmptyQueue s → RestsOnEmptyQueue (body c)) : ServiceRule (s.onRunning g body) := by
  cases hc : s.running with
  | none => rwa [onRunning_none hc]
  | some c =>
    rw [onRunning_some hc]
    split
    · exact settle (hb c h.rests) c s
    · exact h

theorem receive {f : Frame} {o : Image → Arrival → State → State} (h : ServiceRule s)
    (ho : ∀ c a x, RestsOnEmptyQueue x → RestsOnEmptyQueue (o c a x)) : ServiceRule (receive f o s) :=
  h.onRunning fun c hs => hs.acceptFrame c f (ho c _ _ (hs.heardFrame c f))

/-- A read attempt that ends in no good load leaves the record service (R188 to R193). -/
theorem readAttempt (h : ServiceRule s) (read : ReadAttempt) : ServiceRule (s.readAttempt read) := by
  unfold State.readAttempt State.failedAttempt
  dsimp only
  split
  · split <;> exact h
  · split
    · exact h
    · next c _ => exact settle (h.rests.goodLoad c) c s

/-- Every command of the table keeps the rule. -/
theorem exec {i : Instr} (h : ServiceRule s) (he : exec i s = .next t) : ServiceRule t := by
  cases i with
  | powerOn | supplyBelowThreshold =>
    obtain rfl := Host.Outcome.next.inj he
    exact of_reset ⟨rfl, rfl⟩
  | resetLinePulse =>
    obtain rfl := Host.Outcome.next.inj he
    split
    · exact of_reset ⟨rfl, rfl⟩
    · exact h
  | resetLineRelease | stationSecondsTick =>
    obtain rfl := Host.Outcome.next.inj he
    split <;> exact h
  | configReadAttempt read =>
    obtain rfl := Host.Outcome.next.inj he
    split
    · exact h.readAttempt read
    · exact h
  | configRetryWaitExpiry => obtain rfl := Host.Outcome.next.inj he; exact h
  | tideInputChange level =>
    obtain rfl := Host.Outcome.next.inj he
    exact onRunning (s := { s with tidePin := level }) h fun c hs => hs.mapTs _
  | sensorReply reply =>
    unfold Machine.exec execSensorReply at he
    dsimp only at he
    split at he <;> obtain rfl := Host.Outcome.next.inj he
    · exact h
    · exact h.onRunning fun c hs => hs.makeSample c _ _
  | replyWindowClose => obtain rfl := Host.Outcome.next.inj he; exact h.onRunning fun c hs => hs.makeSample c _ _
  | sampleTimerExpiry =>
    obtain rfl := Host.Outcome.next.inj he
    exact h.onRunning fun c hs => (RestsOnEmptyQueue.ite (fun _ => hs.makeSample c _ _) fun _ => hs).mapTs _
  | mergeTimerExpiry => obtain rfl := Host.Outcome.next.inj he; exact h.onRunning fun c hs => hs.closeEpisode c
  | minuteBoundary =>
    obtain rfl := Host.Outcome.next.inj he
    exact h.onRunning fun c hs => ((hs.mapRu _).evaluateLocal c).alertEvent c
  | rainPulse time =>
    obtain rfl := Host.Outcome.next.inj he
    exact h.onRunning fun c hs => (((hs.mapRu _).evaluateLocal c).alertEvent c).wakeTrigger c
  | lineIdle =>
    obtain rfl := Host.Outcome.next.inj he
    split
    · exact h
    · next c _ => exact settle (h.rests.mapLc _) c s.lineBusy
  | lostArbitration => obtain rfl := Host.Outcome.next.inj he; exact h.onRunning fun c hs => (hs.mapLc _).failFlight
  | frameBreakOff =>
    obtain rfl := Host.Outcome.next.inj he
    exact h.onRunning fun c hs => .ite (fun _ => (hs.mapLc _).abortOwn c) fun _ => hs.mapLc _
  | frameAbortedOrBusy rx => obtain rfl := Host.Outcome.next.inj he; exact h.onRunning fun c hs => (hs.mapLc _).failFlight
  | ownFrameAborted found => obtain rfl := Host.Outcome.next.inj he; exact h.onRunning fun c hs => (hs.mapLc _).abortOwn c
  | ownFrameBusy => obtain rfl := Host.Outcome.next.inj he; exact h.onRunning fun c hs => (hs.mapLc _).busyOwn
  | table segment b => obtain rfl := Host.Outcome.next.inj he; exact h.receive fun c a x hx => hx.takeTable c a _ _
  | absent b => obtain rfl := Host.Outcome.next.inj he; exact h.receive fun c a x hx => .ite (fun _ => hx.takeAbsent c _) fun _ => hx
  | reclaim b => obtain rfl := Host.Outcome.next.inj he; exact h.receive fun c a x hx => .ite (fun _ => hx.takeReclaim _) fun _ => hx
  | curtail b =>
    obtain rfl := Host.Outcome.next.inj he
    exact h.receive fun c a x hx => .ite (fun _ => hx.takeCurtailFrame c _) fun _ => hx
  | yield b | release b =>
    obtain rfl := Host.Outcome.next.inj he
    exact h.receive fun c a x hx => .ite
      (fun _ => .ite (fun _ => (hx.settleOutgoing a _).returnWhere _) fun _ => hx.settleOutgoing a _) fun _ => hx
  | withdraw b => obtain rfl := Host.Outcome.next.inj he; exact h.receive fun c a x hx => .ite (fun _ => hx.mapSa _) fun _ => hx
  | claim sub b =>
    obtain rfl := Host.Outcome.next.inj he
    exact h.receive fun c a x hx => (RestsOnEmptyQueue.ite (fun _ => hx.takeClaim _ _ _) fun _ => hx).lateWithdraw c a
  | alert sub b =>
    obtain rfl := Host.Outcome.next.inj he
    exact h.receive fun c a x hx => .ite (fun _ => hx.takeAlert c a _ _ _) fun _ => hx
  | join b => obtain rfl := Host.Outcome.next.inj he; exact h.receive fun c a x hx => .ite (fun _ => hx.takeJoin c a _ _) fun _ => hx
  | status b =>
    obtain rfl := Host.Outcome.next.inj he
    exact h.receive fun c a x hx => .ite (fun _ => (hx.takeStatus _ _).reassert a) fun _ => hx
  | dormant b => obtain rfl := Host.Outcome.next.inj he; exact h.receive fun c a x hx => (hx.markDormant c _).ownDormant c a
  | query b =>
    obtain rfl := Host.Outcome.next.inj he
    exact h.onRunning fun c hs => .ite (fun _ => (hs.mapLc _).failFlight)
      fun _ => hs.acceptFrame c _ ((hs.heardFrame c _).takeQuery c _)
  | recack b => obtain rfl := Host.Outcome.next.inj he; exact h.receive fun c a x hx => .ite (fun _ => hx.acknowledge c _) fun _ => hx
  | period b => obtain rfl := Host.Outcome.next.inj he; exact h.receive fun c a x hx => .ite (fun _ => hx.mapSc _) fun _ => hx
  | clear b => obtain rfl := Host.Outcome.next.inj he; exact h.receive fun c a x hx => .ite (fun _ => hx.takeClear c _) fun _ => hx
  | restart b => obtain rfl := Host.Outcome.next.inj he; exact h.receive fun c a x hx => .ite (fun _ => .takeRestart x c) fun _ => hx
  | record b | norec b | counts b | conditions b | unlistedSubKindFrame cls sub b =>
    obtain rfl := Host.Outcome.next.inj he
    exact h.receive fun c a x hx => hx
  | notice b => obtain rfl := Host.Outcome.next.inj he; exact h.receive fun c a x hx => .ite (fun _ => hx.deliverNotice _) fun _ => hx
  | joinWaitExpiry =>
    obtain rfl := Host.Outcome.next.inj he
    exact h.onRunning fun c hs => .ite (fun _ => (hs.mapMu _).judgeJoin c) fun _ => hs.mapMu _
  | loadTimerExpiry =>
    obtain rfl := Host.Outcome.next.inj he
    exact h.onRunning fun c hs => .ite (fun _ => (hs.mapMu _).failJoin c) fun _ => hs.mapMu _
  | lockTimerExpiry => obtain rfl := Host.Outcome.next.inj he; exact h.onRunning fun c hs => hs.endLock c
  | silenceTimerExpiry => obtain rfl := Host.Outcome.next.inj he; exact h.onRunning fun c hs => .enterFallback s c
  | quietTimerExpiry => obtain rfl := Host.Outcome.next.inj he; exact h.onRunning fun c hs => (hs.mapMu _).enterListening c false
  | alertAgeExpiry zone =>
    obtain rfl := Host.Outcome.next.inj he
    exact h.onRunning fun c hs => .ite (fun _ => (hs.mapRu _).alertEvent c) fun _ => hs.mapRu _
  | parkTimerExpiry => obtain rfl := Host.Outcome.next.inj he; exact h.onRunning fun c hs => (hs.mapTs _).releaseAll c
  | _ => obtain rfl := Host.Outcome.next.inj he; exact h.onRunning fun c hs => hs

/-- A command, or the passing of a ms, which serves nothing. -/
theorem step (h : ServiceRule s) (he : step s = .next t) : ServiceRule t := by
  cases hp : s.pending with
  | nil =>
    rw [step_empty hp] at he
    obtain rfl := Host.Outcome.next.inj he
    obtain ⟨a, f, hw⟩ := elapse_eq s
    rw [hw]
    exact h
  | cons i rest =>
    rw [step_front hp] at he
    exact exec (s := { s with pending := rest }) h he

end ServiceRule

end Sys2Proof.Machine

namespace Sys2Proof.Machine
open Sys2Proof

/-! ## What the start of service writes (R143 to R147) -/

/-- A reply slot that was EMPTY, once the service has written what it has for it. -/
def replySlotOf (requester : Nat) : Option Reply → Slot
  | some r => { state := .pending (.reply requester r), backoff := none, busy := 0 }
  | none => Slot.blank

/-- Of slots that are EMPTY the first bear the replies, in order, and the others stay EMPTY. -/
theorem writeReplies_slot_of_blank (n : Nat) {ids : List SlotId} (hn : ids.Nodup) : ∀ {s : State} {rs : List Reply},
    (∀ id ∈ ids, s.slot id = Slot.blank) → ∀ {k : Nat} {id : SlotId}, ids[k]? = some id →
      (s.writeReplies n ids rs).slot id = replySlotOf n rs[k]? := by
  induction ids with
  | nil => intro s rs _ k id hid; simp at hid
  | cons i ids ih =>
    obtain ⟨hi, hids⟩ := List.nodup_cons.mp hn
    intro s rs hb k id hid
    obtain ⟨hbi, hbids⟩ := List.forall_mem_cons.mp hb
    cases rs with
    | nil => exact hb id (List.mem_of_getElem? hid)
    | cons r rs =>
      have hne : ∀ j ∈ ids, i ≠ j := fun j hj => (ne_of_mem_of_not_mem hj hi).symm
      cases k with
      | zero =>
        obtain rfl : i = id := by simpa using hid
        refine (writeReplies_slot i (s.writeSlot i (.reply n r)) n ids rs hi).trans ?_
        rw [writeSlot_slot_same, hbi]
        rfl
      | succ k =>
        exact ih hids (fun j hj => (writeSlot_slot_other s (hne j hj) _).trans (hbids j hj)) (by simpa using hid)

section
variable {s : State} (c : Image) {q : Request} {rest : List Request}

/-- The start of service, slot by slot. -/
theorem serviceMove_slot (hs : s.rs.serving = false) (hq : s.rs.queue = q :: rest)
    (hb : ∀ id ∈ replySlots, s.slot id = Slot.blank) {k : Nat} {id : SlotId} (hid : replySlots[k]? = some id) :
    (s.serviceMove c).slot id = replySlotOf q.requester (s.buildReplies c q.kind)[k]? := by
  rw [serviceMove_starts c hs hq]
  exact writeReplies_slot_of_blank q.requester (by decide) hb hid

end

/-- The sequences of a group, from the named one upward and then from the group's lowest (R144). -/
theorem groupOrder_eq (n : Half) :
    groupOrder n = (List.range 4).map fun j => BitVec.ofNat 16 (4 * (n.toNat / 4) + (n.toNat + j) % 4) := by
  have hturn : ∀ low, low < 4 → (List.range 4).drop low ++ List.range low = (List.range 4).map fun j => (low + j) % 4 := by
    decide
  have hgroup : n.toNat - n.toNat % 4 = 4 * (n.toNat / 4) := by omega
  unfold groupOrder
  dsimp only
  rw [hturn _ (Nat.mod_lt _ (by decide)), List.map_map, hgroup]
  simp

/-- The flag mask of the standing causes names each flag whose cause stands (R147). -/
theorem inSet_standingMask (s : State) (c : Image) (f : Flag) : inSet (s.standingMask c) f = s.standing c f := by
  have hpart : ∀ g, inSet (if s.standing c g then g.mask else 0) f = (s.standing c g && decide (g = f)) := by
    intro g
    split
    · next hg => rw [inSet_mask, hg, Bool.true_and]
    · next hg => rw [inSet_zero, Bool.eq_false_iff.mpr hg, Bool.false_and]
  unfold State.standingMask
  rw [inSet_or, inSet_or, hpart, hpart, hpart]
  cases f <;> simp [State.standing]

/-- A NOREC names the oldest and the newest sequence of a log that is not empty (R145). -/
theorem norecReply_eq (log : List LogRecord) (n : Half) : ∃ range, norecReply log n = .norec n range ∧
    (log = [] → range = none) ∧ ∀ oldest newest, log.head? = some oldest → log.getLast? = some newest →
      range = some (oldest.sequence, newest.sequence) := by
  unfold norecReply
  split
  · next oldest newest ho hn =>
    refine ⟨_, rfl, fun he => absurd ho (by rw [he]; nofun), fun o w h1 h2 => ?_⟩
    rw [Option.some.inj (ho.symm.trans h1), Option.some.inj (hn.symm.trans h2)]
  · next hnone => exact ⟨none, rfl, fun _ => rfl, fun o w h1 h2 => absurd h2 (hnone o w h1)⟩

/-- The replies of a group: each record found, with its place and their number (R144). -/
theorem recordReplies_getElem? (log : List LogRecord) (n : Half) (k : Nat) :
    (recordReplies log n)[k]? = ((groupOrder n).filterMap (findRecord log))[k]?.map fun y =>
      .record k ((groupOrder n).filterMap (findRecord log)).length y := by
  unfold recordReplies
  rw [List.getElem?_mapIdx]

section
variable {s : State} (c : Image)

theorem buildReplies_of_missing {n : Half} (h : ∀ x ∈ s.rs.log, x.sequence ≠ n) :
    s.buildReplies c (.records n) = [norecReply s.rs.log n] := by
  unfold State.buildReplies
  dsimp only
  rw [findRecord_eq_none_iff.mpr h]

theorem buildReplies_of_held {n : Half} (h : ∃ x ∈ s.rs.log, x.sequence = n) :
    s.buildReplies c (.records n) = recordReplies s.rs.log n := by
  obtain ⟨x, hx, hn⟩ := h
  unfold State.buildReplies
  dsimp only
  cases hf : findRecord s.rs.log n with
  | none => exact absurd hn (findRecord_eq_none_iff.mp hf x hx)
  | some _ => rfl

/-- COUNTS, CONDITIONS and NOREC are one reply each (R145 to R147). -/
theorem buildReplies_length_one {kind : QueryKind}
    (h : kind = .counts ∨ kind = .conditions ∨ ∃ n, kind = .records n ∧ ∀ x ∈ s.rs.log, x.sequence ≠ n) :
    (s.buildReplies c kind).length = 1 := by
  rcases h with rfl | rfl | ⟨n, rfl, hn⟩
  · rfl
  · rfl
  · rw [buildReplies_of_missing c hn]
    rfl

end

/-- Settles O52: the rule follows the service through every step, and the start of service writes each reply slot. -/
theorem requestService : Obligations.RequestService := by
  refine ⟨fun s t h he => h.step he, fun s c q rest hq => ⟨fun hs hb => ?_, fun hs he => ?_, serviceMove_waits c⟩⟩
  · have hslot {k : Nat} {id : SlotId} := serviceMove_slot c hs hq hb (k := k) (id := id)
    have h0 : (s.serviceMove c).slot .reply0 = replySlotOf q.requester (s.buildReplies c q.kind)[0]? := hslot rfl
    have hempty {k : Nat} {id : SlotId} (hid : replySlots[k]? = some id) (hk : (s.buildReplies c q.kind).length ≤ k) :
        (s.serviceMove c).slotEmpty id = true := by
      unfold State.slotEmpty
      rw [hslot hid, List.getElem?_eq_none hk]
      rfl
    refine ⟨?_, ?_, fun hk => ?_, fun hk => ⟨s.standingMask c, ?_, inSet_standingMask s c⟩, fun hk id hid => ?_,
      fun n hk hno => ?_, fun n hk hheld => ?_, fun hk id hid => ?_⟩
    · rw [serviceMove_starts c hs hq, mapRs_rs]
    · rw [serviceMove_starts c hs hq, mapRs_rs, writeReplies_rs]
    · rw [h0, hk]
      rfl
    · rw [h0, hk]
      rfl
    · obtain ⟨k, hid⟩ := List.getElem?_of_mem hid
      exact hempty hid (by rw [hk]; exact Nat.zero_le k)
    · obtain ⟨range, hr, hrange⟩ := norecReply_eq s.rs.log n
      refine ⟨range, ?_, hrange⟩
      rw [h0, hk, buildReplies_of_missing c hno, hr]
      rfl
    · intro group found k id hid
      have hfound : found = (groupOrder n).filterMap (findRecord s.rs.log) := by rw [groupOrder_eq]; rfl
      have hreplies : (s.buildReplies c q.kind)[k]? = found[k]?.map fun y => .record k found.length y := by
        rw [hk, buildReplies_of_held c hheld, recordReplies_getElem?, hfound]
      refine ⟨fun y hy => ?_, fun hlen => ?_⟩
      · rw [hslot hid, hreplies, hy]
        rfl
      · unfold State.slotEmpty
        rw [hslot hid, hreplies, List.getElem?_eq_none hlen]
        rfl
    · have hone := buildReplies_length_one c hk
      simp only [List.mem_cons, List.not_mem_nil, or_false] at hid
      rcases hid with rfl | rfl | rfl
      · exact hempty (k := 1) rfl (by omega)
      · exact hempty (k := 2) rfl (by omega)
      · exact hempty (k := 3) rfl (by omega)
  · rw [serviceMove_ends c hs he, mapRs_rs]
    exact ⟨rfl, by rw [hq]; rfl⟩

end Sys2Proof.Machine


namespace Sys2Proof.Machine
open Sys2Proof

/-! ## The marks of the last end field stand to the command's end -/

section
variable (s : State) (c : Image)

theorem reportEmptied_lc (id : SlotId) : (s.reportEmptied id).lc = s.lc := by
  unfold State.reportEmptied
  split <;> rfl

theorem failFlight_marks : s.failFlight.lc.marks = s.lc.marks := by
  unfold State.failFlight
  dsimp only
  repeat' split
  · rfl
  · rw [reportEmptied_lc]
    rfl
  · rfl

theorem concluded_marks (f : Frame) : (s.concluded c f).lc.marks = .clear := by
  unfold State.concluded State.bookkeep
  dsimp only
  repeat' split
  · rfl
  · rfl
  · rfl
  · rw [failFlight_marks]
    rfl

theorem hear_marks (a : Arrival) (f : Frame) : (s.hear c a f).lc.marks = s.lc.marks := by
  unfold State.hear State.hearEntry State.hearPopulated State.hearSilence
  dsimp only
  (repeat' split) <;> rfl

/-- An accepted frame draws no mark (R172, R174). -/
theorem heardFrame_marks (f : Frame) : (s.heardFrame c f).lc.marks = .clear :=
  (hear_marks ..).trans (concluded_marks s c f)

theorem wakeTrigger_marks : (s.wakeTrigger c).lc.marks = s.lc.marks := by
  unfold State.wakeTrigger
  (repeat' split) <;> rfl

theorem yieldIfNamed_marks : (s.yieldIfNamed c).lc.marks = s.lc.marks := by
  unfold State.yieldIfNamed
  (repeat' split) <;> rfl

theorem parkingRelease_marks : (s.parkingRelease c).lc.marks = s.lc.marks := rfl

theorem yieldAndPark_marks (b : State) : (s.yieldAndPark b c).lc.marks = s.lc.marks := by
  unfold State.yieldAndPark
  split
  · rfl
  · exact yieldIfNamed_marks s c
  · exact parkingRelease_marks s c
  · split
    · exact (parkingRelease_marks _ c).trans (yieldIfNamed_marks s.drawFree c)
    · exact (yieldIfNamed_marks _ c).trans (parkingRelease_marks s.drawFree c)

theorem afterFrame_marks (b : State) : (s.afterFrame b c).lc.marks = s.lc.marks := by
  have harrivals : (s.releaseArrivals c).lc.marks = s.lc.marks := by
    unfold State.releaseArrivals
    (repeat' split) <;> rfl
  have hcomplete : ∀ x : State, (x.completeRelease c).lc.marks = x.lc.marks := by
    intro x
    unfold State.completeRelease
    split <;> rfl
  unfold State.afterFrame
  split
  · rw [hcomplete, yieldAndPark_marks, rejoinOutgoing_eq]
    exact harrivals
  · rfl

/-- What follows the owner of a frame that is no allocation frame drives no mark. -/
theorem followUp_marks (a : Arrival) {f : Frame} (hf : f.isAllocation = false) (b : State) :
    (s.followUp c a f b).lc.marks = s.lc.marks := by
  have h : s.ownerDone c a f = s.restartPresence c a := if_neg (by rw [hf]; decide)
  unfold State.followUp
  rw [afterFrame_marks, h, restartPresence_lc]

/-! ### A line fault -/

theorem latch_marks (f : Flag) : (s.latch c f).lc.marks = s.lc.marks := by
  show (lcRest (s.latch c f)).marks = _
  rw [lcRest_latch]
  rfl

theorem emptyAll_marks : (s.emptyAll c).lc.marks = s.lc.marks := by
  have hslots : ∀ (ids : List SlotId) (x : State), (x.emptySlots c ids).lc.marks = x.lc.marks := by
    intro ids
    unfold State.emptySlots
    induction ids with
    | nil => exact fun _ => rfl
    | cons id ids ih => exact fun x => (ih (x.emptySlot c id)).trans rfl
  exact hslots allSlots s

theorem rewriteNotices_marks (old : State) : (s.rewriteNotices old).lc.marks = s.lc.marks := by
  unfold State.rewriteNotices
  generalize noticeSlots = ids
  induction ids generalizing s with
  | nil => rfl
  | cons id ids ih =>
    rw [List.foldl_cons, ih]
    split <;> rfl

theorem enterFallback_marks : (s.enterFallback c).lc.marks = s.lc.marks := by
  have halert : ∀ x : State, (x.rewriteAlert c).lc.marks = x.lc.marks := by
    intro x
    unfold State.rewriteAlert
    split <;> rfl
  unfold State.enterFallback
  dsimp only
  rw [rewriteNotices_marks, halert]
  show ((s.latch c .lineLost).leaveTables.emptyAll c).lc.marks = _
  rw [emptyAll_marks]
  exact latch_marks s c .lineLost

theorem lineFault_marks : (s.lineFault c).lc.marks = s.lc.marks := by
  have hl := latch_marks s c .sendFailed
  unfold State.lineFault
  dsimp only
  split
  case h_5 => rw [rewriteNotices_marks, emptyAll_marks, hl]
  case h_6 => exact hl
  all_goals exact (enterFallback_marks _ c).trans hl

/-- An aborted own frame leaves the marks that its end field has seen. -/
theorem abortOwn_marks : (s.abortOwn c).lc.marks = s.lc.marks := by
  have hf := failFlight_marks s
  unfold State.abortOwn
  dsimp only
  repeat' split
  · exact (lineFault_marks _ c).trans hf
  · exact hf
  · exact hf

end

theorem settle_idle_false {c : Image} {b s : State} (h : s.lc.idle = false) : (settle c b s).lc.idle = false := by
  rw [settle_of_busy c b s h, settleBlocks_idle, h]

/-! ## The marks a station drives (R141, R172) -/

theorem receptionUnsound_iff {r : Reception} : receptionUnsound r = true ↔
    r.bitFault = true ∨ 64 < r.length.toNat ∨ r.tail.length ≠ 8 * r.length.toNat + 16 ∨
      bitsOf 16 (crc (receivedBits r)).toNat ≠ r.tail.drop (8 * r.length.toNat) := by
  simp [receptionUnsound, or_assoc]

section
variable {s : State} {c : Image} (hc : s.running = some c)
include hc

/-- A running station takes queries in every membership state but FALLBACK (R141). -/
theorem takesQueries_iff : s.mu.membership.takesQueries = true ↔ s.mu.membership ≠ .fallback := by
  have hd := running_not_down hc
  cases hm : s.mu.membership with
  | down => exact absurd hm hd
  | _ => decide

theorem drivesBusy_iff {sender addressee : Nat} : s.drivesBusy c sender addressee = true ↔
    addressee = c.station ∧ isListener sender = true ∧ s.mu.membership ≠ .fallback ∧ 4 ≤ s.rs.queue.length := by
  unfold State.drivesBusy
  rw [Bool.and_eq_true, Bool.and_eq_true, Bool.and_eq_true, decide_eq_true_eq, decide_eq_true_eq, takesQueries_iff hc,
    and_assoc, and_assoc]
  rfl

theorem marksFor_busy_iff {r : Reception} : (s.marksFor c r).busy = true ↔ r.followed = true ∧ r.cls = 6 ∧ r.sub = 0 ∧
    r.addressee.toNat = c.station ∧ (49 ≤ r.sender.toNat ∧ r.sender.toNat ≤ 62) ∧ s.mu.membership ≠ .fallback ∧
      4 ≤ s.rs.queue.length := by
  have hcls : r.cls.toNat = 6 ↔ r.cls = 6 := BitVec.toNat_inj (y := 6#3)
  have hsub : r.sub.toNat = 0 ↔ r.sub = 0 := BitVec.toNat_inj (y := 0#3)
  unfold State.marksFor
  rw [Bool.and_eq_true, Bool.and_eq_true, Bool.and_eq_true, decide_eq_true_eq, decide_eq_true_eq, drivesBusy_iff hc, hcls,
    hsub, isListener_iff, and_assoc, and_assoc]

end

theorem marksFor_abort_iff {s : State} {c : Image} {r : Reception} : (s.marksFor c r).abort = true ↔ r.followed = true ∧
    (r.bitFault = true ∨ 64 < r.length.toNat ∨ r.tail.length ≠ 8 * r.length.toNat + 16 ∨
      bitsOf 16 (crc (receivedBits r)).toNat ≠ r.tail.drop (8 * r.length.toNat)) := by
  rw [← receptionUnsound_iff]
  exact Bool.and_eq_true_iff

/-! ## A frame received as it was sent (R170, R172) -/

theorem length_bitsOf (w n : Nat) : (bitsOf w n).length = w := by
  induction w with
  | zero => rfl
  | succ w ih => exact congrArg Nat.succ ih

theorem length_bitsOfBytes (l : List Byte) : (bitsOfBytes l).length = 8 * l.length := by
  induction l with
  | nil => rfl
  | cons b l ih =>
    show (bitsOf 8 b.toNat ++ bitsOfBytes l).length = _
    rw [List.length_append, length_bitsOf, ih, List.length_cons]
    omega

/-- The frame that a receiver takes from the line, field by field, is the one the sender checked. -/
theorem receivedBits_received {f : Frame} (hcls : f.cls < 8) (hsub : f.sub < 8) (hsender : f.sender < 64)
    (haddressee : f.addressee < 64) (hlen : f.payload.length ≤ 64) : receivedBits f.received = f.checkedBits := by
  have hfield : ∀ w n : Nat, n < 2 ^ w → (BitVec.ofNat w n).toNat = n := fun w n h => by
    rw [BitVec.toNat_ofNat, Nat.mod_eq_of_lt h]
  unfold receivedBits Frame.received Frame.checkedBits
  dsimp only
  rw [hfield 3 _ hcls, hfield 3 _ hsub, hfield 6 _ hsender, hfield 6 _ haddressee, hfield 7 _ (by omega),
    ← length_bitsOfBytes, List.take_left']
  rfl

theorem receptionUnsound_received {f : Frame} (hcls : f.cls < 8) (hsub : f.sub < 8) (hsender : f.sender < 64)
    (haddressee : f.addressee < 64) (hlen : f.payload.length ≤ 64) : receptionUnsound f.received = false := by
  have hlength : f.received.length.toNat = f.payload.length := by
    show (BitVec.ofNat 7 f.payload.length).toNat = _
    rw [BitVec.toNat_ofNat, Nat.mod_eq_of_lt (by omega)]
  have htail : f.received.tail = bitsOfBytes f.payload ++ bitsOf 16 (crc f.checkedBits).toNat := rfl
  refine Bool.eq_false_iff.mpr fun hu => ?_
  rw [receptionUnsound_iff, receivedBits_received hcls hsub hsender haddressee hlen, hlength, htail, List.length_append,
    length_bitsOf, ← length_bitsOfBytes, List.drop_left] at hu
  rcases hu with hfault | hlong | hshort | hcheck
  · cases hfault
  · omega
  · exact hshort rfl
  · exact hcheck rfl

/-- Settles O28: the marks are those of `marksFor` and `senderMarks`, and what follows the end field leaves them. -/
theorem marksDriven : Obligations.MarksDriven := by
  refine ⟨fun s c r h => ?_, fun s c found hc hown => ?_, fun f h1 h2 h3 h4 h5 => receptionUnsound_received h1 h2 h3 h4 h5⟩
  · obtain ⟨hc, hfollows⟩ := h
    let u := (s.endField (s.marksFor c r)).failFlight
    have hexec : exec (.frameAbortedOrBusy r) s = .next (settle c s u) := by
      refine congrArg Host.Outcome.next ?_
      rw [onRunning_some hc]
      exact if_pos hfollows
    have hmarks : (settle c s u).lc.marks = s.marksFor c r := (settle_marks c s u).trans (failFlight_marks _)
    refine ⟨_, hexec, ?_, ?_, ?_, ⟨?_, ?_, ?_, ?_⟩, ?_, ?_, ?_⟩
    · rw [hmarks]
      exact marksFor_abort_iff
    · rw [hmarks]
      exact marksFor_busy_iff hc
    · exact settle_idle_false (failFlight_lc _).2
    all_goals simp [u]
  · let u := (s.endField (s.senderMarks c found)).abortOwn c
    have hexec : exec (.ownFrameAborted found) s = .next (settle c s u) := by
      refine congrArg Host.Outcome.next ?_
      rw [onRunning_some hc]
      exact if_pos (by simpa [State.sending] using hown)
    have hmarks : (settle c s u).lc.marks = s.senderMarks c found := (settle_marks c s u).trans (abortOwn_marks _ c)
    refine ⟨_, hexec, ?_, ?_⟩
    · rw [hmarks, senderMarks_abort, Bool.or_eq_true, receptionUnsound_iff]
    · rw [hmarks, senderMarks_busy, marksFor_busy_iff hc]
      exact and_iff_right rfl

end Sys2Proof.Machine


namespace Sys2Proof.Machine
open Sys2Proof

/-! ## Queries: the queue, and the frame turned away at a full one (R141, R142) -/

theorem held_of_tank {s t : State} (h : t.tank = s.tank) : t.held = s.held := congrArg Prod.snd h

section
variable (s : State) (c : Image)

theorem turnAway_marks : s.turnAway.lc.marks = { abort := false, busy := true } := failFlight_marks _

theorem turnAway_activity : s.turnAway.ac.activity = s.ac.activity := by
  obtain ⟨l, w, k, h⟩ := failFlight_ends (s.endField { abort := false, busy := true })
  unfold State.turnAway
  rw [h]
  rfl

/-- The request that a QUERY brings, at the queue's end. -/
def State.enqueue (s : State) (f : Frame) : State :=
  s.mapRs fun r => { r with queue := r.queue ++ [{ requester := f.sender, kind := queryKindOf f.payload }] }

theorem takeQuery_of_taken {f : Frame} (hf : f.fromListenerTo c.station = true)
    (hm : s.mu.membership.takesQueries = true) : s.takeQuery c f = (s.enqueue f).wakeTrigger c :=
  if_pos (by rw [hf, hm]; rfl)

theorem takeQuery_of_not_taken {f : Frame}
    (h : f.fromListenerTo c.station = false ∨ s.mu.membership.takesQueries = false) : s.takeQuery c f = s := by
  refine if_neg ?_
  rw [Bool.and_eq_true]
  rintro ⟨hf, hm⟩
  rcases h with h | h
  · exact absurd hf (by rw [h]; decide)
  · exact absurd hm (by rw [h]; decide)

theorem takeQuery_marks (f : Frame) : (s.takeQuery c f).lc.marks = s.lc.marks := by
  unfold State.takeQuery
  split
  · exact wakeTrigger_marks _ c
  · rfl

theorem takeQuery_held (f : Frame) : (s.takeQuery c f).held = s.held := by
  unfold State.takeQuery
  split
  · exact wakeTrigger_held _ c
  · rfl

theorem takeQuery_tank {f : Frame} (ha : s.ac.activity ≠ .dormant) : (s.takeQuery c f).tank = s.tank := by
  unfold State.takeQuery
  split
  · exact wakeTrigger_tank (s := s.enqueue f) (c := c) ha
  · rfl

end

section
variable {s : State} {c : Image} {b : FrameBody} (h : Hears s c)
include h

theorem query_turned_away (hb : s.drivesBusy c b.sender.toNat b.addressee.toNat = true) :
    exec (.query b) s = .next (settle c s s.turnAway) := by
  refine congrArg Host.Outcome.next ?_
  rw [onRunning_some h.1, if_pos h.2]
  exact congrArg (settle c s) (if_pos hb)

theorem query_accepted (hb : s.drivesBusy c b.sender.toNat b.addressee.toNat = false) (h0 : b.sender.toNat ≠ 0)
    (h63 : b.sender.toNat ≠ 63) :
    exec (.query b) s = .next (settle c s (((s.heardFrame c (bodyFrame b 6 0)).takeQuery c (bodyFrame b 6 0)).followUp c
      (s.arrival c (bodyFrame b 6 0)) (bodyFrame b 6 0) (s.concluded c (bodyFrame b 6 0)))) := by
  have hn : ¬ s.drivesBusy c b.sender.toNat b.addressee.toNat = true := by rw [hb]; decide
  refine congrArg Host.Outcome.next ?_
  rw [← receive_hears h (fromStation_of_ne h0 h63) fun _ _ t => t.takeQuery c (bodyFrame b 6 0)]
  unfold receive
  rw [onRunning_some h.1, onRunning_some h.1, if_pos h.2, if_pos h.2]
  exact congrArg (settle c s) (if_neg hn)

end

/-- Settles O51: at a full queue the frame is turned away; any other is heard, and its owner is `takeQuery`. -/
theorem queryFrame : Obligations.QueryFrame := by
  intro s c b h hl
  obtain ⟨h49, h62⟩ := isListener_iff.mp hl
  have hbusy : s.drivesBusy c b.sender.toNat b.addressee.toNat = true ↔
      b.addressee.toNat = c.station ∧ s.mu.membership ≠ .fallback ∧ 4 ≤ s.rs.queue.length := by
    rw [drivesBusy_iff h.1, hl]
    simp
  cases hb : s.drivesBusy c b.sender.toNat b.addressee.toNat with
  | true =>
    obtain ⟨haddressee, hmember, hfull⟩ := hbusy.mp hb
    refine ⟨_, query_turned_away h hb, fun _ _ hroom => absurd hfull (by omega), fun _ _ _ => ?_, fun hno => ?_,
      turnAway_tables s, turnAway_spills s, held_of_tank (turnAway_tank s), fun _ => turnAway_tank s, turnAway_weather s⟩
    · exact ⟨turnAway_queue s, by rw [turnAway_marks], turnAway_member s, turnAway_activity s⟩
    · exact hno.elim (absurd haddressee) fun hm => absurd hm hmember
  | false =>
    let f := bodyFrame b 6 0
    let x := s.heardFrame c f
    let u := (x.takeQuery c f).followUp c (s.arrival c f) f (s.concluded c f)
    have hrs : u.rs = (x.takeQuery c f).rs := followUp_rs _ c _ _ rfl
    have hac : u.ac = (x.takeQuery c f).ac := followUp_ac _ c _ _ rfl
    have hxrs : x.rs = s.rs := heardFrame_rs s c f
    have hxact : x.ac.activity = s.ac.activity := heardFrame_activity s c f
    have hmarks : u.lc.marks.busy = false := by
      rw [followUp_marks _ c _ rfl, takeQuery_marks, heardFrame_marks]
      rfl
    have hxtank : x.tank = s.tank := heardFrame_tank s c f
    have hutank : u.tank = (x.takeQuery c f).tank := followUp_tank ..
    obtain ⟨-, htables⟩ := followUp_keeps (u := x.takeQuery c f) c (s.arrival c f) (s.concluded c f) (f := f) rfl
    refine ⟨u, query_accepted h hb (by omega) (by omega), fun haddressee hmember hroom => ?_,
      fun haddressee hmember hfull => ?_, fun hno => ?_, ?_, ?_, ?_, fun ha => ?_, ?_⟩
    · have htaken : x.takeQuery c f = (x.enqueue f).wakeTrigger c := by
        refine takeQuery_of_taken x c (fromListenerTo_of hl haddressee) ?_
        rw [heardFrame_membership]
        exact (takesQueries_iff h.1).mpr hmember
      refine ⟨?_, hmarks, fun ha => ?_⟩
      · rw [hrs, htaken, wakeTrigger_queue, ← hxrs]
        rfl
      · rw [hac, htaken]
        exact wakeTrigger_wakes _ c (.inl (hxact.trans ha))
    · exact absurd (hbusy.mpr ⟨haddressee, hmember, hfull⟩) (by rw [hb]; decide)
    · have hleft : x.takeQuery c f = x := by
        refine takeQuery_of_not_taken x c (hno.imp (fun ha => not_fromListenerTo (.inr ha)) fun hm => ?_)
        rw [heardFrame_membership, hm]
        rfl
      rw [hrs, hac, hleft, hxrs]
      exact ⟨rfl, hmarks, hxact⟩
    · exact htables.trans ((takeQuery_tables x c f).trans (heardFrame_tables s c f))
    · exact (followUp_spills ..).trans ((takeQuery_spills x c f).trans (heardFrame_spills s c f))
    · exact (held_of_tank hutank).trans ((takeQuery_held x c f).trans (held_of_tank hxtank))
    · exact hutank.trans ((takeQuery_tank x c (by rw [hxact]; exact ha)).trans hxtank)
    · exact (followUp_weather ..).trans ((takeQuery_weather x c f).trans (heardFrame_weather s c f))

end Sys2Proof.Machine

namespace Sys2Proof.Machine
open Sys2Proof

/-! ## LINE_IDLE (R169, R177, R178) -/

section
variable {x : State} {c : Image}

/-- Where the LC may not offer, it leaves the state. -/
theorem offer_of_not_mayOffer {fresh : Bool} (h : x.mayOffer = false) : x.offer c fresh = x := by
  unfold State.offer
  rw [h]
  rfl

/-- A line that is idle without an offer bears an own frame. -/
theorem sending_of_not_mayOffer (hi : x.lc.idle = true) (h : x.mayOffer = false) :
    x.flight.isSome = true ∨ x.lc.orphan.isSome = true := by
  unfold State.mayOffer at h
  rw [hi] at h
  cases hf : x.flight with
  | some id => exact .inl rfl
  | none =>
    cases ho : x.lc.orphan with
    | some f => exact .inr rfl
    | none =>
      rw [hf, ho] at h
      cases h

/-- At the moment the line becomes idle an own frame starts, or one is still on the line, or there is none to start. -/
theorem offer_at_idle (hi : x.lc.idle = true) :
    ((x.offer c true).lc.idle = false ∧ (x.offer c true).flight.isSome = true) ∨
      x.offer c true = x ∧ (x.flight.isSome = true ∨ x.lc.orphan.isSome = true ∨ ∀ id, x.eligible id = false) := by
  cases hm : x.mayOffer with
  | false => exact .inr ⟨offer_of_not_mayOffer hm, (sending_of_not_mayOffer hi hm).imp_right .inl⟩
  | true =>
    cases hb : x.bestSlot with
    | none => exact .inr ⟨offer_none c true hb, .inr (.inr (bestSlot_none hb))⟩
    | some id =>
      obtain ⟨content, hp⟩ := eligible_pending (bestSlot_spec hb).1
      have hflight : x.flight = none := by
        unfold State.mayOffer at hm
        simp only [Bool.and_eq_true, Option.isNone_iff_eq_none] at hm
        exact hm.1.2
      rw [offer_fresh hm hb, startFlight_flight hp hflight]
      exact .inl ⟨startFlight_idle hp, rfl⟩

end

/-- Settles O23: the blocks leave the line idle, and the offer is the one at that moment. -/
theorem lineIdle : Obligations.LineIdle := by
  intro s c hc
  let u := s.mapLc fun l => { l with following := true, idle := true }
  have hexec : exec .lineIdle s = .next (settle c s.lineBusy u) := by
    show execLineIdle s = _
    unfold execLineIdle
    rw [hc]
  refine ⟨_, hexec, settle_following .., ?_, ?_, ⟨?_, ?_, ?_, ?_⟩, ?_, ?_⟩
  · intro hbusy
    obtain ⟨-, hflight⟩ | ⟨hstays, -⟩ := offer_at_idle (c := c) (settleBlocks_idle c s.lineBusy u)
    · exact hflight
    · have hidle : (settle c s.lineBusy u).lc.idle = true :=
        (congrArg (·.lc.idle) hstays).trans (settleBlocks_idle c s.lineBusy u)
      rw [hidle] at hbusy
      cases hbusy
  · intro hidle
    obtain ⟨hbusy, -⟩ | ⟨hstays, hwhy⟩ := offer_at_idle (c := c) (settleBlocks_idle c s.lineBusy u)
    · exact absurd hidle (ne_true_of_eq_false hbusy)
    · rwa [← hstays] at hwhy
  all_goals simp [u]

end Sys2Proof.Machine

namespace Sys2Proof.Machine
open Sys2Proof

/-! ## Own frames that are not accepted (R171, R176, R179, R181, R185) -/

/-- An own frame has failed: the line is not idle, these are the marks driven in its end field, and the tally is `n`. -/
def State.endFailed (s : State) (m : Marks) (n : Nat) : State :=
  (s.endField m).failFlight.mapLc fun l => { l with tally := n }

/-- The end of a frame whose slot has been emptied leaves the rest of the state (R185). -/
theorem failFlight_of_none {s : State} (h : s.flight = none) : s.failFlight = s.mapLc fun l => { l with orphan := none } := by
  unfold State.failFlight
  rw [h]

/-- A cancelled CLAIM that fails takes the standing withdraw mark away (R30, R179). -/
theorem failFlight_withdrawMark {s : State} (h : s.flight = some .claim) (hk : s.flightCancelled .claim = true) :
    s.failFlight.sa.withdrawMark = false := by
  unfold State.failFlight
  rw [h]
  dsimp only
  rw [if_pos hk]
  rfl

/-- A cancelled DORMANT that fails takes the wake mark away (R162, R179). -/
theorem failFlight_wakeMark {s : State} (h : s.flight = some .dormant) (hk : s.flightCancelled .dormant = true) :
    s.failFlight.ac.wakeMark = false := by
  unfold State.failFlight
  rw [h]
  dsimp only
  rw [if_pos hk]
  rfl

section
variable (s : State) (m : Marks) (n : Nat)

theorem endFailed_idle : (s.endFailed m n).lc.idle = false := (failFlight_lc (s.endField m)).2

theorem endFailed_tally : (s.endFailed m n).lc.tally = n := rfl

/-- Nothing but the line, the frame's slot and its owner's mark is touched. -/
theorem endFailed_views : (s.endFailed m n).tables = s.tables ∧ (s.endFailed m n).member = s.member ∧
    (s.endFailed m n).spills = s.spills ∧ (s.endFailed m n).tank = s.tank ∧ (s.endFailed m n).weather = s.weather := by
  unfold State.endFailed
  simp

theorem endField_failFlight_tally : (s.endField m).failFlight.lc.tally = s.lc.tally := (failFlight_lc (s.endField m)).1

/-- A failed flight whose tally stays. -/
theorem endFailed_same_tally : s.endFailed m s.lc.tally = (s.endField m).failFlight := by
  unfold State.endFailed
  rw [← endField_failFlight_tally s m]
  rfl

/-- An abort short of a line fault raises the tally by 1 (R181). -/
theorem abortOwn_of_short (c : Image) (hf : s.flight.isSome = true) (ht : s.lc.tally + 1 < 8) :
    (s.endField m).abortOwn c = s.endFailed m (s.lc.tally + 1) := by
  rw [← endField_failFlight_tally s m] at ht ⊢
  have hshort : ¬ faultTally ≤ (s.endField m).failFlight.lc.tally + 1 := Nat.not_le.mpr ht
  unfold State.abortOwn
  rw [endField_flight, if_pos hf]
  exact if_neg hshort

/-- With no flight there is no abort to count (R185). -/
theorem abortOwn_of_none (c : Image) (hf : s.flight = none) : (s.endField m).abortOwn c = s.endFailed m s.lc.tally := by
  rw [endFailed_same_tally]
  unfold State.abortOwn
  rw [endField_flight, hf]
  rfl

/-- With no flight no slot backs off (R185). -/
theorem busyOwn_of_none (hf : s.flight = none) : (s.endField m).busyOwn = s.endFailed m s.lc.tally := by
  rw [endFailed_same_tally]
  unfold State.busyOwn
  rw [endField_flight, hf]

variable {s}

theorem mapLc_tally_slot (j : SlotId) : (s.mapLc fun l => { l with tally := n }).slot j = s.slot j :=
  slot_mapLc s _ (fun _ => rfl) j

/-- The failed flight's slot is resolved (R176, R179). -/
theorem endFailed_slot {id : SlotId} (h : s.flight = some id) : (s.endFailed m n).slot id = (s.slot id).failed := by
  unfold State.endFailed
  rw [mapLc_tally_slot, slot_failFlight _ id ((endField_flight s m).trans h), endField_slot]

theorem endFailed_slot_other {id j : SlotId} (h : s.flight = some id) (hj : j ≠ id) :
    (s.endFailed m n).slot j = s.slot j := by
  unfold State.endFailed
  rw [mapLc_tally_slot, slot_other_failFlight _ id j ((endField_flight s m).trans h) hj, endField_slot]

theorem endFailed_slot_of_none (h : s.flight = none) (j : SlotId) : (s.endFailed m n).slot j = s.slot j := by
  unfold State.endFailed
  rw [failFlight_of_none ((endField_flight s m).trans h)]
  rfl

theorem endFailed_orphan_of_none (h : s.flight = none) : (s.endFailed m n).lc.orphan = none := by
  unfold State.endFailed
  rw [failFlight_of_none ((endField_flight s m).trans h)]
  rfl

theorem sending_of_flight {id : SlotId} (h : s.flight = some id) : s.sending = true := by
  unfold State.sending
  rw [h]
  rfl

theorem sending_of_orphan (h : s.lc.orphan.isSome = true) : s.sending = true := by
  unfold State.sending
  rw [h, Bool.or_true]

end

section
variable {s : State} {c : Image}

/-! A frame that ends with no end field leaves the marks last driven: there `lineBusy` is `endField` with those. -/

theorem exec_lostArbitration (hc : s.running = some c) (hs : s.sending = true) :
    exec .lostArbitration s = .next (settle c s (s.endFailed s.lc.marks s.lc.tally)) := by
  rw [endFailed_same_tally]
  exact onRunning_of hc hs _

theorem exec_frameBreakOff (h : Hears s c) (hs : s.sending = true) :
    exec .frameBreakOff s = .next (settle c s ((s.endField s.lc.marks).abortOwn c)) := by
  refine (onRunning_of h.1 h.2 _).trans ?_
  rw [if_pos hs]
  rfl

theorem exec_ownFrameAborted (hc : s.running = some c) (hs : s.sending = true) (found : SenderFindings) :
    exec (.ownFrameAborted found) s = .next (settle c s ((s.endField (s.senderMarks c found)).abortOwn c)) :=
  onRunning_of hc hs _

theorem exec_ownFrameBusy (hc : s.running = some c) (hs : s.sending = true) :
    exec .ownFrameBusy s = .next (settle c s (s.endField .clear).busyOwn) :=
  onRunning_of hc hs _

/-- Short of a line fault the three outcomes end the flight alike, but for the tally (R181). -/
theorem exec_failed_flight {i : Instr} {found : SenderFindings} {id : SlotId}
    (hi : i ∈ [Instr.lostArbitration, .ownFrameAborted found, .frameBreakOff]) (h : Hears s c) (hf : s.flight = some id)
    (ht : i = .lostArbitration ∨ s.lc.tally + 1 < 8) :
    ∃ m, exec i s = .next (settle c s
      (s.endFailed m (if i = .lostArbitration then s.lc.tally else s.lc.tally + 1))) := by
  have hs := sending_of_flight hf
  have hsome : s.flight.isSome = true := Option.isSome_of_eq_some hf
  simp only [List.mem_cons, List.not_mem_nil, or_false] at hi
  obtain rfl | rfl | rfl := hi
  · exact ⟨_, exec_lostArbitration h.1 hs⟩
  · have hshort : s.lc.tally + 1 < 8 := ht.resolve_left nofun
    exact ⟨_, by rw [exec_ownFrameAborted h.1 hs, abortOwn_of_short s _ c hsome hshort, if_neg nofun]⟩
  · have hshort : s.lc.tally + 1 < 8 := ht.resolve_left nofun
    exact ⟨_, by rw [exec_frameBreakOff h hs, abortOwn_of_short s _ c hsome hshort, if_neg nofun]⟩

/-- The end of a frame whose slot has been emptied is the same in all four outcomes (R185). -/
theorem exec_failed_orphan {i : Instr} {found : SenderFindings}
    (hi : i ∈ [Instr.lostArbitration, .ownFrameAborted found, .frameBreakOff, .ownFrameBusy]) (h : Hears s c)
    (hf : s.flight = none) (ho : s.lc.orphan.isSome = true) :
    ∃ m, exec i s = .next (settle c s (s.endFailed m s.lc.tally)) := by
  have hs := sending_of_orphan ho
  simp only [List.mem_cons, List.not_mem_nil, or_false] at hi
  obtain rfl | rfl | rfl | rfl := hi
  · exact ⟨_, exec_lostArbitration h.1 hs⟩
  · exact ⟨_, by rw [exec_ownFrameAborted h.1 hs, abortOwn_of_none s _ c hf]⟩
  · exact ⟨_, by rw [exec_frameBreakOff h hs, abortOwn_of_none s _ c hf]⟩
  · exact ⟨_, by rw [exec_ownFrameBusy h.1 hs, busyOwn_of_none s _ hf]⟩

end

/-- Settles O25: each outcome is `endFailed`, of a flight and of an orphan. -/
theorem failedFlights : Obligations.FailedFlights := by
  refine ⟨fun s c found i id hi h hf ht => ?_, fun s c found i hi h hf ho => ?_⟩
  · obtain ⟨m, hexec⟩ := exec_failed_flight hi h hf ht
    obtain ⟨hpending, hjoined, hemptied, hreplaced⟩ := failed_cases (s.slot id)
    refine ⟨_, hexec, endFailed_idle .., ?_, ?_, endFailed_tally .., fun j hj => endFailed_slot_other _ _ hf hj, ?_⟩
    · rintro rfl hk
      exact failFlight_withdrawMark ((endField_flight s m).trans hf) hk
    · rintro rfl hk
      exact failFlight_wakeMark ((endField_flight s m).trans hf) hk
    · rw [endFailed_slot _ _ hf]
      exact ⟨hpending, hjoined, hemptied, hreplaced, endFailed_views ..⟩
  · obtain ⟨m, hexec⟩ := exec_failed_orphan hi h hf ho
    obtain ⟨htables, hmember, -⟩ := endFailed_views s m s.lc.tally
    exact ⟨_, hexec, endFailed_orphan_of_none _ _ hf, endFailed_idle .., endFailed_tally ..,
      endFailed_slot_of_none _ _ hf, htables, hmember⟩

end Sys2Proof.Machine

namespace Sys2Proof.Machine
open Sys2Proof

/-! ## Busy outcomes and the line's timers (R183, R184) -/

/-- A reply short of its fourth busy outcome waits and counts it. -/
theorem backOff_reply {x : Slot} {content : Content} (h : x.state = .pending content) (hb : x.busy + 1 < 4) :
    x.backOff true = { x with backoff := some 100, busy := x.busy + 1 } := by
  unfold Slot.backOff
  rw [h]
  dsimp only
  rw [decide_eq_false (show ¬ abandonCount ≤ x.busy + 1 from Nat.not_le.mpr hb)]
  rfl

/-- The fourth busy outcome abandons a reply. -/
theorem backOff_abandons {x : Slot} {content : Content} (h : x.state = .pending content) (hb : 4 ≤ x.busy + 1) :
    x.backOff true = Slot.blank := by
  unfold Slot.backOff
  rw [h]
  dsimp only
  rw [decide_eq_true (show abandonCount ≤ x.busy + 1 from hb)]
  rfl

section
variable {s : State} {id : SlotId} (m : Marks)

/-- A busy flight fails, and its slot backs off. -/
theorem busyOwn_eq (h : s.flight = some id) : (s.endField m).busyOwn =
    (s.endFailed m s.lc.tally).setSlot id ((s.slot id).failed.backOff (isReplySlot id)) := by
  rw [← endFailed_slot m s.lc.tally h, endFailed_same_tally]
  unfold State.busyOwn
  rw [endField_flight, h]

theorem busyOwn_slot (h : s.flight = some id) :
    (s.endField m).busyOwn.slot id = (s.slot id).failed.backOff (isReplySlot id) := by
  rw [busyOwn_eq m h, setSlot_slot_same]

theorem busyOwn_slot_other {j : SlotId} (h : s.flight = some id) (hj : j ≠ id) :
    (s.endField m).busyOwn.slot j = s.slot j := by
  rw [busyOwn_eq m h, setSlot_slot_other _ _ hj.symm, endFailed_slot_other _ _ h hj]

end

/-- Settles O27: the busy flight's slot by what its failure leaves in it, and each timer's expiry. -/
theorem busyOutcomeAndLineTimers : Obligations.BusyOutcomeAndLineTimers := by
  refine ⟨fun s c id hc hf => ?_, fun s c hc => ⟨fun id hb => ?_, fun hs => ?_⟩⟩
  · obtain ⟨hpending, hjoined, hemptied, hreplaced⟩ := failed_cases (s.slot id)
    refine ⟨_, exec_ownFrameBusy hc (sending_of_flight hf), ?_, fun j hj => busyOwn_slot_other _ hf hj, ?_⟩
    · rw [busyOwn_eq _ hf]
      rfl
    rw [busyOwn_slot _ hf]
    refine ⟨fun f hx => ⟨fun hr => ?_, fun hr hb => ?_, fun hr hb => ?_⟩, fun f n hx hr => ?_, fun f hx => ?_,
      fun f n hx hr => ?_, ?_⟩
    · rw [hpending f hx, hr]
      exact backOff_pending rfl
    · rw [hpending f hx, hr]
      exact backOff_reply rfl hb
    · rw [hpending f hx, hr]
      exact backOff_abandons rfl hb
    · rw [hjoined f n hx, hr]
      exact backOff_pending rfl
    · rw [hemptied f hx]
      exact backOff_empty rfl
    · rw [hreplaced f n hx, hr]
      exact backOff_pending rfl
    · simp
  · refine ⟨_, onRunning_of hc hb _, setSlot_slot_same .., fun j hj => setSlot_slot_other _ _ hj.symm, ?_⟩
    simp
  · exact ⟨_, onRunning_of hc hs _, rfl, fun j => slot_mapLc _ _ (fun _ => rfl) j, rfl, rfl, rfl⟩

end Sys2Proof.Machine

namespace Sys2Proof.Machine
open Sys2Proof

/-! ## Supply and the load (R187 to R189, R193, R194) -/

/-- A power-on state with its load begun: only the tide input, the counter of free values and the queue are the old ones. -/
theorem exec_powerOn (s : State) : exec .powerOn s = .next { State.reset with
    supplyGood := true, cl := { ClState.reset with load := .reading }
    tidePin := s.tidePin, freeUsed := s.freeUsed, pending := s.pending } := rfl

theorem exec_supplyBelowThreshold (s : State) : exec .supplyBelowThreshold s = .next { State.reset with
    tidePin := s.tidePin, freeUsed := s.freeUsed, pending := s.pending } := rfl

section
variable {s : State}

theorem exec_resetLineRelease (hs : s.supplyGood = true) (hh : s.resetHeld = true) :
    exec .resetLineRelease s = .next { s with
      resetHeld := false, cl := { ClState.reset with load := .reading, afterPulse := true } } :=
  congrArg Host.Outcome.next (if_pos (Bool.and_eq_true_iff.mpr ⟨hs, hh⟩))

theorem exec_configReadAttempt (read : ReadAttempt) (h : s.attempting = true) :
    exec (.configReadAttempt read) s = .next (s.readAttempt read) := congrArg Host.Outcome.next (if_pos h)

theorem readAttempt_failed {read : ReadAttempt} (h : goodBytes read = none) : s.readAttempt read = s.failedAttempt := by
  unfold State.readAttempt
  rw [h]

theorem readAttempt_unfit {read : ReadAttempt} {l : List Byte} (h : goodBytes read = some l) (hj : judgeImage l = none) :
    s.readAttempt read = s.badLoad := by
  unfold State.readAttempt
  rw [h]
  dsimp only
  rw [hj]

/-- R188: before the third, a failed attempt is counted and waits. -/
theorem failedAttempt_waits (h : s.cl.attempts < 2) : s.failedAttempt =
    { s with cl := { s.cl with attempts := s.cl.attempts + 1, retry := some 10 } } :=
  if_neg (show ¬ 3 ≤ s.cl.attempts + 1 by omega)

/-- R188, R193: the third failed attempt makes the load bad. -/
theorem failedAttempt_third (h : s.cl.attempts = 2) : s.failedAttempt =
    { s with cl := { s.cl with attempts := 3, load := .bad, image := none, retry := none } } := by
  have hbad : s.failedAttempt = (s.mapCl fun l => { l with attempts := l.attempts + 1 }).badLoad :=
    if_pos (show 3 ≤ s.cl.attempts + 1 by omega)
  rw [hbad, show (3 : Nat) = s.cl.attempts + 1 by omega]
  rfl

/-- R188: with the wait over, a READING load attempts again. -/
theorem attempting_of_reading (hl : s.cl.load = .reading) (hr : s.cl.retry = none) : s.attempting = true := by
  simp [State.attempting, hl, hr]

end

/-- Settles O11: power-on and supply loss give the power-on state, the release begins the load anew, and a read attempt
fails, reads an unfit image, or waits for the next. -/
theorem supplyAndLoading : Obligations.SupplyAndLoading := by
  refine ⟨fun s => ⟨⟨_, exec_powerOn s, ?_⟩, ⟨_, exec_supplyBelowThreshold s, ?_⟩⟩,
    fun s hs hh => ⟨_, exec_resetLineRelease hs hh, rfl, rfl, rfl, rfl, rfl, rfl, rfl⟩,
    fun s => ⟨fun read ha hg hn => ?_, fun read ha hg hn => ?_, fun read l ha hg hj => ?_, fun hl => ?_⟩⟩
  · exact ⟨rfl, rfl, rfl, rfl, rfl, rfl, rfl, rfl, rfl, rfl, rfl, rfl, rfl, rfl, rfl, rfl, rfl, rfl⟩
  · exact ⟨rfl, rfl, rfl, rfl, rfl, rfl, rfl, rfl, rfl, rfl, rfl, rfl, rfl⟩
  · rw [exec_configReadAttempt read ha, readAttempt_failed hg, failedAttempt_waits hn]
  · rw [exec_configReadAttempt read ha, readAttempt_failed hg, failedAttempt_third hn]
  · rw [exec_configReadAttempt read ha, readAttempt_unfit hg hj]
    rfl
  · exact ⟨_, rfl, attempting_of_reading hl rfl, rfl⟩

/-! ## Station seconds (R195) -/

/-- Settles O15: the tick with supply and without, and the wrap of a 32-bit count. -/
theorem stationSecondsTick : Obligations.StationSecondsTick := by
  refine fun s => ⟨fun hs => ⟨_, congrArg Host.Outcome.next (if_pos hs), rfl, fun hmax => ?_⟩, fun hs => ?_⟩
  · show s.seconds + 1 = 0
    rw [hmax]
    rfl
  · exact congrArg Host.Outcome.next (if_neg (Bool.eq_false_iff.mp hs))

/-! ## The checks of an image (R190, R191, Tables 10-1 and 10-2) -/

theorem within_iff {low high n : Nat} : within low high n = true ↔ low ≤ n ∧ n ≤ high := by simp [within]

theorem distinct_iff_nodup {l : List Nat} : distinct l = true ↔ l.Nodup := by
  induction l with
  | nil => simp [distinct]
  | cons x l ih => simp [distinct, ih]

/-- An image is judged good exactly when it passes the checks of both tables, and is latched as read. -/
theorem judgeImage_eq_some_iff {l : List Byte} {c : Image} : judgeImage l = some c ↔
    (codesInRange l = true ∧ imageInRange c = true ∧ imageCrossChecked c = true) ∧ readImage l = c := by
  have hguard : judgeImage l = some c ↔
      (codesInRange l && imageInRange (readImage l) && imageCrossChecked (readImage l)) = true ∧ readImage l = c := by
    unfold judgeImage
    simp only [Option.ite_none_right_eq_some, Option.some.injEq]
  rw [hguard]
  refine and_congr_left fun he => ?_
  rw [he, Bool.and_eq_true, Bool.and_eq_true, and_assoc]

/-- Settles O14: the three checks of a good image, field by field. -/
theorem goodImageIsChecked : Obligations.GoodImageIsChecked := by
  intro l c h
  obtain ⟨⟨hcodes, hrange, hcross⟩, -⟩ := judgeImage_eq_some_iff.mp h
  simp only [codesInRange, Bool.and_eq_true, decide_eq_true_eq, and_assoc] at hcodes
  simp only [imageCrossChecked, Bool.and_eq_true, decide_eq_true_eq, and_assoc] at hcross
  simp only [imageInRange, Bool.and_eq_true, and_assoc] at hrange
  simp only [Bool.or_eq_true, decide_eq_true_eq, List.all_eq_true, within_iff, distinct_iff_nodup, isListener_iff] at hrange
  obtain ⟨hzones, hrate, hmode⟩ := hcodes
  obtain ⟨hstation, hzone, hlength, hheeded, hdistinct, hpool, hhold, hempty, hdrawdown, hclaim, hfull, hcapture,
    hhysteresis, hcrest, hsample, hdormantSample, honset, hsettle, hmerge, hpulse, ⟨h5, -⟩, -, ⟨-, h5severe⟩, ⟨h15, -⟩, -,
    ⟨-, h15severe⟩, hrefresh, hlifetime, hstep, hcalm, hpresence, habsence, hsilence, hstranding, htravel, hpark, hdelay,
    hdormantPresence, hrecovery, hwatermark, htarget⟩ := hrange
  exact ⟨hstation, hzone, ⟨hlength, hdistinct, hheeded⟩, hzones, hrate, hpool, hhold, ⟨hempty, hdrawdown, hclaim, hfull⟩,
    ⟨hcapture, hhysteresis, hcrest⟩, hsample, hdormantSample, honset, hsettle, hmerge, hpulse,
    ⟨h5, h5severe, h15, h15severe⟩, hrefresh, hlifetime, hstep, hcalm, hpresence, habsence, hsilence, hstranding, htravel,
    hpark, hdelay, hdormantPresence, hrecovery, hmode, hwatermark, htarget, hcross⟩

end Sys2Proof.Machine

namespace Sys2Proof.Machine
open Sys2Proof

/-! ## The queue of commands and the passing of a ms (log entries 2, 28 and 41) -/

/-- A ms passes at every entry of the table alike; a void table reads entries without an age. -/
theorem zoneEntry_ageAlerts (s : State) (z : Nat) :
    s.ageAlerts.zoneEntry z = { s.zoneEntry z with age := (s.zoneEntry z).age.map (· + 1) } := by
  unfold State.zoneEntry State.ageAlerts
  rw [mapRu_ru]
  cases s.ru.alerts with
  | none => rfl
  | some l =>
    by_cases hz : z = 0
    · subst hz
      rfl
    · dsimp only [Option.map_some]
      rw [if_neg hz, if_neg hz]
      exact List.getD_map l ZoneEntry.blank fun e => { e with age := e.age.map (· + 1) }

/-- Settles O1: the front command, and on an empty queue the passing of a ms in DOWN and outside it. -/
theorem queueFrontRuns : Obligations.QueueFrontRuns := by
  refine ⟨fun i rest s => step_front rfl, fun s he hr => ?_, fun s c he hr => ?_⟩
  · rw [step_empty he, elapse_of_down hr]
  · refine ⟨s.ageAlerts.ageWindow, ?_, rfl, zoneEntry_ageAlerts s⟩
    rw [step_empty he, elapse_of_running hr]

/-- A view of the chip shows the queue. -/
theorem pending_of_chip {s t : State} (h : t.chip = s.chip) : t.pending = s.pending :=
  congrArg (fun v => v.2.2.2.2.2) h

theorem onRunning_chip {s : State} (guard : Image → Bool) {body : Image → State} (h : ∀ c, (body c).chip = s.chip) :
    (s.onRunning guard body).chip = s.chip :=
  onRunning_keeps State.chip (fun c b s => settle_chip c b s) s guard body fun c _ _ => h c

/-- No command is refused or faults: only the damage of a sensor's reply is judged before the command answers. -/
theorem exec_answers (i : Instr) (s : State) : ∃ t, exec i s = .next t := by
  cases i with
  | sensorReply reply =>
    show ∃ t, execSensorReply reply s = .next t
    unfold execSensorReply
    split
    · exact ⟨_, rfl⟩
    · exact ⟨_, rfl⟩
  | _ => exact ⟨_, rfl⟩

/-- A command that acts on a running station alone leaves the supply, the inputs, the configuration and the queue. -/
theorem exec_chip {i : Instr} {s t : State} (hi : actsInDown i = false) (he : exec i s = .next t) : t.chip = s.chip := by
  cases i with
  | powerOn | supplyBelowThreshold | resetLinePulse | resetLineRelease | configReadAttempt | configRetryWaitExpiry
  | stationSecondsTick | tideInputChange => cases hi
  | lineIdle =>
    obtain rfl := Host.Outcome.next.inj he
    split
    · rfl
    · exact settle_chip _ _ _
  | sensorReply reply =>
    unfold exec execSensorReply at he
    dsimp only at he
    split at he <;> obtain rfl := Host.Outcome.next.inj he
    · rfl
    · exact onRunning_chip _ fun c => makeSample_chip s c _ _
  | query b =>
    obtain rfl := Host.Outcome.next.inj he
    refine onRunning_chip _ fun c => ?_
    split
    · exact turnAway_chip s
    · exact acceptFrame_keeps State.chip c _ _ s (by simp) (by simp) (by simp) (by simp)
  | table | absent | reclaim | curtail | yield | release | withdraw | claim | alert | join | status | dormant | recack
  | period | clear | restart | record | norec | counts | conditions | notice | unlistedSubKindFrame =>
    obtain rfl := Host.Outcome.next.inj he
    exact receive_chip _ _ s fun c a t => by simp [noOwner, apply_ite State.chip]
  | _ =>
    obtain rfl := Host.Outcome.next.inj he
    exact onRunning_chip _ fun c => by simp [apply_ite State.chip]

/-- A good load latches its image and starts the station's timers; it takes no command from the queue. -/
theorem goodLoad_pending (s : State) (c : Image) : (s.goodLoad c).pending = s.pending := by
  obtain ⟨slots, he⟩ := goodLoad_eq s c
  rw [he]

theorem readAttempt_pending (s : State) (read : ReadAttempt) : (s.readAttempt read).pending = s.pending := by
  unfold State.readAttempt State.failedAttempt
  dsimp only
  split
  · split <;> rfl
  · split
    · rfl
    · rw [settle_pending, goodLoad_pending]

/-- Every command leaves the queue: what acts in DOWN too changes the supply, the inputs and the configuration, and carries
the queue over even where every block is reset. -/
theorem exec_pending {i : Instr} {s t : State} (he : exec i s = .next t) : t.pending = s.pending := by
  cases hi : actsInDown i with
  | false => exact pending_of_chip (exec_chip hi he)
  | true =>
    cases i with
    | powerOn | supplyBelowThreshold | configRetryWaitExpiry => obtain rfl := Host.Outcome.next.inj he; rfl
    | resetLinePulse =>
      obtain rfl := Host.Outcome.next.inj he
      split
      · have hcut : s.cutAtPulse.pending = s.pending := pending_of_chip (cutAtPulse_chip s)
        exact hcut
      · rfl
    | resetLineRelease | stationSecondsTick =>
      obtain rfl := Host.Outcome.next.inj he
      split <;> rfl
    | configReadAttempt read =>
      obtain rfl := Host.Outcome.next.inj he
      split
      · exact readAttempt_pending s read
      · rfl
    | tideInputChange level =>
      obtain rfl := Host.Outcome.next.inj he
      let s1 : State := { s with tidePin := level }
      have hwatch : (s1.onRunning (fun _ => !decide (level = s.tidePin)) fun _ => s1.timeTide level).pending = s1.pending :=
        pending_of_chip (onRunning_chip _ fun _ => timeTide_chip s1 level)
      exact hwatch
    | _ => cases hi

/-- Settles O2: every command answers, and its answer has the queue it was given. -/
theorem everyCommandCompletes : Obligations.EveryCommandCompletes := by
  intro i s
  obtain ⟨t, he⟩ := exec_answers i s
  exact ⟨t, he, exec_pending he⟩

end Sys2Proof.Machine
